-- ==== Sys2Proof/Word.lean ====
section
/-! DEFINITION. The plainest types: a byte of a link frame or induction line, and a tag number. -/

namespace Sys2Proof

/-- One byte of a link frame, or the eight content bits of an induction line character. -/
abbrev Byte := BitVec 8

/-- A tag number: exactly ten decimal digits, leading zeros significant (00_scope 5.4). Because the
length is fixed, the number below 10^10 and the digit string determine one another. -/
abbrev Tag := Fin 10000000000

end Sys2Proof
end

