-- ==== Sys2Proof/Syntax.lean ====
section
/-! DEFINITION. The commands: one constructor of `Instr` per row of spec/opcode_table.json, with the
operands each carries, and the names those operands use. -/

namespace Sys2Proof

/-- A link port (00_scope 3.2, R185): 0 the shore link, 1 the vessel link of slot A, 2 of slot B. -/
inductive LinkId where
  | shore | vesselA | vesselB
  deriving DecidableEq, Repr

/-- An induction station (chapter 2): I0, I1, I2 automatic, I3 the desk. -/
inductive IndId where
  | i0 | i1 | i2 | i3
  deriving DecidableEq, Repr

/-- A chute number, 0 to 47 (chapter 6). -/
abbrev ChuteId := Fin 48

/-- Size class (00_scope 5.5). -/
inductive SizeClass where
  | small | medium | large | extra
  deriving DecidableEq, Repr

/-- The five frame kinds the part's receiver knows (R197). -/
inductive FrameKind where
  | bag | multi | noread | done | fail
  deriving DecidableEq, Repr

/-- The two launch answers (R33). -/
inductive AnswerKind where
  | done | fail
  deriving DecidableEq, Repr

/-- What went wrong with a character (R30): a marked character of unknown kind code, a bad stop bit,
or a marked character of known kind that interrupts an open frame. -/
inductive CharFault where
  | unknownKind (code : Byte)
  | badStop
  | interrupt (kind : FrameKind)
  deriving DecidableEq, Repr

/-- Which data character of a read frame is bad (R31). -/
inductive DataField where
  | tagDigit | sizeClass
  deriving DecidableEq, Repr

/-- The payload bytes of a link request (R186). Its length is the request's length byte. -/
abbrev Payload := List Byte

/-- The commands of Table 11-2, in the order of their codes 1 to 43. -/
inductive Command where
  | configureLoop
  | startLoop
  | stopLoop
  | resetLoop
  | readTray
  | configureInduction
  | inductionResume
  | readInduction
  | setWindow
  | clearWindow
  | readWindow
  | addBag
  | withdrawBag
  | changeCabin
  | readBag
  | setCabinRange
  | clearCabinRange
  | readCabinRange
  | berth
  | manifestFinal
  | manifestReopen
  | setQuota
  | cutOff
  | unberth
  | shipStatus
  | configureChute
  | assignChute
  | releaseChute
  | swapBegin
  | swapEnd
  | setBlockedInterval
  | readChute
  | resolveStray
  | discardStray
  | readStrayList
  | readStray
  | fetchNotice
  | ackGroup
  | clearNotice
  | setNoticeEnables
  | setClearMode
  | readResetCause
  | clearResetCause
  deriving DecidableEq, Repr

/-- The commands the block takes, one constructor per row of spec/opcode_table.json. A link request
carries the link it came in on and its payload bytes. -/
inductive Instr where
  /-- POWER_ON_RESET (R192). -/
  | powerOnReset
  /-- PIN_RESET (R193). -/
  | pinReset
  /-- PITCH_EVENT (R10). -/
  | pitchEvent (home check : Bool)
  /-- RESERVATION_REQUEST (R45). -/
  | reservationRequest (i : IndId)
  /-- LAUNCH_WINDOW_EXPIRY (R41). -/
  | launchWindowExpiry (i : IndId)
  /-- STALL_TIMEOUT (R6). -/
  | stallTimeout
  /-- FIRE (R146). -/
  | fire
  /-- TILT_PULSE_END (R145). -/
  | tiltPulseEnd (c : ChuteId)
  /-- CONFIRM_WINDOW_END (R150). -/
  | confirmWindowEnd (c : ChuteId)
  /-- CHUTE_EYE_DETECTION (R148). -/
  | chuteEyeDetection (c : ChuteId)
  /-- CHUTE_JAM (R128). -/
  | chuteJam (c : ChuteId)
  /-- CHUTE_EYE_CLEAR (R128). -/
  | chuteEyeClear (c : ChuteId)
  /-- HALL_CLOCK_SECOND (R137). -/
  | hallClockSecond
  /-- BAG_FRAME (R34). -/
  | bagFrame (i : IndId) (tag : Tag) (size : SizeClass)
  /-- MULTI_FRAME (R34). -/
  | multiFrame (i : IndId) (tag tag2 : Tag) (size : SizeClass)
  /-- NOREAD_FRAME (R34). -/
  | noreadFrame (i : IndId) (size : SizeClass)
  /-- HOLD_RESEND (R39). -/
  | holdResend (i : IndId)
  /-- DONE_FRAME (R42). -/
  | doneFrame (i : IndId) (tray : BitVec 16)
  /-- FAIL_FRAME (R43). -/
  | failFrame (i : IndId) (tray : BitVec 16)
  /-- LATE_ANSWER (R44). -/
  | lateAnswer (i : IndId) (kind : AnswerKind) (tray : BitVec 16)
  /-- INDUCTION_CHARACTER_FAULT (R30). -/
  | inductionCharacterFault (i : IndId) (bad : CharFault)
  /-- BAD_DATA_CHARACTER (R31). -/
  | badDataCharacter (i : IndId) (field : DataField) (value : Byte)
  /-- INDUCTION_SILENCE_TIMEOUT (R31). -/
  | inductionSilenceTimeout (i : IndId)
  /-- TRANSMIT_FRAME_SENT (R32). -/
  | transmitFrameSent (i : IndId)
  /-- LINK_SELECT_RELEASED_EARLY (R187). -/
  | linkSelectReleasedEarly (l : LinkId)
  /-- BAD_COMMAND (R188). -/
  | badCommand (l : LinkId) (code : Byte) (p : Payload)
  /-- CONFIGURE_LOOP (R1). -/
  | configureLoop (l : LinkId) (p : Payload)
  /-- START_LOOP (R4). -/
  | startLoop (l : LinkId) (p : Payload)
  /-- STOP_LOOP (R8). -/
  | stopLoop (l : LinkId) (p : Payload)
  /-- RESET_LOOP (R25). -/
  | resetLoop (l : LinkId) (p : Payload)
  /-- READ_TRAY (R24). -/
  | readTray (l : LinkId) (p : Payload)
  /-- CONFIGURE_INDUCTION (R27). -/
  | configureInduction (l : LinkId) (p : Payload)
  /-- INDUCTION_RESUME (R29). -/
  | inductionResume (l : LinkId) (p : Payload)
  /-- READ_INDUCTION (R49). -/
  | readInduction (l : LinkId) (p : Payload)
  /-- SET_WINDOW (R53). -/
  | setWindow (l : LinkId) (p : Payload)
  /-- CLEAR_WINDOW (R54). -/
  | clearWindow (l : LinkId) (p : Payload)
  /-- READ_WINDOW (R55). -/
  | readWindow (l : LinkId) (p : Payload)
  /-- ADD_BAG (R61). -/
  | addBag (l : LinkId) (p : Payload)
  /-- WITHDRAW_BAG (R64). -/
  | withdrawBag (l : LinkId) (p : Payload)
  /-- CHANGE_CABIN (R66). -/
  | changeCabin (l : LinkId) (p : Payload)
  /-- READ_BAG (R68). -/
  | readBag (l : LinkId) (p : Payload)
  /-- SET_CABIN_RANGE (R70). -/
  | setCabinRange (l : LinkId) (p : Payload)
  /-- CLEAR_CABIN_RANGE (R72). -/
  | clearCabinRange (l : LinkId) (p : Payload)
  /-- READ_CABIN_RANGE (R73). -/
  | readCabinRange (l : LinkId) (p : Payload)
  /-- BERTH (R77). -/
  | berth (l : LinkId) (p : Payload)
  /-- MANIFEST_FINAL (R78). -/
  | manifestFinal (l : LinkId) (p : Payload)
  /-- MANIFEST_REOPEN (R79). -/
  | manifestReopen (l : LinkId) (p : Payload)
  /-- SET_QUOTA (R80). -/
  | setQuota (l : LinkId) (p : Payload)
  /-- CUT_OFF (R82). -/
  | cutOff (l : LinkId) (p : Payload)
  /-- UNBERTH (R87). -/
  | unberth (l : LinkId) (p : Payload)
  /-- SHIP_STATUS (R91). -/
  | shipStatus (l : LinkId) (p : Payload)
  /-- CONFIGURE_CHUTE (R111). -/
  | configureChute (l : LinkId) (p : Payload)
  /-- ASSIGN_CHUTE (R113). -/
  | assignChute (l : LinkId) (p : Payload)
  /-- RELEASE_CHUTE (R114). -/
  | releaseChute (l : LinkId) (p : Payload)
  /-- SWAP_BEGIN (R125). -/
  | swapBegin (l : LinkId) (p : Payload)
  /-- SWAP_END (R126). -/
  | swapEnd (l : LinkId) (p : Payload)
  /-- SET_BLOCKED_INTERVAL (R133). -/
  | setBlockedInterval (l : LinkId) (p : Payload)
  /-- READ_CHUTE (R134). -/
  | readChute (l : LinkId) (p : Payload)
  /-- RESOLVE_STRAY (R165). -/
  | resolveStray (l : LinkId) (p : Payload)
  /-- DISCARD_STRAY (R166). -/
  | discardStray (l : LinkId) (p : Payload)
  /-- READ_STRAY_LIST (R168). -/
  | readStrayList (l : LinkId) (p : Payload)
  /-- READ_STRAY (R169). -/
  | readStray (l : LinkId) (p : Payload)
  /-- FETCH_NOTICE (R177). -/
  | fetchNotice (l : LinkId) (p : Payload)
  /-- ACK_GROUP (R179). -/
  | ackGroup (l : LinkId) (p : Payload)
  /-- CLEAR_NOTICE (R180). -/
  | clearNotice (l : LinkId) (p : Payload)
  /-- SET_NOTICE_ENABLES (R181). -/
  | setNoticeEnables (l : LinkId) (p : Payload)
  /-- SET_CLEAR_MODE (R182). -/
  | setClearMode (l : LinkId) (p : Payload)
  /-- READ_RESET_CAUSE (R192). -/
  | readResetCause (l : LinkId) (p : Payload)
  /-- CLEAR_RESET_CAUSE (R192). -/
  | clearResetCause (l : LinkId) (p : Payload)
  /-- INDUCTION_FRAME_OPENED (R30). -/
  | inductionFrameOpened (i : IndId) (kind : FrameKind)
  /-- LINK_SELECT_ASSERTED (R186). -/
  | linkSelectAsserted (l : LinkId)
  /-- LINK_RESPONSE_SENT (R186). -/
  | linkResponseSent (l : LinkId)
  /-- LINK_SELECT_RELEASED (R186). -/
  | linkSelectReleased (l : LinkId)
  /-- RESET_N_RELEASED (R193). -/
  | resetNReleased
  deriving DecidableEq, Repr

end Sys2Proof
end

