-- ==== Sys2Proof/Machine/State.lean ====
section
/-! DEFINITION. The state of the BSC-48: every piece of state the manual gives the part, as plain data,
and its value after power-on reset. A value that is a function of other state (T, occupancy, the
per-slot counts, the period estimate, held, the attention lines) has no field: it is computed in
Machine/Ops.lean and Machine/Flags.lean (log 21). -/

namespace Sys2Proof.Machine

/-! ### Small families: one field for each member -/

/-- A berth slot, A or B (chapter 4). -/
inductive Slot where
  | a | b
  deriving DecidableEq, Repr

/-- One value for each berth slot. -/
structure PerSlot (α : Type) where
  a : α
  b : α
  deriving DecidableEq, Repr

def PerSlot.get {α : Type} (v : PerSlot α) : Slot → α
  | .a => v.a
  | .b => v.b

def PerSlot.set {α : Type} (v : PerSlot α) (k : Slot) (x : α) : PerSlot α :=
  match k with
  | .a => { v with a := x }
  | .b => { v with b := x }

/-- One value for each induction. -/
structure PerInd (α : Type) where
  i0 : α
  i1 : α
  i2 : α
  i3 : α
  deriving DecidableEq, Repr

def PerInd.get {α : Type} (v : PerInd α) : IndId → α
  | .i0 => v.i0
  | .i1 => v.i1
  | .i2 => v.i2
  | .i3 => v.i3

def PerInd.set {α : Type} (v : PerInd α) (k : IndId) (x : α) : PerInd α :=
  match k with
  | .i0 => { v with i0 := x }
  | .i1 => { v with i1 := x }
  | .i2 => { v with i2 := x }
  | .i3 => { v with i3 := x }

/-- One value for each link. -/
structure PerLink (α : Type) where
  shore : α
  vesselA : α
  vesselB : α
  deriving DecidableEq, Repr

def PerLink.get {α : Type} (v : PerLink α) : LinkId → α
  | .shore => v.shore
  | .vesselA => v.vesselA
  | .vesselB => v.vesselB

def PerLink.set {α : Type} (v : PerLink α) (k : LinkId) (x : α) : PerLink α :=
  match k with
  | .shore => { v with shore := x }
  | .vesselA => { v with vesselA := x }
  | .vesselB => { v with vesselB := x }

/-- A notice group, numbered 0 to 3 (Table 9-1). -/
inductive NoticeGroup where
  | loop | chutes | strays | ships
  deriving DecidableEq, Repr

/-- One value for each notice group. -/
structure PerGroup (α : Type) where
  loop : α
  chutes : α
  strays : α
  ships : α
  deriving DecidableEq, Repr

def PerGroup.get {α : Type} (v : PerGroup α) : NoticeGroup → α
  | .loop => v.loop
  | .chutes => v.chutes
  | .strays => v.strays
  | .ships => v.ships

def PerGroup.set {α : Type} (v : PerGroup α) (k : NoticeGroup) (x : α) : PerGroup α :=
  match k with
  | .loop => { v with loop := x }
  | .chutes => { v with chutes := x }
  | .strays => { v with strays := x }
  | .ships => { v with ships := x }

/-! ### The loop and its trays (chapter 1, section 7.2) -/

/-- Loop states (Table 1-2). -/
inductive LoopState where
  | stopped | starting | running | stalled
  deriving DecidableEq, Repr

/-- Why a WAITING bag waits (Table 1-4). -/
inductive WaitReason where
  | unknownTag | cabinUnmapped
  deriving DecidableEq, Repr

/-- The eleven stray causes (Table 8-1), in the order of Table 11-1. -/
inductive StrayCause where
  | noRead | multiRead | foreignTag | noShip | shipClosed | unknownTag | cabinUnmapped
  | duplicateTag | recircLimit | withdrawn | lostTrack
  deriving DecidableEq, Repr

/-- The class of a bag (Table 1-4). -/
inductive BagClass where
  | routed
  | waiting (reason : WaitReason)
  | stray (cause : StrayCause)
  deriving DecidableEq, Repr

/-- Bag record (Table 1-4). Units are the unit weight of the size class (R14) and are computed; the
chute, arm position, arm distance and generation stand with the tray state that carries them. -/
structure BagRecord where
  /-- the source induction, `none` for NONE -/
  source : Option IndId
  launchConfirmed : Bool
  size : SizeClass
  tag : Option Tag
  tag2 : Option Tag
  slot : Option Slot
  entryLink : Option Tag
  cls : BagClass
  strayId : Option (BitVec 16)
  passes : Nat
  deriving DecidableEq, Repr

/-- A tray: its state with what Table 1-3 says the state carries. -/
inductive Tray where
  | empty
  | reserved (i : IndId)
  | loaded (b : BagRecord)
  | selected (b : BagRecord) (chute : ChuteId) (arm d : Nat)
  | armed (b : BagRecord) (chute : ChuteId)
  | fired (b : BagRecord) (chute : ChuteId) (gen : BitVec 8)
  | unconfirmed (b : BagRecord) (chute : ChuteId) (gen : BitVec 8)
  | suspect
  deriving DecidableEq, Repr

/-- The values of Table 1-1 other than T. -/
structure LoopConfig where
  nominal : Nat
  stallTimeout : Nat
  highMark : Nat
  lowMark : Nat
  /-- L, the recirculation limit in passes -/
  limit : Nat
  matchWait : Nat
  throwSmall : Nat
  throwMedium : Nat
  throwLarge : Nat
  throwExtra : Nat
  deriving DecidableEq, Repr

/-- The Loop Tracker's state (R26). T is the length of `trays`. -/
structure Loop where
  state : LoopState
  /-- P, the loop position -/
  pos : Nat
  trays : List Tray
  cfg : LoopConfig
  homeMiss : Nat
  hold : Bool
  /-- the tick from which the stall timer counts; `none` while it is stopped (R6) -/
  stallFrom : Option Nat
  /-- the tick of the pitch event from which the next interval is measured (R4, R5) -/
  pitchTime : Option Nat
  /-- the count of intervals measured since the loop last entered STARTING (R5) -/
  measured : Nat
  /-- the interval list, oldest first (R138) -/
  intervals : List Nat
  /-- the loop has entered RUNNING since the last power-on or pin reset (R139's valid mark) -/
  everRan : Bool
  deriving DecidableEq, Repr

/-! ### Induction stations (chapter 2) -/

/-- What a read record's frame carried (Table 2-3). -/
inductive Reading where
  | bag (tag : Tag)
  | multi (tag tag2 : Tag)
  | noread
  deriving DecidableEq, Repr

/-- Read record (Table 2-3). -/
structure ReadRecord where
  reading : Reading
  size : SizeClass
  deriving DecidableEq, Repr

/-- A character of an induction line as it is received: its ninth bit, the mark; its other eight bits; and
its stop bit, which is bad when clear (section 2.2, R30). -/
structure LineChar where
  marked : Bool
  value : Byte
  stopBit : Bool
  deriving DecidableEq, Repr

/-- Line receiver (R30), with the data characters of the open frame that have been stored, the first
first. -/
inductive Receiver where
  | idle
  | inFrame (kind : FrameKind) (stored : List Byte)
  | skipping
  deriving DecidableEq, Repr

/-- A frame from the part to a station (Table 2-2). -/
inductive TxFrame where
  | hold
  | resume
  | launch (tray : Nat)
  deriving DecidableEq, Repr

/-- A reservation (section 2.7). -/
inductive Reservation where
  | none
  | requested
  | granted (tray : Nat)
  deriving DecidableEq, Repr

/-- Stray entry states (Table 8-3). -/
inductive StrayState where
  | routing | inChute | matched | resolved | reinducted
  deriving DecidableEq, Repr

/-- Bag entry statuses (Table 3-3), each with the fields of Table 3-2 present in it alone. -/
inductive EntryStatus where
  | expected
  | onLoop (changedInFlight : Bool)
  | sorted (chute : ChuteId) (time : BitVec 32) (unconfirmed : Bool)
  | strayed
  | untracked
  deriving DecidableEq, Repr

/-- What an undo note keeps of a bag entry that a classification linked (R108). -/
structure UndoEntry where
  tag : Tag
  status : EntryStatus
  strayLink : Option (BitVec 16)
  deriving DecidableEq, Repr

/-- What an undo note keeps of a stray entry (R108): an appended one's id, or a moved one's id with
what it had before, and the state and times strayed the move left it with (R167). -/
inductive UndoStray where
  | appended (id : BitVec 16)
  | moved (id : BitVec 16) (state : StrayState) (cause : StrayCause) (untracked : Bool) (times : Nat)
      (leftState : StrayState) (leftTimes : Nat)
  deriving DecidableEq, Repr

/-- Undo note: at most one bag entry and at most one stray entry (R108). -/
structure UndoNote where
  entry : Option UndoEntry
  stray : Option UndoStray
  deriving DecidableEq, Repr

/-- Launch window (Table 2-4). -/
structure LaunchWindow where
  tray : Nat
  left : Nat
  record : ReadRecord
  note : UndoNote
  deriving DecidableEq, Repr

/-- Induction record (chapter 2). Held and barred are computed from their causes (R37). -/
structure Induction where
  offset : Nat
  /-- N, the HOLD re-send interval -/
  n : Nat
  /-- W, the reservation wait -/
  w : Nat
  /-- the W that the head wait count is compared with: a new W is used at the next pitch event that
  advances the count (R28) -/
  wInUse : Nat
  enabled : Bool
  receiver : Receiver
  /-- the frame being sent (R32) -/
  sending : Option TxFrame
  /-- the frames of the transmit list not yet begun (R32) -/
  waiting : List TxFrame
  queue : List ReadRecord
  queueHold : Bool
  resync : Bool
  resendCount : Nat
  waitCount : Nat
  reservation : Reservation
  windows : List LaunchWindow
  deriving DecidableEq, Repr

/-! ### Tag windows and the Manifest Store (chapter 3) -/

/-- Where tags of a window belong (Table 3-1). -/
inductive Target where
  | slotA | slotB | excluded
  deriving DecidableEq, Repr

/-- Tag window (Table 3-1): the leading digits and the target. The prefix length is the number of
digits, and the window is valid exactly when it has one (1 to 10 while valid, 0 while invalid). -/
structure TagWindow where
  digits : List Nat
  target : Target
  deriving DecidableEq, Repr

/-- Bag entry (Table 3-2). -/
structure BagEntry where
  tag : Tag
  slot : Slot
  cabin : Nat
  status : EntryStatus
  strayLink : Option (BitVec 16)
  addedLate : Bool
  deriving DecidableEq, Repr

/-- Cabin range (Table 3-5). -/
structure CabinRange where
  valid : Bool
  first : Nat
  last : Nat
  deck : Nat
  zone : Nat
  deriving DecidableEq, Repr

/-! ### Berth slots (chapter 4) -/

/-- Slot states (Table 4-1). -/
inductive SlotState where
  | vacant | loading | final | closing | closed
  deriving DecidableEq, Repr

/-- Slot record (R76) with the quota and call number other blocks keep for the slot (R56, R159). The
on-loop and waiting counts are computed from the tray table (log 21). -/
structure SlotRecord where
  state : SlotState
  quota : Nat
  quotaArmed : Bool
  strayCount : Nat
  call : BitVec 8
  deriving DecidableEq, Repr

/-! ### Chutes (chapter 6) -/

inductive ChuteRole where
  | sort | standby | stray
  deriving DecidableEq, Repr

inductive Side where
  | left | right
  deriving DecidableEq, Repr

/-- Chute states (Table 6-3). -/
inductive ChuteState where
  | disabled | unassigned | standbyIdle | isOpen | nearFull | full | swapping
  deriving DecidableEq, Repr

/-- Destination group: slot, deck and zone (00_scope 5.4). -/
structure Group where
  slot : Slot
  deck : Nat
  zone : Nat
  deriving DecidableEq, Repr

/-- Chute configuration (Table 6-1). -/
structure ChuteConfig where
  role : ChuteRole
  offset : Nat
  side : Side
  latency : Nat
  pulse : Nat
  window : Nat
  jamTime : Nat
  capacity : Nat
  nearFull : Nat
  cover : List ChuteId
  deriving DecidableEq, Repr

/-- Confirm window (Table 7-2). -/
structure ConfirmWindow where
  tray : Nat
  endTick : Nat
  deriving DecidableEq, Repr

/-- Chute record: configuration, run-time state (Table 6-2), tilt pulse (R145) and the chute eye. -/
structure Chute where
  cfg : ChuteConfig
  state : ChuteState
  group : Option Group
  released : Bool
  tookOver : Option ChuteId
  fill : Nat
  committed : Nat
  jam : Bool
  fault : Bool
  failures : Nat
  gen : BitVec 8
  windows : List ConfirmWindow
  /-- the end tick of the tilt pulse; `none` while it is idle (R145) -/
  pulseEnd : Option Nat
  /-- the level of the chute eye input: occluded or not -/
  eye : Bool
  /-- the tick from which the occlusion timer counts; `none` while it is stopped (R128) -/
  occludedFrom : Option Nat
  deriving DecidableEq, Repr

/-- Blocked-group record (Table 6-4). -/
structure BlockedGroup where
  group : Group
  count : Nat
  reraise : Nat
  deriving DecidableEq, Repr

/-! ### Divert timing (chapter 7) -/

/-- Fire record (Table 7-1). -/
structure FireRecord where
  tray : Nat
  chute : ChuteId
  due : Nat
  deriving DecidableEq, Repr

/-- The tick base and the hall clock (R137). -/
structure Clock where
  tick : Nat
  /-- the tick at which the hall clock last counted -/
  secondAt : Nat
  seconds : BitVec 32
  deriving DecidableEq, Repr

/-! ### Strays (chapter 8) -/

/-- Stray entry (Table 8-2). The slot stands with its call number at recording (R159). -/
structure StrayEntry where
  id : BitVec 16
  cause : StrayCause
  tag : Option Tag
  tag2 : Option Tag
  slot : Option (Slot × BitVec 8)
  cabin : Option Nat
  created : BitVec 32
  chute : Option ChuteId
  untracked : Bool
  times : Nat
  state : StrayState
  deriving DecidableEq, Repr

/-! ### Notices (chapter 9) -/

inductive ClearMode where
  | auto | manual
  deriving DecidableEq, Repr

/-- A group's latch with its fetched mark, which is set only while the latch is (R172). -/
inductive Latch where
  | clear | set | fetched
  deriving DecidableEq, Repr

/-- Notice record of a link (R172). Bit `n` of a group's byte is source `n`; the bits of GENERIC and
of unconditional sources hold no enable. -/
structure NoticeRecord where
  flags : PerGroup Byte
  enables : PerGroup Byte
  mode : ClearMode
  latches : PerGroup Latch
  deriving DecidableEq, Repr

/-! ### Link ports (chapter 10) -/

/-- Port states (Table 10-1). TAKING carries whether select was released since the request was complete
(R187), ANSWERING the response bytes that have still to go out. -/
inductive PortState where
  | idle
  | receiving
  | taking (abandoned : Bool)
  | answering (rest : List Byte)
  | ended
  deriving DecidableEq, Repr

/-- A link port (R186) with its request buffer, in the order the bytes came in, and the level of its
select input (R193, R194). -/
structure Port where
  state : PortState
  selected : Bool
  request : List Byte
  deriving DecidableEq, Repr

/-- One byte time: the levels of LKn_DI at the eight rising edges of LKn_CLK, first edge first (R194). -/
abbrev ByteTime := Vector Bool 8

/-- Reset cause record (R192). -/
structure ResetCause where
  powerOn : Bool
  pin : Bool
  deriving DecidableEq, Repr

/-! ### The whole state -/

/-- The state of the part. -/
structure State where
  loop : Loop
  inds : PerInd Induction
  /-- the 8 tag windows (section 3.1) -/
  tagWindows : Vector TagWindow 8
  /-- the bag entries, by strictly rising tag (section 3.2) -/
  pool : List BagEntry
  /-- the cabin map of each slot, 96 ranges (section 3.6) -/
  maps : PerSlot (Vector CabinRange 96)
  slots : PerSlot SlotRecord
  /-- the 48 chute records (section 6.1) -/
  chutes : Vector Chute 48
  /-- the blocked-group list, in the order the records were made (section 6.8) -/
  blocked : List BlockedGroup
  /-- N, the re-raise interval of the blocked-group list (R133) -/
  blockedN : Nat
  /-- the STRAY_CHUTES_FULL armed flag (R132) -/
  strayArmed : Bool
  /-- the fire queue, by due tick (R143) -/
  fireQueue : List FireRecord
  clock : Clock
  /-- the stray list in creation order, position 0 the oldest (R153) -/
  strays : List StrayEntry
  unlisted : Nat
  /-- the stray id counter (R154) -/
  nextStrayId : BitVec 16
  notices : PerLink NoticeRecord
  ports : PerLink Port
  cause : ResetCause
  /-- RESET_N stands low (R193) -/
  resetLow : Bool
  /-- the MODEL's own counter of free orders drawn (log 1, 26) -/
  freeCount : Nat
  /-- the MODEL's own queue of the byte times that each link's partner has still to clock in (log 34) -/
  incoming : PerLink (List ByteTime)
  /-- the MODEL's own queue of the characters that each induction's station has still to send (log 38) -/
  arriving : PerInd (List LineChar)
  /-- the MODEL's queue of waiting commands, first in, first out -/
  pending : List Instr
  deriving DecidableEq, Repr

/-- No command of this block faults: the manual gives each its effect in every state, and an error is
a refusal in a response, a notice or a flag of State. So there is no reason to raise, and this type
has no constructor: safe, since a step that cannot fault hides no behaviour behind one. -/
inductive Fault where
  deriving DecidableEq, Repr

/-- Why a step has no meaning. -/
inductive Refusal where
  /-- A row of the table without a meaning yet, by its mnemonic; raised by exec's arm alone. Safe: the
  model stops where the hardware goes on. No arm raises it now. -/
  | notModelled (mnemonic : String)
  deriving DecidableEq, Repr

/-! ### The values after power-on reset -/

/-- Defaults of Table 1-1 (R26). -/
def LoopConfig.reset : LoopConfig :=
  { nominal := 3750, stallTimeout := 20000, highMark := 224, lowMark := 192, limit := 3,
    matchWait := 2, throwSmall := 0, throwMedium := 200, throwLarge := 400, throwExtra := 600 }

/-- R26, R152. -/
def Loop.reset : Loop :=
  { state := .stopped, pos := 0, trays := List.replicate 256 .empty, cfg := .reset, homeMiss := 0,
    hold := false, stallFrom := none, pitchTime := none, measured := 0, intervals := [],
    everRan := false }

/-- R51. -/
def Induction.reset : Induction :=
  { offset := 0, n := 4, w := 16, wInUse := 16, enabled := false, receiver := .idle, sending := none, waiting := [],
    queue := [], queueHold := false, resync := false, resendCount := 0, waitCount := 0,
    reservation := .none, windows := [] }

/-- R75: invalid, prefix length 0, target SLOT_A. -/
def TagWindow.reset : TagWindow := { digits := [], target := .slotA }

/-- R75, R87: invalid, with first, last, deck and zone 0. -/
def CabinRange.reset : CabinRange := { valid := false, first := 0, last := 0, deck := 0, zone := 0 }

/-- R92, R75, R170. -/
def SlotRecord.reset : SlotRecord :=
  { state := .vacant, quota := 0, quotaArmed := true, strayCount := 0, call := 0 }

/-- Defaults of Table 6-1 (R136). -/
def ChuteConfig.reset : ChuteConfig :=
  { role := .sort, offset := 0, side := .left, latency := 1000, pulse := 300, window := 3000,
    jamTime := 30000, capacity := 40, nearFull := 32, cover := [] }

/-- R136, R152. The eye level is an input: DESIGN CHOICE clear at power-on (log 11). -/
def Chute.reset : Chute :=
  { cfg := .reset, state := .disabled, group := none, released := false, tookOver := none, fill := 0,
    committed := 0, jam := false, fault := false, failures := 0, gen := 0, windows := [],
    pulseEnd := none, eye := false, occludedFrom := none }

/-- R184. -/
def NoticeRecord.reset : NoticeRecord :=
  { flags := ⟨0, 0, 0, 0⟩, enables := ⟨0, 0, 0, 0⟩, mode := .auto,
    latches := ⟨.clear, .clear, .clear, .clear⟩ }

/-- R193. The select level is an input: DESIGN CHOICE released at power-on (log 11). -/
def Port.reset : Port := { state := .idle, selected := false, request := [] }

/-- The part right after a power-on reset: POWER_ON set and PIN clear (R192), every block at its
power-on values. -/
def State.reset : State :=
  { loop := .reset
    inds := ⟨.reset, .reset, .reset, .reset⟩
    tagWindows := Vector.replicate 8 .reset
    pool := []
    maps := ⟨Vector.replicate 96 .reset, Vector.replicate 96 .reset⟩
    slots := ⟨.reset, .reset⟩
    chutes := Vector.replicate 48 .reset
    blocked := []
    blockedN := 4
    strayArmed := true
    fireQueue := []
    clock := { tick := 0, secondAt := 0, seconds := 0 }
    strays := []
    unlisted := 0
    nextStrayId := 0
    notices := ⟨.reset, .reset, .reset⟩
    ports := ⟨.reset, .reset, .reset⟩
    cause := { powerOn := true, pin := false }
    resetLow := false
    freeCount := 0
    incoming := ⟨[], [], []⟩
    arriving := ⟨[], [], [], []⟩
    pending := [] }

end Sys2Proof.Machine
end

