-- ==== Sys2Proof/WellFormed.lean ====
section
/-! DEFINITION. Which commands are well formed: the operand values the manual admits for the row. -/

namespace Sys2Proof

/-- A request has one length byte, so at most 255 payload bytes (R186). -/
def payloadOk (p : Payload) : Bool := p.length ≤ 255

/-- Command codes 0 and 44 to 255 are unknown (R196). -/
def unknownCode (code : Byte) : Bool := code.toNat = 0 || 44 ≤ code.toNat

/-- Kind codes 1 to 5 are known at the part's receiver, every other code is unknown (R197). -/
def charFaultOk : CharFault → Bool
  | .unknownKind code => code.toNat = 0 || 6 ≤ code.toNat
  | .badStop => true
  | .interrupt _ => true

/-- A tag character of 10 to 255 is not a digit, a size class character of 4 to 255 is above 3 (R197). -/
def badValue : DataField → Byte → Bool
  | .tagDigit, v => 10 ≤ v.toNat
  | .sizeClass, v => 4 ≤ v.toNat

/-- A command whose operands are those the row's event can carry. -/
def Instr.wf : Instr → Bool
  | .powerOnReset => true
  | .pinReset => true
  | .pitchEvent _ _ => true
  | .reservationRequest _ => true
  | .launchWindowExpiry _ => true
  | .stallTimeout => true
  | .fire => true
  | .tiltPulseEnd _ => true
  | .confirmWindowEnd _ => true
  | .chuteEyeDetection _ => true
  | .chuteJam _ => true
  | .chuteEyeClear _ => true
  | .hallClockSecond => true
  | .bagFrame _ _ _ => true
  | .multiFrame _ _ _ _ => true
  | .noreadFrame _ _ => true
  | .holdResend _ => true
  | .doneFrame _ _ => true
  | .failFrame _ _ => true
  | .lateAnswer _ _ _ => true
  | .inductionCharacterFault _ bad => charFaultOk bad
  | .badDataCharacter _ field value => badValue field value
  | .inductionSilenceTimeout _ => true
  | .transmitFrameSent _ => true
  | .linkSelectReleasedEarly _ => true
  | .badCommand _ code p => payloadOk p && unknownCode code
  | .configureLoop _ p => payloadOk p
  | .startLoop _ p => payloadOk p
  | .stopLoop _ p => payloadOk p
  | .resetLoop _ p => payloadOk p
  | .readTray _ p => payloadOk p
  | .configureInduction _ p => payloadOk p
  | .inductionResume _ p => payloadOk p
  | .readInduction _ p => payloadOk p
  | .setWindow _ p => payloadOk p
  | .clearWindow _ p => payloadOk p
  | .readWindow _ p => payloadOk p
  | .addBag _ p => payloadOk p
  | .withdrawBag _ p => payloadOk p
  | .changeCabin _ p => payloadOk p
  | .readBag _ p => payloadOk p
  | .setCabinRange _ p => payloadOk p
  | .clearCabinRange _ p => payloadOk p
  | .readCabinRange _ p => payloadOk p
  | .berth _ p => payloadOk p
  | .manifestFinal _ p => payloadOk p
  | .manifestReopen _ p => payloadOk p
  | .setQuota _ p => payloadOk p
  | .cutOff _ p => payloadOk p
  | .unberth _ p => payloadOk p
  | .shipStatus _ p => payloadOk p
  | .configureChute _ p => payloadOk p
  | .assignChute _ p => payloadOk p
  | .releaseChute _ p => payloadOk p
  | .swapBegin _ p => payloadOk p
  | .swapEnd _ p => payloadOk p
  | .setBlockedInterval _ p => payloadOk p
  | .readChute _ p => payloadOk p
  | .resolveStray _ p => payloadOk p
  | .discardStray _ p => payloadOk p
  | .readStrayList _ p => payloadOk p
  | .readStray _ p => payloadOk p
  | .fetchNotice _ p => payloadOk p
  | .ackGroup _ p => payloadOk p
  | .clearNotice _ p => payloadOk p
  | .setNoticeEnables _ p => payloadOk p
  | .setClearMode _ p => payloadOk p
  | .readResetCause _ p => payloadOk p
  | .clearResetCause _ p => payloadOk p
  | .inductionFrameOpened _ _ => true
  | .linkSelectAsserted _ => true
  | .linkResponseSent _ => true
  | .linkSelectReleased _ => true
  | .resetNReleased => true

end Sys2Proof
end

