-- ==== Sys2Proof/Decode.lean ====
section
/-! DEFINITION. What bits and bytes spell which command. spec/opcode_table.json gives no row any bits,
so a table word spells no command. The manual's own codings stand below: link request frames
(Table 11-2, R186, R196) and induction line frames (Table 11-9, R197), read and written. -/

namespace Sys2Proof

/-- The command a word of spec/opcode_table.json spells. No row of the table has bits ("fields" is
empty in each), so no word spells a command. -/
def decodeTableWord (_nbits _w : Nat) : Option Instr := none

/-- The command code of Table 11-2 (R196). -/
def Command.code : Command → Byte
  | .configureLoop => 1
  | .startLoop => 2
  | .stopLoop => 3
  | .resetLoop => 4
  | .readTray => 5
  | .configureInduction => 6
  | .inductionResume => 7
  | .readInduction => 8
  | .setWindow => 9
  | .clearWindow => 10
  | .readWindow => 11
  | .addBag => 12
  | .withdrawBag => 13
  | .changeCabin => 14
  | .readBag => 15
  | .setCabinRange => 16
  | .clearCabinRange => 17
  | .readCabinRange => 18
  | .berth => 19
  | .manifestFinal => 20
  | .manifestReopen => 21
  | .setQuota => 22
  | .cutOff => 23
  | .unberth => 24
  | .shipStatus => 25
  | .configureChute => 26
  | .assignChute => 27
  | .releaseChute => 28
  | .swapBegin => 29
  | .swapEnd => 30
  | .setBlockedInterval => 31
  | .readChute => 32
  | .resolveStray => 33
  | .discardStray => 34
  | .readStrayList => 35
  | .readStray => 36
  | .fetchNotice => 37
  | .ackGroup => 38
  | .clearNotice => 39
  | .setNoticeEnables => 40
  | .setClearMode => 41
  | .readResetCause => 42
  | .clearResetCause => 43

/-- The command of a code; 0 and 44 to 255 are unknown (R196). -/
def commandOfCode (code : Byte) : Option Command :=
  match code.toNat with
  | 1 => some .configureLoop
  | 2 => some .startLoop
  | 3 => some .stopLoop
  | 4 => some .resetLoop
  | 5 => some .readTray
  | 6 => some .configureInduction
  | 7 => some .inductionResume
  | 8 => some .readInduction
  | 9 => some .setWindow
  | 10 => some .clearWindow
  | 11 => some .readWindow
  | 12 => some .addBag
  | 13 => some .withdrawBag
  | 14 => some .changeCabin
  | 15 => some .readBag
  | 16 => some .setCabinRange
  | 17 => some .clearCabinRange
  | 18 => some .readCabinRange
  | 19 => some .berth
  | 20 => some .manifestFinal
  | 21 => some .manifestReopen
  | 22 => some .setQuota
  | 23 => some .cutOff
  | 24 => some .unberth
  | 25 => some .shipStatus
  | 26 => some .configureChute
  | 27 => some .assignChute
  | 28 => some .releaseChute
  | 29 => some .swapBegin
  | 30 => some .swapEnd
  | 31 => some .setBlockedInterval
  | 32 => some .readChute
  | 33 => some .resolveStray
  | 34 => some .discardStray
  | 35 => some .readStrayList
  | 36 => some .readStray
  | 37 => some .fetchNotice
  | 38 => some .ackGroup
  | 39 => some .clearNotice
  | 40 => some .setNoticeEnables
  | 41 => some .setClearMode
  | 42 => some .readResetCause
  | 43 => some .clearResetCause
  | _ => none

/-- The row of a command received complete on a link. -/
def Instr.ofRequest (l : LinkId) (k : Command) (p : Payload) : Instr :=
  match k with
  | .configureLoop => .configureLoop l p
  | .startLoop => .startLoop l p
  | .stopLoop => .stopLoop l p
  | .resetLoop => .resetLoop l p
  | .readTray => .readTray l p
  | .configureInduction => .configureInduction l p
  | .inductionResume => .inductionResume l p
  | .readInduction => .readInduction l p
  | .setWindow => .setWindow l p
  | .clearWindow => .clearWindow l p
  | .readWindow => .readWindow l p
  | .addBag => .addBag l p
  | .withdrawBag => .withdrawBag l p
  | .changeCabin => .changeCabin l p
  | .readBag => .readBag l p
  | .setCabinRange => .setCabinRange l p
  | .clearCabinRange => .clearCabinRange l p
  | .readCabinRange => .readCabinRange l p
  | .berth => .berth l p
  | .manifestFinal => .manifestFinal l p
  | .manifestReopen => .manifestReopen l p
  | .setQuota => .setQuota l p
  | .cutOff => .cutOff l p
  | .unberth => .unberth l p
  | .shipStatus => .shipStatus l p
  | .configureChute => .configureChute l p
  | .assignChute => .assignChute l p
  | .releaseChute => .releaseChute l p
  | .swapBegin => .swapBegin l p
  | .swapEnd => .swapEnd l p
  | .setBlockedInterval => .setBlockedInterval l p
  | .readChute => .readChute l p
  | .resolveStray => .resolveStray l p
  | .discardStray => .discardStray l p
  | .readStrayList => .readStrayList l p
  | .readStray => .readStray l p
  | .fetchNotice => .fetchNotice l p
  | .ackGroup => .ackGroup l p
  | .clearNotice => .clearNotice l p
  | .setNoticeEnables => .setNoticeEnables l p
  | .setClearMode => .setClearMode l p
  | .readResetCause => .readResetCause l p
  | .clearResetCause => .clearResetCause l p

/-- A complete request frame on a link: code byte, length byte, then as many payload bytes as the
length gives (R186). An incomplete frame spells nothing; an unknown code spells BAD_COMMAND. -/
def decodeRequest (l : LinkId) : List Byte → Option Instr
  | code :: len :: p =>
    if p.length = len.toNat then
      match commandOfCode code with
      | some k => some (Instr.ofRequest l k p)
      | none => some (.badCommand l code p)
    else none
  | _ => none

/-- The link, code and payload of a row that is a link request. -/
def Instr.requestParts : Instr → Option (LinkId × Byte × Payload)
  | .powerOnReset => none
  | .pinReset => none
  | .pitchEvent _ _ => none
  | .reservationRequest _ => none
  | .launchWindowExpiry _ => none
  | .stallTimeout => none
  | .fire => none
  | .tiltPulseEnd _ => none
  | .confirmWindowEnd _ => none
  | .chuteEyeDetection _ => none
  | .chuteJam _ => none
  | .chuteEyeClear _ => none
  | .hallClockSecond => none
  | .bagFrame _ _ _ => none
  | .multiFrame _ _ _ _ => none
  | .noreadFrame _ _ => none
  | .holdResend _ => none
  | .doneFrame _ _ => none
  | .failFrame _ _ => none
  | .lateAnswer _ _ _ => none
  | .inductionCharacterFault _ _ => none
  | .badDataCharacter _ _ _ => none
  | .inductionSilenceTimeout _ => none
  | .transmitFrameSent _ => none
  | .linkSelectReleasedEarly _ => none
  | .badCommand l code p => some (l, code, p)
  | .configureLoop l p => some (l, (Command.configureLoop).code, p)
  | .startLoop l p => some (l, (Command.startLoop).code, p)
  | .stopLoop l p => some (l, (Command.stopLoop).code, p)
  | .resetLoop l p => some (l, (Command.resetLoop).code, p)
  | .readTray l p => some (l, (Command.readTray).code, p)
  | .configureInduction l p => some (l, (Command.configureInduction).code, p)
  | .inductionResume l p => some (l, (Command.inductionResume).code, p)
  | .readInduction l p => some (l, (Command.readInduction).code, p)
  | .setWindow l p => some (l, (Command.setWindow).code, p)
  | .clearWindow l p => some (l, (Command.clearWindow).code, p)
  | .readWindow l p => some (l, (Command.readWindow).code, p)
  | .addBag l p => some (l, (Command.addBag).code, p)
  | .withdrawBag l p => some (l, (Command.withdrawBag).code, p)
  | .changeCabin l p => some (l, (Command.changeCabin).code, p)
  | .readBag l p => some (l, (Command.readBag).code, p)
  | .setCabinRange l p => some (l, (Command.setCabinRange).code, p)
  | .clearCabinRange l p => some (l, (Command.clearCabinRange).code, p)
  | .readCabinRange l p => some (l, (Command.readCabinRange).code, p)
  | .berth l p => some (l, (Command.berth).code, p)
  | .manifestFinal l p => some (l, (Command.manifestFinal).code, p)
  | .manifestReopen l p => some (l, (Command.manifestReopen).code, p)
  | .setQuota l p => some (l, (Command.setQuota).code, p)
  | .cutOff l p => some (l, (Command.cutOff).code, p)
  | .unberth l p => some (l, (Command.unberth).code, p)
  | .shipStatus l p => some (l, (Command.shipStatus).code, p)
  | .configureChute l p => some (l, (Command.configureChute).code, p)
  | .assignChute l p => some (l, (Command.assignChute).code, p)
  | .releaseChute l p => some (l, (Command.releaseChute).code, p)
  | .swapBegin l p => some (l, (Command.swapBegin).code, p)
  | .swapEnd l p => some (l, (Command.swapEnd).code, p)
  | .setBlockedInterval l p => some (l, (Command.setBlockedInterval).code, p)
  | .readChute l p => some (l, (Command.readChute).code, p)
  | .resolveStray l p => some (l, (Command.resolveStray).code, p)
  | .discardStray l p => some (l, (Command.discardStray).code, p)
  | .readStrayList l p => some (l, (Command.readStrayList).code, p)
  | .readStray l p => some (l, (Command.readStray).code, p)
  | .fetchNotice l p => some (l, (Command.fetchNotice).code, p)
  | .ackGroup l p => some (l, (Command.ackGroup).code, p)
  | .clearNotice l p => some (l, (Command.clearNotice).code, p)
  | .setNoticeEnables l p => some (l, (Command.setNoticeEnables).code, p)
  | .setClearMode l p => some (l, (Command.setClearMode).code, p)
  | .readResetCause l p => some (l, (Command.readResetCause).code, p)
  | .clearResetCause l p => some (l, (Command.clearResetCause).code, p)
  | .inductionFrameOpened _ _ => none
  | .linkSelectAsserted _ => none
  | .linkResponseSent _ => none
  | .linkSelectReleased _ => none
  | .resetNReleased => none

/-- The bytes of a link request, as they are clocked in (R186): none for a row that is no request. -/
def encodeRequest (i : Instr) : Option (LinkId × List Byte) :=
  i.requestParts.map fun (l, code, p) => (l, code :: BitVec.ofNat 8 p.length :: p)

/-- The ten digit characters of a tag, first digit first (R197). -/
def digitChars (t : Tag) : List Byte :=
  (List.range 10).map fun k => BitVec.ofNat 8 (t.val / 10 ^ (9 - k) % 10)

/-- The tag that ten digit characters spell. -/
def tagOfChars (cs : List Byte) : Tag :=
  Fin.ofNat _ (cs.foldl (fun a c => a * 10 + c.toNat) 0)

/-- The size class code of Table 11-1. -/
def sizeChar : SizeClass → Byte
  | .small => 0
  | .medium => 1
  | .large => 2
  | .extra => 3

/-- The size class of a code, none above 3 (R31). -/
def sizeOfChar (c : Byte) : Option SizeClass :=
  match c.toNat with
  | 0 => some .small
  | 1 => some .medium
  | 2 => some .large
  | 3 => some .extra
  | _ => none

/-- A tray number is two characters, high byte first (R197). -/
def trayChars (t : BitVec 16) : List Byte :=
  [BitVec.ofNat 8 (t.toNat / 256), BitVec.ofNat 8 t.toNat]

/-- The kind code of a frame kind the part's receiver knows (Table 11-9). -/
def FrameKind.code : FrameKind → Byte
  | .bag => 1
  | .multi => 2
  | .noread => 3
  | .done => 4
  | .fail => 5

/-- The frame kind of a marked character, none for an unknown kind (R197). -/
def frameKindOf (code : Byte) : Option FrameKind :=
  match code.toNat with
  | 1 => some .bag
  | 2 => some .multi
  | 3 => some .noread
  | 4 => some .done
  | 5 => some .fail
  | _ => none

/-- The number of data characters of a frame kind (Table 2-2). -/
def FrameKind.dataLength : FrameKind → Nat
  | .bag => 11
  | .multi => 21
  | .noread => 1
  | .done => 2
  | .fail => 2

/-- The number of tag characters that a frame kind begins with (Table 11-9). -/
def FrameKind.tagLength : FrameKind → Nat
  | .bag => 10
  | .multi => 20
  | .noread => 0
  | .done => 0
  | .fail => 0

/-- What the data character at a place of a frame is checked as (R31): the tray number characters of a
launch answer are not checked. -/
def FrameKind.fieldAt (k : FrameKind) (n : Nat) : Option DataField :=
  match k with
  | .bag | .multi | .noread =>
    if n < k.tagLength then some .tagDigit
    else if n < k.dataLength then some .sizeClass
    else none
  | .done | .fail => none

/-- A data character that drops its frame at its place (R31). -/
def FrameKind.badAt (k : FrameKind) (n : Nat) (v : Byte) : Bool :=
  match k.fieldAt n with
  | some field => badValue field v
  | none => false

/-- The first character of a list that is no digit (R31). -/
def badDigit (cs : List Byte) : Option Byte := cs.find? fun c => 9 < c.toNat

/-- A read frame's data: its tag characters are judged as they are stored, then the size class
(R31). -/
def decodeRead (i : IndId) (digits : List Byte) (size : Byte) (make : SizeClass → Instr) : Instr :=
  match badDigit digits with
  | some v => .badDataCharacter i .tagDigit v
  | none =>
    match sizeOfChar size with
    | some sz => make sz
    | none => .badDataCharacter i .sizeClass size

/-- The row that a whole induction line frame of a kind code with its data characters brings about
(Table 11-9, R30, R31, R197). A frame with another number of data characters is not complete. -/
def decodeLineFrame (i : IndId) (kind : Byte) (data : List Byte) : Option Instr :=
  match kind.toNat with
  | 1 =>
    if data.length = 11 then
      some (decodeRead i (data.take 10) (data.getD 10 0) (.bagFrame i (tagOfChars (data.take 10))))
    else none
  | 2 =>
    if data.length = 21 then
      some (decodeRead i (data.take 20) (data.getD 20 0)
        (.multiFrame i (tagOfChars (data.take 10)) (tagOfChars ((data.drop 10).take 10))))
    else none
  | 3 => if data.length = 1 then some (decodeRead i [] (data.getD 0 0) (.noreadFrame i)) else none
  | 4 => if data.length = 2 then some (.doneFrame i (data.getD 0 0 ++ data.getD 1 0)) else none
  | 5 => if data.length = 2 then some (.failFrame i (data.getD 0 0 ++ data.getD 1 0)) else none
  | _ => some (.inductionCharacterFault i (.unknownKind kind))

/-- The induction line, kind code and data characters of a row that is a complete line frame
(Table 11-9): none for every other row. -/
def encodeLineFrame : Instr → Option (IndId × Byte × List Byte)
  | .powerOnReset => none
  | .pinReset => none
  | .pitchEvent _ _ => none
  | .reservationRequest _ => none
  | .launchWindowExpiry _ => none
  | .stallTimeout => none
  | .fire => none
  | .tiltPulseEnd _ => none
  | .confirmWindowEnd _ => none
  | .chuteEyeDetection _ => none
  | .chuteJam _ => none
  | .chuteEyeClear _ => none
  | .hallClockSecond => none
  | .bagFrame i tag size => some (i, 1, digitChars tag ++ [sizeChar size])
  | .multiFrame i tag tag2 size => some (i, 2, digitChars tag ++ digitChars tag2 ++ [sizeChar size])
  | .noreadFrame i size => some (i, 3, [sizeChar size])
  | .holdResend _ => none
  | .doneFrame i tray => some (i, 4, trayChars tray)
  | .failFrame i tray => some (i, 5, trayChars tray)
  | .lateAnswer _ _ _ => none
  | .inductionCharacterFault _ _ => none
  | .badDataCharacter _ _ _ => none
  | .inductionSilenceTimeout _ => none
  | .transmitFrameSent _ => none
  | .linkSelectReleasedEarly _ => none
  | .badCommand _ _ _ => none
  | .configureLoop _ _ => none
  | .startLoop _ _ => none
  | .stopLoop _ _ => none
  | .resetLoop _ _ => none
  | .readTray _ _ => none
  | .configureInduction _ _ => none
  | .inductionResume _ _ => none
  | .readInduction _ _ => none
  | .setWindow _ _ => none
  | .clearWindow _ _ => none
  | .readWindow _ _ => none
  | .addBag _ _ => none
  | .withdrawBag _ _ => none
  | .changeCabin _ _ => none
  | .readBag _ _ => none
  | .setCabinRange _ _ => none
  | .clearCabinRange _ _ => none
  | .readCabinRange _ _ => none
  | .berth _ _ => none
  | .manifestFinal _ _ => none
  | .manifestReopen _ _ => none
  | .setQuota _ _ => none
  | .cutOff _ _ => none
  | .unberth _ _ => none
  | .shipStatus _ _ => none
  | .configureChute _ _ => none
  | .assignChute _ _ => none
  | .releaseChute _ _ => none
  | .swapBegin _ _ => none
  | .swapEnd _ _ => none
  | .setBlockedInterval _ _ => none
  | .readChute _ _ => none
  | .resolveStray _ _ => none
  | .discardStray _ _ => none
  | .readStrayList _ _ => none
  | .readStray _ _ => none
  | .fetchNotice _ _ => none
  | .ackGroup _ _ => none
  | .clearNotice _ _ => none
  | .setNoticeEnables _ _ => none
  | .setClearMode _ _ => none
  | .readResetCause _ _ => none
  | .clearResetCause _ _ => none
  | .inductionFrameOpened _ _ => none
  | .linkSelectAsserted _ => none
  | .linkResponseSent _ => none
  | .linkSelectReleased _ => none
  | .resetNReleased => none

end Sys2Proof
end

