-- ==== Sys2Proof/Machine/Operands.lean ====
section
/-! DEFINITION. Operand forms: the fields of request payloads and of returned records, byte by byte
(R195, Table 11-1), the frames the part sends on an induction line (R197), and the per-command facts
of Table 11-2 and R190. -/

namespace Sys2Proof.Machine

/-! ### Reading a request payload (R195) -/

/-- A one-byte field. -/
def u8 (p : Payload) (i : Nat) : Nat := (p.getD i 0).toNat

/-- A two-byte field, most significant byte first. -/
def u16 (p : Payload) (i : Nat) : Nat := u8 p i * 256 + u8 p (i + 1)

/-- A four-byte field, most significant byte first. -/
def u32 (p : Payload) (i : Nat) : Nat := u16 p i * 65536 + u16 p (i + 2)

/-- The half-bytes of `n` bytes from byte `i`, the high half first. -/
def halfBytes (p : Payload) (i n : Nat) : List Nat :=
  (List.range n).flatMap fun k => [u8 p (i + k) / 16, u8 p (i + k) % 16]

/-- The number whose decimal digits are given. -/
def digitsValue (ds : List Nat) : Nat := ds.foldl (fun a d => a * 10 + d) 0

/-- A tag field: 5 bytes, two digits to a byte; `none` when a half-byte is above 9. -/
def tagAt (p : Payload) (i : Nat) : Option Tag :=
  let ds := halfBytes p i 5
  if ds.all (· ≤ 9) then some (Fin.ofNat _ (digitsValue ds)) else none

/-- A yes or no field: 0 no, 1 yes, no other value. -/
def yesNoOf : Nat → Option Bool
  | 0 => some false
  | 1 => some true
  | _ => none

def slotOf : Nat → Option Slot
  | 0 => some .a
  | 1 => some .b
  | _ => none

def targetOf : Nat → Option Target
  | 0 => some .slotA
  | 1 => some .slotB
  | 2 => some .excluded
  | _ => none

def indOf : Nat → Option IndId
  | 0 => some .i0
  | 1 => some .i1
  | 2 => some .i2
  | 3 => some .i3
  | _ => none

def roleOf : Nat → Option ChuteRole
  | 0 => some .sort
  | 1 => some .standby
  | 2 => some .stray
  | _ => none

def sideOf : Nat → Option Side
  | 0 => some .left
  | 1 => some .right
  | _ => none

def clearModeOf : Nat → Option ClearMode
  | 0 => some .auto
  | 1 => some .manual
  | _ => none

def noticeGroupOf : Nat → Option NoticeGroup
  | 0 => some .loop
  | 1 => some .chutes
  | 2 => some .strays
  | 3 => some .ships
  | _ => none

/-- A chute number, 0 to 47. -/
def chuteOf (n : Nat) : Option ChuteId := if h : n < 48 then some ⟨n, h⟩ else none

/-- A tag window number, 0 to 7. -/
def windowOf (n : Nat) : Option (Fin 8) := if h : n < 8 then some ⟨n, h⟩ else none

/-- A cabin range index, 0 to 95. -/
def rangeOf (n : Nat) : Option (Fin 96) := if h : n < 96 then some ⟨n, h⟩ else none

/-! ### Writing a returned record (R195) -/

def b1 (n : Nat) : List Byte := [BitVec.ofNat 8 n]

def b2 (n : Nat) : List Byte := [BitVec.ofNat 8 (n / 256), BitVec.ofNat 8 n]

def b4 (n : Nat) : List Byte := b2 (n / 65536) ++ b2 (n % 65536)

def bFlag (b : Bool) : List Byte := b1 b.toNat

/-- A flag byte or presence field: bit `k` is the `k`-th of the list. -/
def bits (bs : List Bool) : Nat := bs.foldr (fun b a => b.toNat + 2 * a) 0

/-- Digits packed two to a byte, the first in the high half. -/
def packDigits : List Nat → List Byte
  | d :: e :: r => b1 (d * 16 + e) ++ packDigits r
  | [d] => b1 (d * 16)
  | [] => []

/-- The ten digits of a tag. -/
def tagDigits (t : Tag) : List Nat := (List.range 10).map fun k => t.val / 10 ^ (9 - k) % 10

def bTag (t : Tag) : List Byte := packDigits (tagDigits t)

/-- An absent field keeps its place and is sent as 0 (R195). -/
def bOpt {α : Type} (width : Nat) (x : Option α) (f : α → List Byte) : List Byte :=
  match x with
  | some v => f v
  | none => List.replicate width 0

/-- A list of varying length keeps `places` places of `width` bytes; those past its end are 0. -/
def bPlaces {α : Type} (places width : Nat) (xs : List α) (f : α → List Byte) : List Byte :=
  (List.range places).flatMap fun k => bOpt width xs[k]? f

/-! ### Codes of Table 11-1 -/

def Slot.code : Slot → Nat
  | .a => 0
  | .b => 1

def Target.code : Target → Nat
  | .slotA => 0
  | .slotB => 1
  | .excluded => 2

def SlotState.code : SlotState → Nat
  | .vacant => 0
  | .loading => 1
  | .final => 2
  | .closing => 3
  | .closed => 4

def LoopState.code : LoopState → Nat
  | .stopped => 0
  | .starting => 1
  | .running => 2
  | .stalled => 3

def Tray.code : Tray → Nat
  | .empty => 0
  | .reserved _ => 1
  | .loaded _ => 2
  | .selected .. => 3
  | .armed .. => 4
  | .fired .. => 5
  | .unconfirmed .. => 6
  | .suspect => 7

def indCode : IndId → Nat
  | .i0 => 0
  | .i1 => 1
  | .i2 => 2
  | .i3 => 3

def sizeCode : SizeClass → Nat
  | .small => 0
  | .medium => 1
  | .large => 2
  | .extra => 3

def BagClass.code : BagClass → Nat
  | .routed => 0
  | .waiting _ => 1
  | .stray _ => 2

def WaitReason.code : WaitReason → Nat
  | .unknownTag => 0
  | .cabinUnmapped => 1

def StrayCause.code : StrayCause → Nat
  | .noRead => 0
  | .multiRead => 1
  | .foreignTag => 2
  | .noShip => 3
  | .shipClosed => 4
  | .unknownTag => 5
  | .cabinUnmapped => 6
  | .duplicateTag => 7
  | .recircLimit => 8
  | .withdrawn => 9
  | .lostTrack => 10

def EntryStatus.code : EntryStatus → Nat
  | .expected => 0
  | .onLoop _ => 1
  | .sorted .. => 2
  | .strayed => 3
  | .untracked => 4

def StrayState.code : StrayState → Nat
  | .routing => 0
  | .inChute => 1
  | .matched => 2
  | .resolved => 3
  | .reinducted => 4

def ChuteRole.code : ChuteRole → Nat
  | .sort => 0
  | .standby => 1
  | .stray => 2

def Side.code : Side → Nat
  | .left => 0
  | .right => 1

def ChuteState.code : ChuteState → Nat
  | .disabled => 0
  | .unassigned => 1
  | .standbyIdle => 2
  | .isOpen => 3
  | .nearFull => 4
  | .full => 5
  | .swapping => 6

def Reading.code : Reading → Nat
  | .bag _ => 0
  | .multi .. => 1
  | .noread => 2

def Reservation.code : Reservation → Nat
  | .none => 0
  | .requested => 1
  | .granted _ => 2

def NoticeGroup.code : NoticeGroup → Nat
  | .loop => 0
  | .chutes => 1
  | .strays => 2
  | .ships => 3

def bGroup (g : Group) : List Byte := b1 g.slot.code ++ b1 g.deck ++ b1 g.zone

/-! ### Size classes -/

/-- Unit weight of a size class (00_scope 5.5, R14). -/
def unitsOf : SizeClass → Nat
  | .small => 1
  | .medium => 2
  | .large => 3
  | .extra => 4

/-- Throw time of a size class (Table 1-1). -/
def LoopConfig.throwTime (c : LoopConfig) : SizeClass → Nat
  | .small => c.throwSmall
  | .medium => c.throwMedium
  | .large => c.throwLarge
  | .extra => c.throwExtra

/-- A value brought into a range, to the nearer end (R2, R112). -/
def clampTo (lo hi v : Nat) : Nat := max lo (min hi v)

/-! ### Frames from the part to a station (Table 11-9) -/

/-- Kind code and data characters of a frame the part sends (R197). -/
def TxFrame.characters : TxFrame → Byte × List Byte
  | .hold => (17, [])
  | .resume => (18, [])
  | .launch t => (19, b2 t)

/-! ### The commands on the links -/

/-- The berth slot of a vessel link (R185). -/
def linkSlot : LinkId → Option Slot
  | .shore => none
  | .vesselA => some .a
  | .vesselB => some .b

/-- The vessel link of a berth slot (R185). -/
def slotLink : Slot → LinkId
  | .a => .vesselA
  | .b => .vesselB

/-- The request length of Table 11-2, in the form for the link's role (R188, R196). -/
def Command.length (k : Command) (l : LinkId) : Nat :=
  match k with
  | .configureLoop => 20
  | .startLoop => 0
  | .stopLoop => 0
  | .resetLoop => 0
  | .readTray => 2
  | .configureInduction => 6
  | .inductionResume => 1
  | .readInduction => 1
  | .setWindow => 8
  | .clearWindow => 1
  | .readWindow => 1
  | .addBag => 7
  | .withdrawBag => 5
  | .changeCabin => 7
  | .readBag => 5
  | .setCabinRange => 7
  | .clearCabinRange => 1
  | .readCabinRange => if (linkSlot l).isSome then 1 else 2
  | .berth => 3
  | .manifestFinal => 0
  | .manifestReopen => 0
  | .setQuota => 3
  | .cutOff => if (linkSlot l).isSome then 0 else 1
  | .unberth => 1
  | .shipStatus => if (linkSlot l).isSome then 0 else 1
  | .configureChute => 22
  | .assignChute => 4
  | .releaseChute => 1
  | .swapBegin => 1
  | .swapEnd => 1
  | .setBlockedInterval => 1
  | .readChute => 1
  | .resolveStray => 4
  | .discardStray => 2
  | .readStrayList => 1
  | .readStray => 2
  | .fetchNotice => 0
  | .ackGroup => 1
  | .clearNotice => 2
  | .setNoticeEnables => 4
  | .setClearMode => 1
  | .readResetCause => 0
  | .clearResetCause => 0

/-- The three permission classes of R190. -/
inductive Permission where
  | shoreOnly | vesselOnly | all
  deriving DecidableEq, Repr

/-- The permission class of a command (R190). -/
def commandClass : Command → Permission
  | .configureLoop | .startLoop | .stopLoop | .resetLoop | .readTray | .configureInduction
  | .inductionResume | .readInduction | .setWindow | .clearWindow | .berth | .setQuota | .unberth
  | .configureChute | .assignChute | .releaseChute | .swapBegin | .swapEnd | .setBlockedInterval
  | .resolveStray | .discardStray | .readResetCause | .clearResetCause => .shoreOnly
  | .addBag | .withdrawBag | .changeCabin | .setCabinRange | .clearCabinRange | .manifestFinal
  | .manifestReopen => .vesselOnly
  | .readWindow | .readBag | .readCabinRange | .cutOff | .shipStatus | .readChute | .readStrayList
  | .readStray | .fetchNotice | .ackGroup | .clearNotice | .setNoticeEnables | .setClearMode => .all

/-- Whether a link's role may send a command (R190). -/
def permitted (k : Command) (l : LinkId) : Bool :=
  match commandClass k with
  | .shoreOnly => (linkSlot l).isNone
  | .vesselOnly => (linkSlot l).isSome
  | .all => true

/-- The commands a vessel link may send while its slot is VACANT: SHIP STATUS and the notice
commands (R76). -/
def takenVacant : Command → Bool
  | .shipStatus | .fetchNotice | .ackGroup | .clearNotice | .setNoticeEnables | .setClearMode => true
  | .configureLoop | .startLoop | .stopLoop | .resetLoop | .readTray | .configureInduction
  | .inductionResume | .readInduction | .setWindow | .clearWindow | .readWindow | .addBag
  | .withdrawBag | .changeCabin | .readBag | .setCabinRange | .clearCabinRange | .readCabinRange
  | .berth | .manifestFinal | .manifestReopen | .setQuota | .cutOff | .unberth | .configureChute
  | .assignChute | .releaseChute | .swapBegin | .swapEnd | .setBlockedInterval | .readChute
  | .resolveStray | .discardStray | .readStrayList | .readStray | .readResetCause
  | .clearResetCause => false

/-- The refusal reasons of Table 10-2, in its order. -/
inductive Reason where
  | badCommand | badLength | notPermitted | badValue | state | notBerthed | quotaFull | belowUse
  | exists_ | notFound | overlap | windowInUse | noWindow | wrongShip | chuteInUse
  deriving DecidableEq, Repr

/-- Reason codes 1 to 15 (R196). -/
def Reason.code : Reason → Nat
  | .badCommand => 1
  | .badLength => 2
  | .notPermitted => 3
  | .badValue => 4
  | .state => 5
  | .notBerthed => 6
  | .quotaFull => 7
  | .belowUse => 8
  | .exists_ => 9
  | .notFound => 10
  | .overlap => 11
  | .windowInUse => 12
  | .noWindow => 13
  | .wrongShip => 14
  | .chuteInUse => 15

/-- What an accepted request answers: its status, OK or ACCEPTED, the CLAMPED mark and the payload
(R189). -/
structure Reply where
  accepted : Bool
  clamped : Bool
  payload : List Byte
  deriving DecidableEq, Repr

/-- OK with nothing to return. -/
def Reply.ok : Reply := { accepted := false, clamped := false, payload := [] }

/-- OK with a payload. -/
def Reply.data (p : List Byte) : Reply := { accepted := false, clamped := false, payload := p }

/-- An owning block's answer to a request: a refusal, which changes nothing (R188), or the state the
request leaves and the reply. -/
abbrev Answer := Except Reason (State × Reply)

/-- The bytes of a response: status, reason, mark, length, payload (R189, R196). -/
def responseBytes : Except Reason Reply → List Byte
  | .error r => [3, BitVec.ofNat 8 r.code, 0, 0]
  | .ok r =>
    [if r.accepted then 2 else 1, 0, if r.clamped then 1 else 0, BitVec.ofNat 8 r.payload.length]
      ++ r.payload

end Sys2Proof.Machine
end

