-- ==== Sys2Proof/Machine/Flags.lean ====
section
/-! DEFINITION. Notice flags (chapter 9): the sources of Table 9-1, raising one, judging a group,
the attention line. -/

namespace Sys2Proof.Machine

/-- The 28 notice sources that are raised (Table 9-1). -/
inductive Notice where
  | trackSlip | stall | homeMissing | lostBag | orphanBag | lateFire | armDropped
  | chuteFull | chuteNearFull | standbyTakeover | chuteBlocked | chuteFault | groupBlocked
  | strayChutesFull
  | newStray | strayMatched | strayListFull | duplicateTag | lineError | inductionOverrun | loopHold
  | cutoffComplete | quotaLow | cabinChangedAfterSort | waitExpired | unconfirmedSort | bagUntracked
  | lateAdd
  deriving DecidableEq, Repr

/-- Group of a source (Table 9-1). -/
def Notice.group : Notice → NoticeGroup
  | .trackSlip | .stall | .homeMissing | .lostBag | .orphanBag | .lateFire | .armDropped => .loop
  | .chuteFull | .chuteNearFull | .standbyTakeover | .chuteBlocked | .chuteFault | .groupBlocked
  | .strayChutesFull => .chutes
  | .newStray | .strayMatched | .strayListFull | .duplicateTag | .lineError | .inductionOverrun
  | .loopHold => .strays
  | .cutoffComplete | .quotaLow | .cabinChangedAfterSort | .waitExpired | .unconfirmedSort
  | .bagUntracked | .lateAdd => .ships

/-- Number of a source within its group (Table 9-1); 0 is GENERIC, which is never raised. -/
def Notice.number : Notice → Nat
  | .trackSlip | .chuteFull | .newStray | .cutoffComplete => 1
  | .stall | .chuteNearFull | .strayMatched | .quotaLow => 2
  | .homeMissing | .standbyTakeover | .strayListFull | .cabinChangedAfterSort => 3
  | .lostBag | .chuteBlocked | .duplicateTag | .waitExpired => 4
  | .orphanBag | .chuteFault | .lineError | .unconfirmedSort => 5
  | .lateFire | .groupBlocked | .inductionOverrun | .bagUntracked => 6
  | .armDropped | .strayChutesFull | .loopHold | .lateAdd => 7

/-- The unconditional sources of a group, as a byte of bits (Table 9-1): TRACK_SLIP, STALL and
LOST_BAG; CHUTE_FAULT; INDUCTION_OVERRUN; none. -/
def unconditionalBits : NoticeGroup → Byte
  | .loop => 0x16
  | .chutes => 0x20
  | .strays => 0x40
  | .ships => 0x00

/-- The sources of a group that are neither GENERIC nor unconditional: the enables a record holds
(R172). -/
def conditionalBits (g : NoticeGroup) : Byte := 0xFE &&& ~~~ unconditionalBits g

/-- The bit of a source. -/
def sourceBit (n : Nat) : Byte := BitVec.ofNat 8 (2 ^ n)

/-- The scope of a raise: the hall, or one berth slot (section 9.3). -/
inductive Scope where
  | hall
  | slot (s : Slot)
  deriving DecidableEq, Repr

/-- The slot scope where there is a slot, the hall scope where there is none. -/
def scopeOf : Option Slot → Scope
  | some s => .slot s
  | none => .hall

/-- The links a scope names (R173). -/
def Scope.names (sc : Scope) (l : LinkId) : Bool :=
  match l, sc with
  | .shore, _ => true
  | _, .hall => false
  | l, .slot s => l = slotLink s

/-- The sources of a group that call: flagged, and enabled or unconditional (R172). -/
def NoticeRecord.calling (r : NoticeRecord) (g : NoticeGroup) : Byte :=
  r.flags.get g &&& (r.enables.get g ||| unconditionalBits g)

/-- A group is pending when some source of it calls (R172). -/
def NoticeRecord.pending (r : NoticeRecord) (g : NoticeGroup) : Bool := r.calling g != 0

/-- R175: a group whose latch is clear and which is pending has its latch set, unfetched. -/
def NoticeRecord.judge (r : NoticeRecord) (g : NoticeGroup) : NoticeRecord :=
  if r.latches.get g = .clear ∧ r.pending g then { r with latches := r.latches.set g .set } else r

/-- R174: a raise sets the flag and has the group judged. -/
def NoticeRecord.raise (r : NoticeRecord) (n : Notice) : NoticeRecord :=
  { r with flags := r.flags.set n.group (r.flags.get n.group ||| sourceBit n.number) }.judge n.group

/-- R176: asserted while some group is latched and unfetched. -/
def NoticeRecord.attention (r : NoticeRecord) : Bool :=
  r.latches.loop = .set || r.latches.chutes = .set || r.latches.strays = .set || r.latches.ships = .set

/-- The attention line of a link (R176). -/
def State.attention (s : State) (l : LinkId) : Bool := (s.notices.get l).attention

/-- The notice record of a link after a raise in a scope. -/
def raiseIn (n : Notice) (sc : Scope) (l : LinkId) (r : NoticeRecord) : NoticeRecord :=
  if sc.names l then r.raise n else r

/-- R173: a raised source is flagged on the links of its scope. -/
def raise (n : Notice) (sc : Scope) (s : State) : State :=
  { s with notices :=
    { shore := raiseIn n sc .shore s.notices.shore
      vesselA := raiseIn n sc .vesselA s.notices.vesselA
      vesselB := raiseIn n sc .vesselB s.notices.vesselB } }

/-- A raise made only when a condition holds. -/
def raiseIf (b : Bool) (n : Notice) (sc : Scope) (s : State) : State :=
  if b then raise n sc s else s

end Sys2Proof.Machine
end

