-- ==== Sys2Proof/Machine/Ops.lean ====
section
/-! DEFINITION. The named operations over the state's tables: reading and writing a tray, an induction,
a slot, a chute, a bag entry; the counts that are computed from them; the loop hold, the line holds
and the drain, which follow those counts. -/

namespace Sys2Proof.Machine

/-! ### Trays, positions and offsets (00_scope 5.3) -/

/-- T, the number of trays on the loop. -/
def State.T (s : State) : Nat := s.loop.trays.length

/-- The record of tray `t`; a number of T or more names no tray and reads as EMPTY. -/
def State.tray (s : State) (t : Nat) : Tray := s.loop.trays.getD t .empty

/-- The tray that stands at an offset: (P - x) mod T. -/
def State.trayAt (s : State) (x : Nat) : Nat := (s.loop.pos + s.T - x) % s.T

/-- The offset of a tray: (P - t) mod T. -/
def State.offsetOf (s : State) (t : Nat) : Nat := (s.loop.pos + s.T - t) % s.T

/-- Every tray number, from the highest offset to the lowest (R9, R60, R125). -/
def State.traysByOffset (s : State) : List Nat :=
  (List.range s.T).map fun k => s.trayAt (s.T - 1 - k)

/-- The bag record a tray carries (Table 1-3). -/
def Tray.bag : Tray → Option BagRecord
  | .loaded b | .selected b .. | .armed b _ | .fired b .. | .unconfirmed b .. => some b
  | .empty | .reserved _ | .suspect => none

/-- The tray with its bag record rewritten (the class change of R13). -/
def Tray.mapBag (f : BagRecord → BagRecord) : Tray → Tray
  | .loaded b => .loaded (f b)
  | .selected b c a d => .selected (f b) c a d
  | .armed b c => .armed (f b) c
  | .fired b c g => .fired (f b) c g
  | .unconfirmed b c g => .unconfirmed (f b) c g
  | .empty => .empty
  | .reserved i => .reserved i
  | .suspect => .suspect

/-- The slot a tray's bag record carries. -/
def Tray.slot (x : Tray) : Option Slot := x.bag.bind (·.slot)

/-- Whether a bag record is of class WAITING. -/
def BagRecord.isWaiting (b : BagRecord) : Bool :=
  match b.cls with
  | .waiting _ => true
  | .routed => false
  | .stray _ => false

/-- Whether a bag record is of class STRAY. -/
def BagRecord.isStray (b : BagRecord) : Bool :=
  match b.cls with
  | .stray _ => true
  | .routed => false
  | .waiting _ => false

/-- A tray that counts in occupancy: every state but EMPTY and RESERVED (R16). -/
def Tray.occupied : Tray → Bool
  | .empty | .reserved _ => false
  | .loaded _ | .selected .. | .armed .. | .fired .. | .unconfirmed .. | .suspect => true

/-- The on-loop count of a slot: trays whose bag record carries it (R15). -/
def State.onLoop (s : State) (sl : Slot) : Nat :=
  s.loop.trays.countP fun x => x.slot = some sl

/-- The waiting count of a slot: those of its trays whose class is WAITING (R15). -/
def State.waiting (s : State) (sl : Slot) : Nat :=
  s.loop.trays.countP fun x => x.slot = some sl && (x.bag.map (·.isWaiting)).getD false

/-- Occupancy (R16). -/
def State.occupancy (s : State) : Nat := s.loop.trays.countP (·.occupied)

/-- The tray table with one tray rewritten. Nothing follows from it: for changes that move no count of
R15 or R16. -/
def putTray (t : Nat) (x : Tray) (s : State) : State :=
  { s with loop := { s.loop with trays := s.loop.trays.set t x } }

/-! ### Slots -/

def State.slot (s : State) (sl : Slot) : SlotRecord := s.slots.get sl

def modSlot (sl : Slot) (f : SlotRecord → SlotRecord) (s : State) : State :=
  { s with slots := s.slots.set sl (f (s.slots.get sl)) }

/-- R86: a report of an on-loop count of 0 for a slot in CLOSING closes it and raises
CUTOFF_COMPLETE; in any other state it changes no slot state. -/
def reportZero (sl : Slot) (s : State) : State :=
  if (s.slot sl).state = .closing then
    raise .cutoffComplete (.slot sl) (modSlot sl (fun r => { r with state := .closed }) s)
  else s

/-- R15, R86: the report of a changed on-loop count; only a count of 0 has an effect. -/
def reportCount (sl : Slot) (s : State) : State := if s.onLoop sl = 0 then reportZero sl s else s

/-! ### The loop hold (R16) -/

/-- R16: asserted at the high mark or above while released, with LOOP_HOLD; released at the low mark
or below while asserted; unchanged between the marks. -/
def judgeLoopHold (s : State) : State :=
  if s.loop.hold = false ∧ s.loop.cfg.highMark ≤ s.occupancy then
    raise .loopHold .hall { s with loop := { s.loop with hold := true } }
  else if s.loop.hold = true ∧ s.occupancy ≤ s.loop.cfg.lowMark then
    { s with loop := { s.loop with hold := false } }
  else s

/-- A tray becomes EMPTY: its bag record is dropped, the on-loop count of the record's slot is
reported (R15) and the loop hold is judged (R16). -/
def emptyTray (t : Nat) (s : State) : State :=
  let s1 := putTray t .empty s
  judgeLoopHold (match (s.tray t).slot with
    | some sl => reportCount sl s1
    | none => s1)

/-- A tray without a bag record becomes LOADED with a new one, and the loop hold is judged (R14,
R16). -/
def loadTray (t : Nat) (b : BagRecord) (s : State) : State := judgeLoopHold (putTray t (.loaded b) s)

/-! ### Inductions and their holds (R37) -/

/-- The four inductions in the order of their numbers. -/
def allInds : List IndId := [.i0, .i1, .i2, .i3]

def State.ind (s : State) (i : IndId) : Induction := s.inds.get i

def modInd (i : IndId) (f : Induction → Induction) (s : State) : State :=
  { s with inds := s.inds.set i (f (s.inds.get i)) }

/-- Cause 2 of R37: the loop hold holds the automatic inductions I0, I1 and I2. -/
def heldByLoop (hold : Bool) (i : IndId) : Bool := hold && i != .i3

/-- Cause 4 of R37: the loop is STOPPED or STALLED. -/
def State.atRest (s : State) : Bool := s.loop.state = .stopped || s.loop.state = .stalled

/-- Barred from claiming by cause 2, 3, 4 or 5 of R37, cause 2 judged from a given loop hold: a pitch
event judges it from the hold as it stood when the event began. -/
def State.barredWith (s : State) (hold : Bool) (i : IndId) : Bool :=
  heldByLoop hold i || (s.ind i).resync || s.atRest || !(s.ind i).enabled

/-- Barred from claiming (R37). -/
def State.barred (s : State) (i : IndId) : Bool := s.barredWith s.loop.hold i

/-- Held: some cause of R37 applies. -/
def State.held (s : State) (i : IndId) : Bool := (s.ind i).queueHold || s.barred i

/-- The causes 1 to 5 of R37, in order. -/
def State.heldCauses (s : State) (i : IndId) : List Bool :=
  [(s.ind i).queueHold, heldByLoop s.loop.hold i, (s.ind i).resync, s.atRest, !(s.ind i).enabled]

/-- Whether a frame is HOLD or RESUME. -/
def TxFrame.isHold : TxFrame → Bool
  | .hold | .resume => true
  | .launch _ => false

/-- R32: a frame joins the transmit list. It begins at once on an idle line (log 14). A HOLD or RESUME
replaces a waiting HOLD or RESUME that is last in the list. -/
def Induction.send (f : TxFrame) (r : Induction) : Induction :=
  match r.sending, r.waiting with
  | none, [] => { r with sending := some f }
  | _, w =>
    if f.isHold && (w.getLast?.map (·.isHold)).getD false then
      { r with waiting := w.dropLast ++ [f] }
    else { r with waiting := w ++ [f] }

/-- R37 for one induction: HOLD joins its list, with the re-send count restarted, when it has changed
from not held to held since `before`; RESUME joins at the opposite change. -/
def settleHold (before : State) (s : State) (i : IndId) : State :=
  match before.held i, s.held i with
  | false, true => modInd i (fun r => { r.send .hold with resendCount := 0 }) s
  | true, false => modInd i (·.send .resume) s
  | false, false => s
  | true, true => s

/-- R37 for all four inductions, after a change of some cause. -/
def settleHolds (before s : State) : State := allInds.foldl (settleHold before) s

/-- R36: asserted at 3 records or more, released at 1 or fewer, else as it was. -/
def Induction.judgeQueue (r : Induction) : Induction :=
  if 3 ≤ r.queue.length then { r with queueHold := true }
  else if r.queue.length ≤ 1 then { r with queueHold := false }
  else r

/-- A REQUESTED reservation is withdrawn; a GRANTED one stays. -/
def Reservation.withdraw : Reservation → Reservation
  | .requested => .none
  | .none => .none
  | .granted t => .granted t

/-- The queue is emptied: the queue hold is released, a REQUESTED reservation is withdrawn and the
head wait count becomes 0 (R28, R35). -/
def Induction.emptyQueue (r : Induction) : Induction :=
  { r with queue := [], queueHold := false, reservation := r.reservation.withdraw, waitCount := 0 }

/-! ### Chutes -/

/-- The 48 chutes in the order of their numbers. -/
def allChutes : List ChuteId := List.finRange 48

def State.chute (s : State) (c : ChuteId) : Chute := s.chutes.get c

/-- A chute record rewritten without judging the lists of R131 and R132: for changes of other fields
than those R131 names. -/
def putChute (c : ChuteId) (x : Chute) (s : State) : State :=
  { s with chutes := s.chutes.set c x }

/-- The scope of a notice raised for a chute (R115). -/
def Chute.scope (x : Chute) : Scope :=
  match x.group with
  | some g => if x.released || x.cfg.role = .stray then .hall else .slot g.slot
  | none => .hall

/-! ### The bag entry pool (section 3.2) -/

/-- The pool's canonical form: tags strictly rising, so that equal pools are equal lists. -/
def poolSorted (p : List BagEntry) : Bool := decide (p.Pairwise fun x y => x.tag < y.tag)

/-- The entry for a tag; R57 allows at most one. -/
def findEntry (tag : Tag) (p : List BagEntry) : Option BagEntry := p.find? fun e => e.tag = tag

/-- An entry taken from the pool for a tag that has none, in its place by tag. -/
def insertEntry (e : BagEntry) : List BagEntry → List BagEntry
  | [] => [e]
  | x :: r => if e.tag < x.tag then e :: x :: r else x :: insertEntry e r

/-- The entry of a tag returned to the pool. -/
def eraseEntry (tag : Tag) (p : List BagEntry) : List BagEntry := p.filter fun e => e.tag != tag

/-- Rewrites the entry of a tag, keeping the tag. -/
def updateEntry (tag : Tag) (f : BagEntry → BagEntry) (p : List BagEntry) : List BagEntry :=
  p.map fun e => if e.tag = tag then { f e with tag := e.tag } else e

def State.entry (s : State) (tag : Tag) : Option BagEntry := findEntry tag s.pool

/-- The entry for a tag in one slot. -/
def State.entryIn (s : State) (sl : Slot) (tag : Tag) : Option BagEntry :=
  (s.entry tag).filter fun e => e.slot = sl

def modEntry (tag : Tag) (f : BagEntry → BagEntry) (s : State) : State :=
  { s with pool := updateEntry tag f s.pool }

/-- The entry count of a slot (R56). -/
def State.entryCount (s : State) (sl : Slot) : Nat := s.pool.countP fun e => e.slot = sl

/-- The number of a slot's entries in a status, by its code (R56, R91). -/
def State.statusCount (s : State) (sl : Slot) (code : Nat) : Nat :=
  s.pool.countP fun e => e.slot = sl && e.status.code = code

/-- The number of a slot's entries with added late set (R91). -/
def State.lateCount (s : State) (sl : Slot) : Nat :=
  s.pool.countP fun e => e.slot = sl && e.addedLate

/-- The free count of the pool (R56). -/
def State.freeEntries (s : State) : Nat := 8192 - s.pool.length

/-! ### QUOTA_LOW (R81) -/

/-- The warning level: 0.9 times the quota, rounded up (R81). -/
def warningLevel (quota : Nat) : Nat := (9 * quota + 9) / 10

/-- R81: judges the armed flag of a slot against its entry count and quota. -/
def judgeQuota (sl : Slot) (s : State) : State :=
  let r := s.slot sl
  let count := s.entryCount sl
  if r.quotaArmed = true ∧ 0 < r.quota ∧ warningLevel r.quota ≤ count then
    raise .quotaLow (.slot sl) (modSlot sl (fun r => { r with quotaArmed := false }) s)
  else if r.quotaArmed = false ∧ count < warningLevel r.quota then
    modSlot sl (fun r => { r with quotaArmed := true }) s
  else s

/-! ### Tag decode and cabin lookup (R52, R69) -/

/-- A window that matches a tag: valid, and the tag begins with its digits (section 3.1). -/
def TagWindow.isMatch (w : TagWindow) (tag : Tag) : Bool :=
  !w.digits.isEmpty && w.digits.isPrefixOf (tagDigits tag)

/-- The longer of two matching windows. -/
def longerMatch (tag : Tag) (best : Option TagWindow) (w : TagWindow) : Option TagWindow :=
  if w.isMatch tag then
    match best with
    | some v => if v.digits.length < w.digits.length then some w else some v
    | none => some w
  else best

/-- R52: the target of the matching window with the longest prefix, `none` for NONE. -/
def State.decode (s : State) (tag : Tag) : Option Target :=
  (s.tagWindows.toList.foldl (longerMatch tag) none).map (·.target)

/-- The slot of a target, none for EXCLUDED. -/
def Target.slot : Target → Option Slot
  | .slotA => some .a
  | .slotB => some .b
  | .excluded => none

/-- The slot a tag decodes to: none for NONE and for EXCLUDED. -/
def State.decodeSlot (s : State) (tag : Tag) : Option Slot := (s.decode tag).bind Target.slot

/-- The range of a map that contains a cabin (R69). -/
def rangeWith (m : Vector CabinRange 96) (cabin : Nat) : Option CabinRange :=
  m.toList.find? fun r => r.valid && r.first ≤ cabin && cabin ≤ r.last

/-- R69: the group of a cabin of a slot, none for UNMAPPED. -/
def State.lookup (s : State) (sl : Slot) (cabin : Nat) : Option Group :=
  (rangeWith (s.maps.get sl) cabin).map fun r => { slot := sl, deck := r.deck, zone := r.zone }

/-! ### The period estimate (R139) -/

/-- Pe, the period estimate in use (R139). -/
def State.period (s : State) : Nat :=
  match s.loop.state with
  | .running => clampTo 500 30000 (s.loop.intervals.sum / 4)
  | .stopped | .starting | .stalled => s.loop.cfg.nominal

/-- READ TRAY's mark: 0 invalid, 1 nominal, 2 measured (R139, Table 11-1). -/
def State.periodMark (s : State) : Nat :=
  match s.loop.state with
  | .running => 2
  | .stopped | .starting | .stalled => if s.loop.everRan then 1 else 0

/-! ### Orders the manual leaves open (log 1) -/

/-- One merge of some threads that keeps each thread's own order: each number of the choice sequence
picks which non-empty thread goes next; a choice sequence that runs out goes on with the first. -/
def interleave {α : Type} : Nat → List Nat → List (List α) → List α
  | 0, _, _ => []
  | fuel + 1, choices, threads =>
    let ts := threads.filter (!·.isEmpty)
    let k := choices.headD 0 % ts.length
    match ts[k]? with
    | some (x :: r) => x :: interleave fuel choices.tail (ts.set k r)
    | some [] => []
    | none => []

/-- All of some threads merged in an order. -/
def merged {α : Type} (choices : List Nat) (threads : List (List α)) : List α :=
  interleave (threads.map (·.length)).sum choices threads

end Sys2Proof.Machine
end

