-- ==== Sys2Proof/Machine/ChuteOps.lean ====
section
/-! DEFINITION. The Chute Manager's own operations (chapter 6): eligibility, the judged lists, fill and
committed units, standby takeover, selection, blocked groups; and the fire queue's removals. -/

namespace Sys2Proof.Machine

/-! ### Eligibility (R119) -/

/-- What a bag asks of a chute: its group, or a STRAY chute. -/
inductive Dest where
  | group (g : Group)
  | stray
  deriving DecidableEq, Repr

/-- R119: eligible for a bag of a destination and a number of units. -/
def Chute.eligible (x : Chute) (dest : Dest) (units : Nat) : Bool :=
  (x.state = .isOpen || x.state = .nearFull) && !x.jam && !x.fault
    && !(x.group.isSome && x.released)
    && decide (x.fill + x.committed + units ≤ x.cfg.capacity)
    && (match dest with
      | .group g => (x.cfg.role = .sort || x.cfg.role = .standby) && x.group = some g
      | .stray => x.cfg.role = .stray)

/-- Some chute is eligible for a bag. -/
def State.someEligible (s : State) (dest : Dest) (units : Nat) : Bool :=
  s.chutes.toList.any (·.eligible dest units)

/-! ### The judged lists (R131, R132) -/

/-- R131: each record whose group now has a chute eligible for a unit-1 bag is removed. -/
def judgeBlocked (s : State) : State :=
  { s with blocked := s.blocked.filter fun r => !s.someEligible (.group r.group) 1 }

/-- R132: the armed flag is set when some STRAY chute is eligible for a stray of 1 unit. -/
def judgeStrayArmed (s : State) : State :=
  if s.someEligible .stray 1 then { s with strayArmed := true } else s

/-- The fields whose change is a change of a chute record (R131). -/
def Chute.judgedFields (x : Chute) : ChuteState × Option Group × Nat × Nat × Bool × Bool :=
  (x.state, x.group, x.fill, x.committed, x.jam, x.fault)

/-- A chute record rewritten; after a change of a field of R131 the blocked-group list is judged, and
the STRAY_CHUTES_FULL flag when the chute's role is STRAY (R132). -/
def setChute (c : ChuteId) (x : Chute) (s : State) : State :=
  let s1 := putChute c x s
  if x.judgedFields = (s.chute c).judgedFields then s1
  else
    let s2 := judgeBlocked s1
    if x.cfg.role = .stray then judgeStrayArmed s2 else s2

def modChute (c : ChuteId) (f : Chute → Chute) (s : State) : State := setChute c (f (s.chute c)) s

/-! ### Standby chutes (R123, R124) -/

/-- A STANDBY chute that can take over: STANDBY_IDLE with neither flag set. -/
def Chute.canTakeOver (x : Chute) : Bool :=
  x.cfg.role = .standby && x.state = .standbyIdle && !x.jam && !x.fault

/-- R123: the standby takes the full chute's group and becomes OPEN. -/
def takeOver (standby from_ : ChuteId) (s : State) : State :=
  let s1 := modChute standby (fun x =>
    { x with group := (s.chute from_).group, released := false, tookOver := some from_, state := .isOpen }) s
  raise .standbyTakeover (s1.chute standby).scope s1

/-- A SORT chute with a group that is not released. -/
def Chute.servesUnreleased (x : Chute) : Bool :=
  x.cfg.role = .sort && x.group.isSome && !x.released

/-- R123: at a SORT chute's entry to FULL, each idle standby that covers it takes over. -/
def coverFull (c : ChuteId) (s : State) : State :=
  if (s.chute c).servesUnreleased then
    (allChutes.filter fun k => (s.chute k).canTakeOver && (s.chute k).cfg.cover.contains c).foldl
      (fun s k => takeOver k c s) s
  else s

/-- R124: a standby that is STANDBY_IDLE takes over the lowest-numbered FULL chute it covers. -/
def judgeStandby (c : ChuteId) (s : State) : State :=
  if (s.chute c).canTakeOver then
    match allChutes.find? fun k =>
        (s.chute c).cfg.cover.contains k && (s.chute k).servesUnreleased && (s.chute k).state = .full with
    | some k => takeOver c k s
    | none => s
  else s

/-! ### Fill and committed units (R116 to R118) -/

/-- The fill state of R118 for a chute's fill units. -/
def Chute.fillState (x : Chute) : ChuteState :=
  if x.cfg.capacity ≤ x.fill then .full else if x.cfg.nearFull ≤ x.fill then .nearFull else .isOpen

/-- A chute in one of the states that fill moves (R118). -/
def Chute.filling (x : Chute) : Bool :=
  x.state = .isOpen || x.state = .nearFull || x.state = .full

/-- R118: judges the fill state, with its notices, and the takeover at an entry to FULL (R123). -/
def judgeFill (c : ChuteId) (s : State) : State :=
  let x := s.chute c
  if x.filling ∧ x.fillState ≠ x.state then
    let s1 := modChute c (fun x => { x with state := x.fillState }) s
    if x.fillState = .full then coverFull c (raise .chuteFull x.scope s1)
    else raiseIf (x.fillState = .nearFull && x.state = .isOpen) .chuteNearFull x.scope s1
  else s

/-- Units returned from a chute's committed units (R116). -/
def returnCommitted (c : ChuteId) (units : Nat) (s : State) : State :=
  modChute c (fun x => { x with committed := x.committed - units }) s

/-- R117: units returned from fill when the tray's generation is the chute's present one. DESIGN CHOICE
(log 37): a fill below the units, which a generation that has wrapped can meet, becomes 0. -/
def returnFill (c : ChuteId) (gen : BitVec 8) (units : Nat) (s : State) : State :=
  if (s.chute c).gen = gen then
    judgeFill c (modChute c (fun x => { x with fill := x.fill - units }) s)
  else s

/-- R129: the tilt-failure count rises by 1 and stops at 3; at 3 the fault flag is set, with
CHUTE_FAULT unless it was set already. -/
def tiltFailed (c : ChuteId) (s : State) : State :=
  let x := s.chute c
  if 3 ≤ x.failures then s
  else if x.failures + 1 = 3 then
    raiseIf (!x.fault) .chuteFault x.scope (modChute c (fun x => { x with failures := 3, fault := true }) s)
  else modChute c (fun x => { x with failures := x.failures + 1 }) s

/-! ### Losing a selection -/

/-- The fire record of a tray leaves the queue (R143). -/
def removeFire (t : Nat) (s : State) : State :=
  { s with fireQueue := s.fireQueue.filter fun r => r.tray != t }

/-- R13, R14: a SELECTED or ARMED tray becomes LOADED, its fire record is removed and its units are
returned from committed; every other tray stands. -/
def cancelSelection (t : Nat) (s : State) : State :=
  match s.tray t with
  | .selected b c _ _ => putTray t (.loaded b) (returnCommitted c (unitsOf b.size) s)
  | .armed b c => putTray t (.loaded b) (returnCommitted c (unitsOf b.size) (removeFire t s))
  | .empty | .reserved _ | .loaded _ | .fired .. | .unconfirmed .. | .suspect => s

/-- The last window of a tray leaves a confirm list: the one its latest fire opened (log 17). -/
def dropOwnWindow (t : Nat) : List ConfirmWindow → List ConfirmWindow
  | [] => []
  | w :: r => if w.tray = t ∧ (r.all fun v => v.tray != t) then r else w :: dropOwnWindow t r

/-- The confirm window of a FIRED tray leaves its chute's list (R22, R43). -/
def removeWindow (c : ChuteId) (t : Nat) (s : State) : State :=
  putChute c { s.chute c with windows := dropOwnWindow t (s.chute c).windows } s

/-! ### Selection (R120 to R122, R130, R140) -/

/-- The group of a ROUTED bag: its entry's cabin looked up in the slot's map, none for UNMAPPED (R69,
R120 step 1). -/
def State.bagGroup (s : State) (b : BagRecord) : Option Group :=
  match b.slot, b.entryLink with
  | some sl, some tag => (s.entry tag).bind fun e => s.lookup sl e.cabin
  | _, none => none
  | none, some _ => none

/-- What a bag asks of a chute, none when it is not selected: a WAITING bag, and a ROUTED bag whose
cabin is UNMAPPED. -/
def State.bagDest (s : State) (b : BagRecord) : Option Dest :=
  match b.cls with
  | .routed => (s.bagGroup b).map .group
  | .waiting _ => none
  | .stray _ => some .stray

/-- Lead: the chute's latency plus the throw time of the size class (R140). -/
def State.lead (s : State) (c : ChuteId) (size : SizeClass) : Nat :=
  (s.chute c).cfg.latency + s.loop.cfg.throwTime size

/-- R140: the arm distance of a chute for a size class. -/
def State.armDistance (s : State) (c : ChuteId) (size : SizeClass) : Nat :=
  s.lead c size / s.period + 1

/-- R140: the arm position and distance of a chute reachable in the present pass from offset `x`. -/
def State.reach (s : State) (c : ChuteId) (size : SizeClass) (x : Nat) : Option (Nat × Nat) :=
  let d := s.armDistance c size
  let o := (s.chute c).cfg.offset
  if d + 1 ≤ o ∧ x < o - d then some (o - d, d) else none

/-- A chute chosen for a tray, with its arm position and distance. -/
structure Choice where
  chute : ChuteId
  arm : Nat
  d : Nat
  deriving DecidableEq, Repr

/-- R120 steps 2 and 3: a candidate replaces the best so far when its arm position is smaller; the
chutes are tried by rising number, so the lower number wins among equals. -/
def State.chooseOne (s : State) (dest : Dest) (size : SizeClass) (x : Nat) (best : Option Choice)
    (c : ChuteId) : Option Choice :=
  if (s.chute c).eligible dest (unitsOf size) then
    match s.reach c size x with
    | some (a, d) =>
      match best with
      | some k => if a < k.arm then some ⟨c, a, d⟩ else some k
      | none => some ⟨c, a, d⟩
    | none => best
  else best

/-- R120: the reachable eligible chute with the smallest arm position. -/
def State.choose (s : State) (dest : Dest) (size : SizeClass) (x : Nat) : Option Choice :=
  allChutes.foldl (s.chooseOne dest size x) none

/-- R130: a blocked selection recorded against its group. -/
def blockedSelection (g : Group) (s : State) : State :=
  match s.blocked.find? fun r => r.group = g with
  | some r =>
    let due : Bool := decide (s.blockedN ≤ r.reraise + 1)
    raiseIf due .groupBlocked (.slot g.slot)
      { s with blocked := s.blocked.map fun q =>
          if q.group = g then
            { q with count := min 65535 (q.count + 1), reraise := if due then 0 else q.reraise + 1 }
          else q }
  | none =>
    raise .groupBlocked (.slot g.slot)
      (if s.blocked.length < 16 then
        { s with blocked := s.blocked ++ [{ group := g, count := 1, reraise := 0 }] }
      else s)

/-- R121: a selection that ends with no chute: counted for a group without an eligible chute (R130),
judged for STRAY_CHUTES_FULL when no STRAY chute is eligible (R132). -/
def noChute (dest : Dest) (units : Nat) (s : State) : State :=
  if s.someEligible dest units then s
  else
    match dest with
    | .group g => blockedSelection g s
    | .stray =>
      if s.strayArmed then raise .strayChutesFull .hall { s with strayArmed := false } else s

/-- R120: a LOADED tray passed to selection from its present offset. Trays in other states, WAITING
trays and routed bags with an UNMAPPED cabin are left as they are. -/
def passToSelection (t : Nat) (s : State) : State :=
  match s.tray t with
  | .loaded b =>
    match s.bagDest b with
    | some dest =>
      match s.choose dest b.size (s.offsetOf t) with
      | some k =>
        modChute k.chute (fun x => { x with committed := x.committed + unitsOf b.size })
          (putTray t (.selected b k.chute k.arm k.d) s)
      | none => noChute dest (unitsOf b.size) s
    | none => s
  | .empty | .reserved _ | .selected .. | .armed .. | .fired .. | .unconfirmed .. | .suspect => s

end Sys2Proof.Machine
end

