-- ==== Sys2Proof/Machine/StrayOps.lean ====
section
/-! DEFINITION. The Stray List's own operations (chapter 8): recording a stray, arrivals, reinduction,
late matches, sorts, lost track, removal, and the undo of a failed launch. -/

namespace Sys2Proof.Machine

/-- A tag appears on an entry when it is its tag or its second tag (R153). -/
def StrayEntry.carries (tag : Tag) (e : StrayEntry) : Bool := e.tag = some tag || e.tag2 = some tag

/-- The entry that carries a tag; R153 allows at most one. -/
def State.strayOfTag (s : State) (tag : Tag) : Option StrayEntry := s.strays.find? (·.carries tag)

/-- The entry that holds an id. -/
def State.strayOfId (s : State) (id : BitVec 16) : Option StrayEntry :=
  s.strays.find? fun e => e.id = id

/-- Rewrites the entry that holds an id, in its place. -/
def modStray (id : BitVec 16) (f : StrayEntry → StrayEntry) (s : State) : State :=
  { s with strays := s.strays.map fun e => if e.id = id then f e else e }

/-- R159: an entry's recorded slot is a given slot when the letter is that slot and the call number is
the slot's present one. -/
def State.recordedFor (s : State) (sl : Slot) (e : StrayEntry) : Bool :=
  e.slot = some (sl, (s.slot sl).call)

/-- R154: the counter's value, or the next value after it that no entry holds. -/
def freshId (held : List (BitVec 16)) : Nat → BitVec 16 → BitVec 16
  | 0, n => n
  | fuel + 1, n => if held.contains n then freshId held fuel (n + 1) else n

/-- The scope of NEW_STRAY and STRAY_LIST_FULL (R157, R158): the stray's slot unless it is VACANT. -/
def State.strayScope (s : State) : Option Slot → Scope
  | some sl => if (s.slot sl).state = .vacant then .hall else .slot sl
  | none => .hall

/-- A request to record a stray (R155). -/
structure StrayRequest where
  cause : StrayCause
  tag : Option Tag
  tag2 : Option Tag
  slot : Option Slot
  cabin : Option Nat
  deriving DecidableEq, Repr

/-- R90: the stray count of the slot handed on rises by 1 and stops at 65535. -/
def countStray (slot : Option Slot) (s : State) : State :=
  match slot with
  | some sl => modSlot sl (fun r => { r with strayCount := min 65535 (r.strayCount + 1) }) s
  | none => s

/-- R155 case 1: the entry that carries the first tag, or else the second. -/
def State.carrierOf (s : State) (q : StrayRequest) : Option StrayEntry :=
  (q.tag.bind s.strayOfTag).or (q.tag2.bind s.strayOfTag)

/-- R156: the entry enters ROUTING with the new cause, times strayed raised, the mark cleared. -/
def StrayEntry.restray (cause : StrayCause) (e : StrayEntry) : StrayEntry :=
  { e with cause := cause, times := min 255 (e.times + 1), untracked := false, state := .routing }

/-- R157: the entry appended for a stray. -/
def State.newStray (s : State) (q : StrayRequest) (id : BitVec 16) : StrayEntry :=
  { id := id, cause := q.cause, tag := q.tag, tag2 := q.tag2
    slot := q.slot.map fun sl => (sl, (s.slot sl).call)
    cabin := q.cabin, created := s.clock.seconds, chute := none, untracked := false, times := 1
    state := .routing }

/-- What recording a stray answers: the state, the stray id (none for an unlisted bag), and what an
undo note would keep of it. -/
structure Recorded where
  state : State
  id : Option (BitVec 16)
  undo : Option UndoStray

/-- R155: re-strays the entry that carries the stray's tag (R156), appends one while the list holds
fewer than 128 (R157), or counts the bag as unlisted (R158). -/
def recordStray (q : StrayRequest) (s0 : State) : Recorded :=
  let s := countStray q.slot s0
  match s.carrierOf q with
  | some e =>
    { state := modStray e.id (·.restray q.cause) s
      id := some e.id
      undo := some (.moved e.id e.state e.cause e.untracked e.times .routing (min 255 (e.times + 1))) }
  | none =>
    if s.strays.length < 128 then
      let id := freshId (s.strays.map (·.id)) (s.strays.length + 1) s.nextStrayId
      { state := raise .newStray (s.strayScope q.slot)
          { s with strays := s.strays ++ [s.newStray q id], nextStrayId := id + 1 }
        id := some id
        undo := some (.appended id) }
    else
      { state := raise .strayListFull (s.strayScope q.slot)
          { s with unlisted := min 65535 (s.unlisted + 1) }
        id := none
        undo := none }

/-- R162: the entry of the tag recorded for the bag's slot becomes REINDUCTED, with the mark cleared. -/
def reinductStray (tag : Tag) (sl : Slot) (s : State) : Recorded :=
  match (s.strayOfTag tag).filter (s.recordedFor sl) with
  | some e =>
    { state := modStray e.id (fun e => { e with state := .reinducted, untracked := false }) s
      id := some e.id
      undo := if e.state = .reinducted then none
        else some (.moved e.id e.state e.cause e.untracked e.times .reinducted e.times) }
  | none => { state := s, id := none, undo := none }

/-- R160: the arrival of a stray bag in a chute, against the entry that holds its id. -/
def strayArrival (id : BitVec 16) (c : ChuteId) (s : State) : State :=
  modStray id (fun e =>
    { e with
      state := if e.state = .routing then .inChute else e.state
      chute := some c
      untracked := false }) s

/-- R166: the removal of an entry: its bag entry's link and every bag record's id are dropped, and the
later entries move up. -/
def removeStray (id : BitVec 16) (s : State) : State :=
  { s with
    pool := s.pool.map fun e => if e.strayLink = some id then { e with strayLink := none } else e
    loop :=
      { s.loop with
        trays := s.loop.trays.map fun x =>
          x.mapBag fun b => if b.strayId = some id then { b with strayId := none } else b }
    strays := s.strays.filter fun e => e.id != id }

/-- R163: the sort of a routed bag, told with an id: an entry in REINDUCTED is removed. -/
def straySorted (id : Option (BitVec 16)) (s : State) : State :=
  match id.bind s.strayOfId with
  | some e => if e.state = .reinducted then removeStray e.id s else s
  | none => s

/-- R164: the part has lost track of a tray whose bag record carries an id. -/
def strayUntracked (id : Option (BitVec 16)) (s : State) : State :=
  match id with
  | some n => modStray n (fun e => { e with untracked := true }) s
  | none => s

/-- R161: the entry a late ADD BAG matches. -/
def State.matchable (s : State) (sl : Slot) (tag : Tag) : Option StrayEntry :=
  (s.strayOfTag tag).filter fun e =>
    e.cause = .unknownTag && s.recordedFor sl e && (e.state = .routing || e.state = .inChute)

/-- R167: what a failed launch undoes at the Stray List. -/
def undoStray (u : UndoStray) (s : State) : State :=
  match u with
  | .appended id =>
    match s.strayOfId id with
    | some e =>
      if e.state = .routing ∧ e.times = 1 then removeStray id s
      else if 1 < e.times ∧ e.times < 255 then modStray id (fun e => { e with times := e.times - 1 }) s
      else s
    | none => s
  | .moved id state cause untracked times leftState leftTimes =>
    match s.strayOfId id with
    | some e =>
      if e.state = leftState ∧ e.times = leftTimes then
        modStray id (fun e =>
          { e with state := state, cause := cause, untracked := untracked, times := times }) s
      else s
    | none => s

end Sys2Proof.Machine
end

