-- ==== Sys2Proof/Machine/Classify.lean ====
section
/-! DEFINITION. Bag classification (chapter 5), the requests other blocks make of a bag entry (Table
3-4), the sort of a bag, and the wakes of WAITING trays (R60, R83, R104, R105). -/

namespace Sys2Proof.Machine

/-- The bag record of a tray rewritten through the Loop Tracker (class change of R13). -/
def modBag (t : Nat) (f : BagRecord → BagRecord) (s : State) : State :=
  putTray t ((s.tray t).mapBag f) s

/-! ### Requests against a bag entry (R58, Table 3-4) -/

/-- Link to tray: an EXPECTED, STRAYED or UNTRACKED entry becomes ON_LOOP and keeps its stray link. -/
def linkEntry (tag : Tag) (s : State) : State :=
  modEntry tag (fun e =>
    match e.status with
    | .expected | .strayed | .untracked => { e with status := .onLoop false }
    | .onLoop _ | .sorted .. => e) s

/-- Sort confirmed or inferred: an ON_LOOP entry becomes SORTED with the chute, the hall seconds and
the unconfirmed mark; a changed in flight mark raises CABIN_CHANGED_AFTER_SORT. -/
def sortEntry (tag : Tag) (c : ChuteId) (unconfirmed : Bool) (s : State) : State :=
  match s.entry tag with
  | some e =>
    match e.status with
    | .onLoop changed =>
      raiseIf changed .cabinChangedAfterSort (.slot e.slot)
        (modEntry tag (fun e => { e with status := .sorted c s.clock.seconds unconfirmed }) s)
    | .expected | .sorted .. | .strayed | .untracked => s
  | none => s

/-- Untrack: an ON_LOOP entry becomes UNTRACKED and keeps its stray link. -/
def untrackEntry (tag : Tag) (s : State) : State :=
  modEntry tag (fun e =>
    match e.status with
    | .onLoop _ => { e with status := .untracked }
    | .expected | .sorted .. | .strayed | .untracked => e) s

/-- Stray: an ON_LOOP entry becomes STRAYED, linked to the stray entry made or found, else unlinked. -/
def strayBagEntry (tag : Tag) (id : Option (BitVec 16)) (s : State) : State :=
  modEntry tag (fun e =>
    match e.status with
    | .onLoop _ => { e with status := .strayed, strayLink := id }
    | .expected | .sorted .. | .strayed | .untracked => e) s

/-- Restore (Table 3-4): an ON_LOOP entry returns to the status and stray link of an undo note. -/
def restoreEntry (u : UndoEntry) (s : State) : State :=
  modEntry u.tag (fun e =>
    match e.status with
    | .onLoop _ => { e with status := u.status, strayLink := u.strayLink }
    | .expected | .sorted .. | .strayed | .untracked => e) s

/-- The sort of a bag into a chute, confirmed (R148) or inferred (R21): a linked entry is sorted and
the Stray List told (R58, R163); a stray's arrival is taken (R160). -/
def sortBag (b : BagRecord) (c : ChuteId) (unconfirmed : Bool) (s : State) : State :=
  match b.entryLink with
  | some tag =>
    straySorted (b.strayId.or ((s.entry tag).bind (·.strayLink))) (sortEntry tag c unconfirmed s)
  | none =>
    match b.strayId with
    | some id => if b.isStray then strayArrival id c s else s
    | none => s

/-- What losing track of a bag record does to its entry and its stray entry (R12, R20, R164). -/
def loseBag (b : BagRecord) (s : State) : State :=
  strayUntracked b.strayId (match b.entryLink with
    | some tag => untrackEntry tag s
    | none => s)

/-- The tray whose bag record links an entry; R58 allows at most one. -/
def State.trayOfEntry (s : State) (tag : Tag) : Option Nat :=
  s.loop.trays.findIdx? fun x => (x.bag.bind (·.entryLink)) = some tag

/-! ### Classification (R93 to R101) -/

/-- What a classification leaves: the state, and what it changed for an undo note (R108). -/
structure Classified where
  state : State
  note : UndoNote

/-- A note of nothing. -/
def UndoNote.blank : UndoNote := { entry := none, stray := none }

/-- R101 steps 1 and 2: the bag becomes a stray with a cause and is recorded at the Stray List. -/
def makeStray (t : Nat) (q : StrayRequest) (s : State) : Classified :=
  let r := recordStray q s
  { state := modBag t (fun b =>
      { b with cls := .stray q.cause, strayId := r.id, entryLink := none }) r.state
    note := { entry := none, stray := r.undo } }

/-- The bag waits for a reason (R97, R99, R103). -/
def makeWaiting (t : Nat) (reason : WaitReason) (s : State) : Classified :=
  { state := modBag t (fun b =>
      { b with cls := .waiting reason, strayId := none, entryLink := none }) s
    note := .blank }

/-- R100 steps 1 and 2: the entry is linked and becomes ON_LOOP, a stray entry of the tag recorded for
the slot becomes REINDUCTED, and the bag record carries both. -/
def routeBag (t : Nat) (sl : Slot) (e : BagEntry) (s : State) : Classified :=
  let r := reinductStray e.tag sl (linkEntry e.tag s)
  { state := modBag t (fun b =>
      { b with cls := .routed, entryLink := some e.tag, strayId := r.id }) r.state
    note :=
      { entry := some { tag := e.tag, status := e.status, strayLink := e.strayLink }
        stray := r.undo } }

/-- A stray with one tag. -/
def tagged (cause : StrayCause) (tag : Tag) (slot : Option Slot) (cabin : Option Nat) : StrayRequest :=
  { cause := cause, tag := some tag, tag2 := none, slot := slot, cabin := cabin }

/-- Steps 5 to 7 for a bag whose slot holds an entry for its tag (R98 to R100). -/
def classifyEntry (t : Nat) (tag : Tag) (sl : Slot) (e : BagEntry) (s : State) : Classified :=
  match e.status with
  | .onLoop _ | .sorted .. =>
    makeStray t (tagged .duplicateTag tag (some sl) none) (raise .duplicateTag (.slot sl) s)
  | .expected | .strayed | .untracked =>
    if (s.lookup sl e.cabin).isSome then routeBag t sl e s
    else if (s.slot sl).state = .loading then makeWaiting t .cabinUnmapped s
    else makeStray t (tagged .cabinUnmapped tag (some sl) (some e.cabin)) s

/-- Steps 3 to 7 for a bag of a slot in LOADING, FINAL or CLOSING (R96 to R100). -/
def classifyInSlot (t : Nat) (tag : Tag) (sl : Slot) (s : State) : Classified :=
  if (s.slot sl).state = .closing then
    makeStray t (tagged .shipClosed tag (some sl) ((s.entryIn sl tag).map (·.cabin))) s
  else
    match s.entryIn sl tag with
    | some e => classifyEntry t tag sl e s
    | none =>
      if (s.slot sl).state = .loading then makeWaiting t .unknownTag s
      else makeStray t (tagged .unknownTag tag (some sl) none) s

/-- Step 2: the decode and the state of the decoded slot (R95). A slot in LOADING, FINAL or CLOSING
is taken by the bag record, if it does not carry one. -/
def classifyTag (t : Nat) (tag : Tag) (s : State) : Classified :=
  match s.decodeSlot tag with
  | none => makeStray t (tagged .foreignTag tag none none) s
  | some sl =>
    match (s.slot sl).state with
    | .vacant => makeStray t (tagged .noShip tag (some sl) none) s
    | .closed =>
      makeStray t (tagged .shipClosed tag (some sl) ((s.entryIn sl tag).map (·.cabin))) s
    | .loading | .final | .closing =>
      classifyInSlot t tag sl (modBag t (fun b => { b with slot := b.slot.or (some sl) }) s)

/-- Step 1: the read kind (R94), then the later steps of Table 5-1. -/
def classify (t : Nat) (s : State) : Classified :=
  match (s.tray t).bag with
  | none => { state := s, note := .blank }
  | some b =>
    match b.tag with
    | none => makeStray t { cause := .noRead, tag := none, tag2 := none, slot := none, cabin := none } s
    | some tag =>
      if b.tag2.isSome ∧ b.tag2 ≠ some tag then
        makeStray t
          { cause := .multiRead, tag := some tag, tag2 := b.tag2, slot := none, cabin := none } s
      else classifyTag t tag (modBag t (fun b => { b with tag2 := none }) s)

/-! ### Undo notes (R108) -/

/-- A later classification adds its own changes, each with the value found at it. -/
def UndoNote.add (old new : UndoNote) : UndoNote :=
  { entry := new.entry.or old.entry, stray := new.stray.or old.stray }

/-- R108: writes what a classification changed into the tray's open launch window, at the induction
that launched the bag. -/
def writeNote (t : Nat) (note : UndoNote) (s : State) : State :=
  match (s.tray t).bag.bind (·.source) with
  | some i =>
    modInd i (fun r =>
      { r with windows := r.windows.map fun w =>
          if w.tray = t then { w with note := w.note.add note } else w }) s
  | none => s

/-! ### Waking (R60, R83, R104) -/

/-- R106: WAIT_EXPIRED for a tray that has just stopped waiting as an UNKNOWN_TAG or CABIN_UNMAPPED
stray, in its slot's scope. -/
def raiseExpired (t : Nat) (s : State) : State :=
  match (s.tray t).bag with
  | some b =>
    raiseIf (b.cls = .stray .unknownTag || b.cls = .stray .cabinUnmapped) .waitExpired (scopeOf b.slot) s
  | none => s

/-- R104: a wake reaches one tray. A tray no longer WAITING is ignored. -/
def wakeTray (t : Nat) (s : State) : State :=
  match s.tray t with
  | .loaded b =>
    if b.isWaiting then
      let r := classify t s
      passToSelection t (raiseExpired t (writeNote t r.note r.state))
    else s
  | .empty | .reserved _ | .selected .. | .armed .. | .fired .. | .unconfirmed .. | .suspect => s

/-- R60: wakes the WAITING trays of a slot that meet a test, one at a time, from the highest offset to
the lowest. The set is taken when the wake is asked for. -/
def wakeWhere (sl : Slot) (want : BagRecord → Bool) (s : State) : State :=
  (s.traysByOffset.filter fun t =>
      match (s.tray t).bag with
      | some b => b.isWaiting && b.slot = some sl && want b
      | none => false).foldl (fun s t => wakeTray t s) s

/-! ### At the check eye (R102, R105) -/

/-- The wait reason as a stray cause. -/
def WaitReason.cause : WaitReason → StrayCause
  | .unknownTag => .unknownTag
  | .cabinUnmapped => .cabinUnmapped

/-- The cabin of the entry a bag's slot holds for its tag. -/
def State.entryCabin (s : State) (b : BagRecord) : Option Nat :=
  match b.slot, b.tag with
  | some sl, some tag => (s.entryIn sl tag).map (·.cabin)
  | _, none => none
  | none, some _ => none

/-- A stray of a bag that has its slot, with its entry's cabin where the cause hands one on (Table
8-1: CABIN_UNMAPPED and RECIRC_LIMIT do, UNKNOWN_TAG does not). -/
def State.strayOfBag (s : State) (b : BagRecord) (cause : StrayCause) : StrayRequest :=
  { cause := cause, tag := b.tag, tag2 := none, slot := b.slot
    cabin := if cause = .unknownTag then none else s.entryCabin b }

/-- R105: a WAITING tray at the check eye, its passes just raised, is classified; a wait that goes on
beyond the match wait passes has expired. -/
def judgeWait (t : Nat) (s : State) : State :=
  let s1 := (classify t s).state
  match (s1.tray t).bag with
  | some b =>
    match b.cls with
    | .waiting reason =>
      if s1.loop.cfg.matchWait < b.passes then
        raise .waitExpired (scopeOf b.slot) (makeStray t (s1.strayOfBag b reason.cause) s1).state
      else s1
    | .routed => s1
    | .stray _ => raiseExpired t s1
  | none => s1

/-- R102: a bag beyond the recirculation limit that is no stray becomes a RECIRC_LIMIT stray; a routed
bag's entry becomes STRAYED. -/
def judgeLimit (t : Nat) (s : State) : State :=
  match (s.tray t).bag with
  | some b =>
    if s.loop.cfg.limit < b.passes ∧ b.isStray = false then
      let s1 := (makeStray t (s.strayOfBag b .recircLimit) s).state
      match b.entryLink with
      | some tag => strayBagEntry tag ((s1.tray t).bag.bind (·.strayId)) s1
      | none => s1
    else s
  | none => s

end Sys2Proof.Machine
end

