-- ==== Sys2Proof/Machine/Divert.lean ====
section
/-! DEFINITION. Divert timing (chapter 7) and the chute eyes (R128): arm events, fires, tilt pulses,
confirm windows, detections, jams; the commands FIRE, TILT_PULSE_END, CONFIRM_WINDOW_END,
CHUTE_EYE_DETECTION, CHUTE_JAM, CHUTE_EYE_CLEAR and HALL_CLOCK_SECOND. -/

namespace Sys2Proof.Machine

/-- What every meaning answers: a step of this block never faults. -/
abbrev Out := Host.Outcome State Fault Refusal

/-! ### Arm events (R141 to R144) -/

/-- R143: behind every record with an earlier or equal due tick, ahead of every later one. -/
def insertFire (r : FireRecord) : List FireRecord → List FireRecord
  | [] => [r]
  | x :: q => if r.due < x.due then r :: x :: q else x :: insertFire r q

/-- R141: the arm event of a tray that is SELECTED at its arm position. With 32 records in the queue
the arm is dropped (R144). A delay below 0 makes the record due at once, with LATE_FIRE (R142). -/
def armTray (t : Nat) (s : State) : State :=
  match s.tray t with
  | .selected b c a d =>
    if a = s.offsetOf t then
      if 32 ≤ s.fireQueue.length then
        raise .armDropped (s.chute c).scope
          (putTray t (.loaded b) (returnCommitted c (unitsOf b.size) s))
      else
        let travel := d * s.period
        let lead := s.lead c b.size
        raiseIf (travel < lead) .lateFire (s.chute c).scope
          (putTray t (.armed b c)
            { s with fireQueue :=
                insertFire { tray := t, chute := c, due := s.clock.tick + (travel - lead) } s.fireQueue })
    else s
  | .empty | .reserved _ | .loaded _ | .armed .. | .fired .. | .unconfirmed .. | .suspect => s

/-! ### Confirm windows (R147, R150) -/

/-- R150, R13: the close of a window asks its tray to become UNCONFIRMED; taken when the tray is FIRED
at the chute with this window, which is so when no later window names the tray (log 17). -/
def closeUnconfirmed (c : ChuteId) (w : ConfirmWindow) (later : List ConfirmWindow) (s : State) : State :=
  match s.tray w.tray with
  | .fired b c' g =>
    if c' = c ∧ (later.all fun v => v.tray != w.tray) then putTray w.tray (.unconfirmed b c g) s else s
  | .empty | .reserved _ | .loaded _ | .selected .. | .armed .. | .unconfirmed .. | .suspect => s

/-- A chute's confirm list rewritten. -/
def setWindows (c : ChuteId) (ws : List ConfirmWindow) (s : State) : State :=
  putChute c { s.chute c with windows := ws } s

/-- R147: a window is appended; on a list of 4 the oldest first closes unconfirmed. -/
def openWindow (c : ChuteId) (t : Nat) (s : State) : State :=
  let w : ConfirmWindow := { tray := t, endTick := s.clock.tick + (s.chute c).cfg.window }
  match (s.chute c).windows with
  | o :: r =>
    if 4 ≤ (o :: r).length then closeUnconfirmed c o (r ++ [w]) (setWindows c (r ++ [w]) s)
    else setWindows c (o :: r ++ [w]) s
  | [] => setWindows c [w] s

/-- R150: the first window of a list whose end tick is reached, with those before and after it. -/
def endedWindow (tick : Nat) (ws : List ConfirmWindow) :
    Option (List ConfirmWindow × ConfirmWindow × List ConfirmWindow) :=
  match ws.dropWhile fun w => tick < w.endTick with
  | w :: post => some (ws.takeWhile (fun w => tick < w.endTick), w, post)
  | [] => none

/-! ### Fires (R145, R146) -/

/-- R146: a record that has left the queue at its due tick. The fire is taken when the tray is ARMED
with it: the pulse is driven, the units move from committed to fill, the tray becomes FIRED with the
chute's present generation, and a confirm window opens. -/
def fireRecord (r : FireRecord) (s : State) : State :=
  match s.tray r.tray with
  | .armed b c =>
    if c = r.chute then
      let u := unitsOf b.size
      let s1 := putChute c
        { s.chute c with pulseEnd := some (s.clock.tick + (s.chute c).cfg.pulse) } s
      let s2 := judgeFill c
        (modChute c (fun x => { x with fill := x.fill + u, committed := x.committed - u }) s1)
      openWindow c r.tray (putTray r.tray (.fired b c (s2.chute c).gen) s2)
    else s
  | .empty | .reserved _ | .loaded _ | .selected .. | .fired .. | .unconfirmed .. | .suspect => s

/-- R143, R146: the record at the head of the queue, once the tick base has reached its due tick. -/
def fireHead (s : State) : State :=
  match s.fireQueue with
  | r :: q => if r.due ≤ s.clock.tick then fireRecord r { s with fireQueue := q } else s
  | [] => s

/-- FIRE (R146). With no record due the event does not happen (log 6). -/
def execFire (s : State) : Out := .next (fireHead s)

/-- TILT_PULSE_END (R145): the output of a pulse whose end tick is reached is released. -/
def execTiltPulseEnd (c : ChuteId) (s : State) : Out :=
  .next (match (s.chute c).pulseEnd with
    | some e => if e ≤ s.clock.tick then putChute c { s.chute c with pulseEnd := none } s else s
    | none => s)

/-- CONFIRM_WINDOW_END (R150): the oldest window of the chute whose end tick is reached leaves the
list, and its tray becomes UNCONFIRMED. -/
def execConfirmWindowEnd (c : ChuteId) (s : State) : Out :=
  .next (match endedWindow s.clock.tick (s.chute c).windows with
    | some (pre, w, post) => closeUnconfirmed c w post (setWindows c (pre ++ post) s)
    | none => s)

/-! ### Chute eyes (R128, R148, R149) -/

/-- R148: a confirmation asks the window's tray to become EMPTY; taken when the tray is FIRED at the
chute with this window, and then its entry or stray entry is told of the sort. -/
def confirmTray (c : ChuteId) (w : ConfirmWindow) (later : List ConfirmWindow) (s : State) : State :=
  match s.tray w.tray with
  | .fired b c' _ =>
    if c' = c ∧ (later.all fun v => v.tray != w.tray) then
      sortBag b c false (emptyTray w.tray s)
    else s
  | .empty | .reserved _ | .loaded _ | .selected .. | .armed .. | .unconfirmed .. | .suspect => s

/-- R148, R149: a detection confirms the oldest open window; the window leaves the list and the
tilt-failure count becomes 0 whether or not the tray takes the confirmation. -/
def confirmOldest (c : ChuteId) (s : State) : State :=
  match (s.chute c).windows with
  | w :: r => confirmTray c w r (putChute c { s.chute c with windows := r, failures := 0 } s)
  | [] => s

/-- R128: the eye is occluded, and the occlusion timer starts on a chute with an offset. -/
def startOcclusion (c : ChuteId) (s : State) : State :=
  putChute c { s.chute c with
    eye := true
    occludedFrom := if (s.chute c).cfg.offset = 0 then none else some s.clock.tick } s

/-- CHUTE_EYE_DETECTION (R148): the start of an occlusion. An eye already occluded gives no edge
(log 6). -/
def execChuteEyeDetection (c : ChuteId) (s : State) : Out :=
  .next (if (s.chute c).eye then s else settleHolds s (confirmOldest c (startOcclusion c s)))

/-- R128: the occlusion being timed has lasted the jam time. -/
def Chute.jamDue (x : Chute) (tick : Nat) : Bool :=
  match x.occludedFrom with
  | some t0 => !x.jam && t0 + x.cfg.jamTime ≤ tick
  | none => false

/-- R128: the jam flag is set and CHUTE_BLOCKED is raised. -/
def setJam (c : ChuteId) (s : State) : State :=
  raise .chuteBlocked (s.chute c).scope (modChute c (fun x => { x with jam := true }) s)

/-- CHUTE_JAM (R128). -/
def execChuteJam (c : ChuteId) (s : State) : Out :=
  .next (if (s.chute c).jamDue s.clock.tick then setJam c s else s)

/-- R128: the eye clears; the jam flag is cleared and the timer stops; then the blocked-group list, the
STRAY_CHUTES_FULL flag and a STANDBY_IDLE standby are judged. DESIGN CHOICE (log 39): they are judged also
where no jam flag was set. -/
def clearEye (c : ChuteId) (s : State) : State :=
  judgeStandby c (judgeStrayArmed (judgeBlocked
    (modChute c (fun x => { x with eye := false, jam := false, occludedFrom := none }) s)))

/-- CHUTE_EYE_CLEAR (R128). An eye already clear gives no edge (log 6). -/
def execChuteEyeClear (c : ChuteId) (s : State) : Out :=
  .next (if (s.chute c).eye then clearEye c s else s)

/-- HALL_CLOCK_SECOND (R137): 10000 ticks after it last counted, the hall clock counts one second and
wraps from 4294967295 to 0. -/
def execHallClockSecond (s : State) : Out :=
  .next (if s.clock.secondAt + 10000 ≤ s.clock.tick then
      { s with clock :=
          { s.clock with secondAt := s.clock.secondAt + 10000, seconds := s.clock.seconds + 1 } }
    else s)

end Sys2Proof.Machine
end

