-- ==== Sys2Proof/Machine/Inductions.lean ====
section
/-! DEFINITION. Induction stations (chapter 2): the line receiver, read queues, holds, claims, launch
windows, reservations; the induction line commands and CONFIGURE INDUCTION and INDUCTION RESUME. -/

namespace Sys2Proof.Machine

/-! ### Launch windows (R17, R41) -/

/-- Launch done (R13): launch confirmed is set on a tray that has a bag record. -/
def confirmLaunch (t : Nat) (s : State) : State :=
  modBag t (fun b => { b with launchConfirmed := true }) s

/-- R41: the windows of an induction whose pitch events left have reached 0 close, and their launches
are taken as done. -/
def expireWindows (i : IndId) (s : State) : State :=
  modInd i (fun r => { r with windows := r.windows.filter fun w => w.left != 0 })
    (((s.ind i).windows.filter fun w => w.left = 0).foldl (fun s w => confirmLaunch w.tray s) s)

/-- R41: a later pitch event reduces pitch events left by 1. -/
def countWindows (i : IndId) (s : State) : State :=
  modInd i (fun r => { r with windows := r.windows.map fun w => { w with left := w.left - 1 } }) s

/-- R17: the check eye closes the tray's launch windows that are still open, as done. -/
def closeLaunch (t : Nat) (s : State) : State :=
  if allInds.any fun i => (s.ind i).windows.any fun w => w.tray = t then
    confirmLaunch t (allInds.foldl (fun s i =>
      modInd i (fun r => { r with windows := r.windows.filter fun w => w.tray != t }) s) s)
  else s

/-- R41: every open launch window closes without effect. -/
def dropWindows (s : State) : State :=
  allInds.foldl (fun s i => modInd i (fun r => { r with windows := [] }) s) s

/-- LAUNCH_WINDOW_EXPIRY (R41). A pitch event that brings a window to 0 closes it in its own step
(log 5). -/
def execLaunchWindowExpiry (i : IndId) (s : State) : Out := .next (expireWindows i s)

/-! ### Reservations (R45 to R48) -/

/-- R45: a head wait count at the W in use or above with reservation NONE makes it REQUESTED. -/
def requestReservation (i : IndId) (s : State) : State :=
  if (s.ind i).wInUse ≤ (s.ind i).waitCount ∧ (s.ind i).reservation = .none then
    modInd i (fun r => { r with reservation := .requested }) s
  else s

/-- RESERVATION_REQUEST (R45). A pitch event that brings the count to W makes the request in its own
step (log 5). -/
def execReservationRequest (i : IndId) (s : State) : Out := .next (requestReservation i s)

/-- R46: I3 first, else the requesting induction with the lowest offset. DESIGN CHOICE (log 32): among
requesting inductions of one offset, which R27 leaves possible at offset 0 only, the lowest number. -/
def State.grantee (s : State) : Option IndId :=
  if (s.ind .i3).reservation = .requested then some .i3
  else
    ([IndId.i0, .i1, .i2].filter fun i => (s.ind i).reservation = .requested).foldl
      (fun best i =>
        match best with
        | some k => if (s.ind i).offset < (s.ind k).offset then some i else some k
        | none => some i) none

/-- R46: the EMPTY tray at offset 0 becomes RESERVED for the induction chosen. -/
def grantReservation (s : State) : State :=
  if s.tray s.loop.pos = .empty then
    match s.grantee with
    | some i =>
      modInd i (fun r => { r with reservation := .granted s.loop.pos })
        (putTray s.loop.pos (.reserved i) s)
    | none => s
  else s

/-- R18, R48: a reservation whose tray is lost to it returns to REQUESTED. -/
def loseReservation (i : IndId) (t : Nat) (s : State) : State :=
  if (s.ind i).reservation = .granted t then
    modInd i (fun r => { r with reservation := .requested }) s
  else s

/-- A RESERVED tray given up by its induction becomes EMPTY (R28, R47). -/
def freeReserved (i : IndId) (t : Nat) (s : State) : State :=
  if s.tray t = .reserved i then putTray t .empty s else s

/-! ### Claims (R40, R45, R47) -/

/-- The tag of a reading, and its second tag. -/
def Reading.tags : Reading → Option Tag × Option Tag
  | .bag t => (some t, none)
  | .multi t u => (some t, some u)
  | .noread => (none, none)

/-- The bag record of a claim (R14). Its class is written by the classification that follows in the
same claim; until then it reads as a NO_READ stray. -/
def newBag (i : IndId) (r : ReadRecord) : BagRecord :=
  { source := some i, launchConfirmed := false, size := r.size, tag := r.reading.tags.1
    tag2 := r.reading.tags.2, slot := none, entryLink := none, cls := .stray .noRead
    strayId := none, passes := 0 }

/-- R40 step 6: a REQUESTED reservation is withdrawn, a GRANTED one ends when its tray is the one
claimed. -/
def Reservation.afterClaim (t : Nat) : Reservation → Reservation
  | .none => .none
  | .requested => .none
  | .granted u => if u = t then .none else .granted u

/-- R40: the claim of a tray with the head record of the queue. -/
def claimTray (i : IndId) (t : Nat) (s : State) : State :=
  match (s.ind i).queue with
  | r :: q =>
    let s1 := modInd i (fun x => { x with queue := q, waitCount := 0 }.judgeQueue) s
    let c := classify t (loadTray t (newBag i r) s1)
    modInd i (fun x =>
      { x.send (.launch t) with
        windows := x.windows ++ [{ tray := t, left := 2, record := r, note := c.note }]
        reservation := x.reservation.afterClaim t })
      (passToSelection t c.state)
  | [] => s

/-- A tray an induction may claim: EMPTY, or RESERVED for it (R40). -/
def claimable (i : IndId) : Tray → Bool
  | .empty => true
  | .reserved k => k = i
  | .loaded _ | .selected .. | .armed .. | .fired .. | .unconfirmed .. | .suspect => false

/-- R47: a GRANTED tray at the offset of an induction that is barred or has no head record becomes
EMPTY, the reservation NONE, and the head wait count restarts from 0. -/
def releaseGranted (i : IndId) (t : Nat) (s : State) : State :=
  if (s.ind i).reservation = .granted t then
    modInd i (fun r => { r with reservation := .none, waitCount := 0 }) (freeReserved i t s)
  else s

/-- R45: the head wait count after a claim check that claimed no tray. Where it advances, W comes into
use (R28). -/
def countWait (barred : Bool) (r : Induction) : Induction :=
  if r.queue.isEmpty then { r with waitCount := 0 }
  else if barred then r
  else { r with waitCount := min 64 (r.waitCount + 1), wInUse := r.w }

/-- The claim check of one induction at a pitch event (R40, R47), then its head wait count and
reservation request (R45). Cause 2 is judged from the loop hold given, the one the pitch event began
with (R37). An induction with offset 0 is not placed on the loop and meets no tray. -/
def claimCheck (hold : Bool) (i : IndId) (s : State) : State :=
  let r := s.ind i
  let t := s.trayAt r.offset
  let barred := s.barredWith hold i
  if r.offset ≠ 0 ∧ barred = false ∧ r.queue ≠ [] ∧ claimable i (s.tray t) then
    requestReservation i (claimTray i t s)
  else
    let s1 := if r.offset ≠ 0 ∧ (barred ∨ r.queue = []) then releaseGranted i t s else s
    requestReservation i (modInd i (countWait barred) s1)

/-! ### Read frames (R33 to R39) -/

/-- A frame of a kind with its data characters is what a receiver has open: IN FRAME of the kind, with
stored characters that the frame begins with (R30, log 8). -/
def State.framing (s : State) (i : IndId) (k : FrameKind) (data : List Byte) : Bool :=
  match (s.ind i).receiver with
  | .inFrame open_ stored => open_ = k && stored.isPrefixOf data
  | .idle | .skipping => false

/-- R30, R33: a whole frame completes only at the receiver of an enabled induction that has it open; the
receiver returns to IDLE and the frame is taken. -/
def completeFrame (i : IndId) (k : FrameKind) (data : List Byte) (take : State → State) (s : State) :
    State :=
  if s.framing i k data ∧ (s.ind i).enabled then
    take (modInd i (fun r => { r with receiver := .idle }) s)
  else s

/-- R35: INDUCTION_OVERRUN is raised and the induction enters RESYNC with its queue emptied. -/
def overrun (i : IndId) (s : State) : State :=
  raise .inductionOverrun .hall (modInd i (fun r => { r.emptyQueue with resync := true }) s)

/-- R34, R36: a read record appended at the tail; as head of an empty queue it starts the head wait
count from 0. -/
def Induction.append (rec : ReadRecord) (r : Induction) : Induction :=
  { r with
    queue := r.queue ++ [rec]
    waitCount := if r.queue.isEmpty then 0 else r.waitCount }.judgeQueue

/-- R33 to R35: what a read frame does to the read queue. -/
def queueRead (i : IndId) (rec : ReadRecord) (s : State) : State :=
  if (s.ind i).resync then s
  else if (s.ind i).queue.length ≤ 3 then modInd i (·.append rec) s
  else overrun i s

/-- R39: the re-send count of a held induction at N or above has HOLD join the list again. -/
def resendHold (i : IndId) (s : State) : State :=
  if s.held i ∧ (s.ind i).n ≤ (s.ind i).resendCount then
    modInd i (fun r => { r.send .hold with resendCount := 0 }) s
  else s

/-- R33, R39: a read frame is taken, and it is counted when the induction was held as it came (log
12). -/
def takeRead (i : IndId) (rec : ReadRecord) (s : State) : State :=
  let s1 := settleHolds s (queueRead i rec s)
  if s.held i then resendHold i (modInd i (fun r => { r with resendCount := r.resendCount + 1 }) s1)
  else s1

/-- BAG_FRAME (R34). -/
def execBagFrame (i : IndId) (tag : Tag) (size : SizeClass) (s : State) : Out :=
  .next (completeFrame i .bag (digitChars tag ++ [sizeChar size])
    (takeRead i { reading := .bag tag, size := size }) s)

/-- MULTI_FRAME (R34). A MULTI record keeps both tags as read, even when they are equal. -/
def execMultiFrame (i : IndId) (tag tag2 : Tag) (size : SizeClass) (s : State) : Out :=
  .next (completeFrame i .multi (digitChars tag ++ digitChars tag2 ++ [sizeChar size])
    (takeRead i { reading := .multi tag tag2, size := size }) s)

/-- NOREAD_FRAME (R34). -/
def execNoreadFrame (i : IndId) (size : SizeClass) (s : State) : Out :=
  .next (completeFrame i .noread [sizeChar size] (takeRead i { reading := .noread, size := size }) s)

/-- HOLD_RESEND (R39). A read frame that brings the count to N sends HOLD in its own step (log 5). -/
def execHoldResend (i : IndId) (s : State) : Out := .next (resendHold i s)

/-! ### Launch answers (R42 to R44, R167) -/

/-- R43: the tray takes the failure in LOADED to UNCONFIRMED, and becomes EMPTY with its fire record,
units and confirm window taken back; in other states it does not (none). -/
def takeFailure (t : Nat) (s : State) : Option State :=
  match s.tray t with
  | .loaded _ => some (emptyTray t s)
  | .selected b c _ _ => some (emptyTray t (returnCommitted c (unitsOf b.size) s))
  | .armed b c => some (emptyTray t (returnCommitted c (unitsOf b.size) (removeFire t s)))
  | .fired b c g => some (emptyTray t (removeWindow c t (returnFill c g (unitsOf b.size) s)))
  | .unconfirmed b c g => some (emptyTray t (returnFill c g (unitsOf b.size) s))
  | .empty | .reserved _ | .suspect => none

/-- R43 step 1: the classification is undone as the note records. The entry that it made ON_LOOP is the one
that the tray's bag record still links: a bag that was withdrawn since links none (R65), and an entry of
its tag that was added again belongs to another tray (R58). -/
def undoNote (linked : Option Tag) (n : UndoNote) (s : State) : State :=
  let s1 := match n.entry with
    | some u => if linked = some u.tag then restoreEntry u s else s
    | none => s
  match n.stray with
  | some u => undoStray u s1
  | none => s1

/-- R43 step 2: the read record goes back to the head of the queue; in RESYNC or disabled it is
discarded, and on a queue of 4 it is an overrun. -/
def returnRead (i : IndId) (rec : ReadRecord) (s : State) : State :=
  let r := s.ind i
  if r.resync ∨ r.enabled = false then s
  else if 4 ≤ r.queue.length then overrun i s
  else modInd i (fun r => { r with queue := rec :: r.queue, waitCount := 0 }.judgeQueue) s

/-- R43: a failed launch whose window has just closed. -/
def failLaunch (i : IndId) (w : LaunchWindow) (s : State) : State :=
  match takeFailure w.tray s with
  | some s1 =>
    returnRead i w.record (undoNote ((s.tray w.tray).bag.bind (·.entryLink)) w.note s1)
  | none => s

/-- R42 to R44: DONE or FAIL naming a tray. With an open window of the induction for it, the window
closes and the answer is taken; without one the answer is late or stray and raises LINE_ERROR. -/
def takeAnswer (i : IndId) (kind : AnswerKind) (t : Nat) (s : State) : State :=
  match (s.ind i).windows.find? fun w => w.tray = t with
  | some w =>
    let s1 := modInd i (fun r => { r with windows := r.windows.eraseP fun w => w.tray = t }) s
    match kind with
    | .done => confirmLaunch t s1
    | .fail => settleHolds s (failLaunch i w s1)
  | none => raise .lineError .hall s

/-- The frame kind of a launch answer. -/
def answerFrame : AnswerKind → FrameKind
  | .done => .done
  | .fail => .fail

/-- DONE_FRAME (R42). -/
def execDoneFrame (i : IndId) (tray : BitVec 16) (s : State) : Out :=
  .next (completeFrame i .done (trayChars tray) (takeAnswer i .done tray.toNat) s)

/-- FAIL_FRAME (R43). -/
def execFailFrame (i : IndId) (tray : BitVec 16) (s : State) : Out :=
  .next (completeFrame i .fail (trayChars tray) (takeAnswer i .fail tray.toNat) s)

/-- LATE_ANSWER (R44): an answer naming a tray with no open window is ignored and raises LINE_ERROR.
When a window is open the answer is no late one, and is taken as R42 and R43 give. -/
def execLateAnswer (i : IndId) (kind : AnswerKind) (tray : BitVec 16) (s : State) : Out :=
  .next (completeFrame i (answerFrame kind) (trayChars tray) (takeAnswer i kind tray.toNat) s)

/-! ### The line receiver and the transmit list (R30 to R32) -/

/-- The receiver of an induction set. -/
def setReceiver (i : IndId) (r : Receiver) (s : State) : State :=
  modInd i (fun x => { x with receiver := r }) s

/-- R30: a marked character of known kind opens a frame; an open frame is dropped first with
LINE_ERROR. -/
def receiveMark (i : IndId) (k : FrameKind) (s : State) : State :=
  match (s.ind i).receiver with
  | .idle | .skipping => setReceiver i (.inFrame k []) s
  | .inFrame _ _ => raise .lineError .hall (setReceiver i (.inFrame k []) s)

/-- R30: what a faulty character does in each receiver state. -/
def receiveFault (i : IndId) (bad : CharFault) (s : State) : State :=
  match bad with
  | .interrupt k => receiveMark i k s
  | .unknownKind _ =>
    match (s.ind i).receiver with
    | .idle | .inFrame _ _ => raise .lineError .hall (setReceiver i .skipping s)
    | .skipping => s
  | .badStop =>
    match (s.ind i).receiver with
    | .inFrame _ _ => raise .lineError .hall (setReceiver i .skipping s)
    | .idle | .skipping => s

/-- The receiver of a disabled induction discards every character and stays as it is (R30). -/
def whenEnabled (i : IndId) (f : State → State) (s : State) : State :=
  if (s.ind i).enabled then f s else s

/-- INDUCTION_CHARACTER_FAULT (R30). -/
def execInductionCharacterFault (i : IndId) (bad : CharFault) (s : State) : Out :=
  .next (whenEnabled i (receiveFault i bad) s)

/-- INDUCTION_FRAME_OPENED (R30). -/
def execInductionFrameOpened (i : IndId) (kind : FrameKind) (s : State) : Out :=
  .next (whenEnabled i (receiveMark i kind) s)

/-- Whether a frame with some data characters stored has one of a field still to come (Table 2-2). -/
def fieldAhead (k : FrameKind) (stored : Nat) (field : DataField) : Bool :=
  (List.range k.dataLength).any fun n => stored ≤ n && k.fieldAt n = some field

/-- R31: a bad data character of an open frame drops it, with LINE_ERROR and SKIPPING. The good characters
that come before it in the frame come within the same row (log 8). -/
def receiveBadData (i : IndId) (field : DataField) (value : Byte) (s : State) : State :=
  match (s.ind i).receiver with
  | .inFrame k stored =>
    if fieldAhead k stored.length field ∧ badValue field value then
      raise .lineError .hall (setReceiver i .skipping s)
    else s
  | .idle | .skipping => s

/-- BAD_DATA_CHARACTER (R31). -/
def execBadDataCharacter (i : IndId) (field : DataField) (value : Byte) (s : State) : Out :=
  .next (whenEnabled i (receiveBadData i field value) s)

/-- R33, R34: a complete read frame is taken, its size class character good as it was stored (R31). -/
def takeSized (i : IndId) (reading : Reading) (size : Byte) (s : State) : State :=
  match sizeOfChar size with
  | some c => takeRead i { reading := reading, size := c } s
  | none => s

/-- R33: a complete frame is taken by its kind and its data characters (Table 11-9). -/
def takeFrame (i : IndId) (k : FrameKind) (data : List Byte) (s : State) : State :=
  match k with
  | .bag => takeSized i (.bag (tagOfChars (data.take 10))) (data.getD 10 0) s
  | .multi =>
    takeSized i (.multi (tagOfChars (data.take 10)) (tagOfChars ((data.drop 10).take 10)))
      (data.getD 20 0) s
  | .noread => takeSized i .noread (data.getD 0 0) s
  | .done => takeAnswer i .done (data.getD 0 0 ++ data.getD 1 0).toNat s
  | .fail => takeAnswer i .fail (data.getD 0 0 ++ data.getD 1 0).toNat s

/-- R30, R31: a data character is checked as it is stored in an open frame, which completes when its last
one is stored; in IDLE and SKIPPING it is ignored. -/
def receiveData (i : IndId) (v : Byte) (s : State) : State :=
  match (s.ind i).receiver with
  | .inFrame k stored =>
    if k.badAt stored.length v then raise .lineError .hall (setReceiver i .skipping s)
    else if k.dataLength ≤ stored.length + 1 then takeFrame i k (stored ++ [v]) (setReceiver i .idle s)
    else setReceiver i (.inFrame k (stored ++ [v])) s
  | .idle | .skipping => s

/-- R30: one character taken by the receiver of an induction. -/
def receiveChar (i : IndId) (c : LineChar) (s : State) : State :=
  whenEnabled i (fun s =>
    if c.stopBit = false then receiveFault i .badStop s
    else if c.marked then
      match frameKindOf c.value with
      | some k => receiveMark i k s
      | none => receiveFault i (.unknownKind c.value) s
    else receiveData i c.value s) s

/-- The next character that waits at an induction's line, if any, is taken by its receiver. -/
def nextChar (s : State) (i : IndId) : State :=
  match s.arriving.get i with
  | c :: r => receiveChar i c { s with arriving := s.arriving.set i r }
  | [] => s

/-- INDUCTION_SILENCE_TIMEOUT (R31): the open frame is dropped with LINE_ERROR; IDLE. -/
def execInductionSilenceTimeout (i : IndId) (s : State) : Out :=
  .next (match (s.ind i).receiver with
    | .inFrame _ _ => raise .lineError .hall (setReceiver i .idle s)
    | .idle | .skipping => s)

/-- TRANSMIT_FRAME_SENT (R32): the next frame of the list, if any, begins. -/
def execTransmitFrameSent (i : IndId) (s : State) : Out :=
  .next (match (s.ind i).sending with
    | some _ => modInd i (fun r => { r with sending := r.waiting.head?, waiting := r.waiting.tail }) s
    | none => s)

/-! ### CONFIGURE INDUCTION and INDUCTION RESUME (R27 to R29) -/

/-- R28: a new offset ends a GRANTED reservation. -/
def endGranted (i : IndId) (s : State) : State :=
  match (s.ind i).reservation with
  | .granted t =>
    modInd i (fun r => { r with reservation := .none, waitCount := 0 }) (freeReserved i t s)
  | .none | .requested => s

/-- R28: the effects of an accepted CONFIGURE INDUCTION. A new W is stored and is not in use yet. -/
def applyInduction (i : IndId) (offset n w : Nat) (enabled : Bool) (s : State) : State :=
  let r := s.ind i
  let s1 := if offset ≠ r.offset then endGranted i s else s
  let s2 := modInd i (fun x =>
    { x with
      offset := offset, n := n, w := w, enabled := enabled
      resendCount := if n ≠ r.n then 0 else x.resendCount }) s1
  let s3 := if r.enabled ∧ enabled = false then
      modInd i (fun x => { x.emptyQueue with receiver := .idle }) s2
    else s2
  settleHolds s s3

/-- R27, R28.
DESIGN CHOICE (log 40): R27's ordered checks do not list the enabled byte, which R195 refuses with
BAD_VALUE when it is neither yes nor no; it is checked first, before OVERLAP and STATE. -/
def configureInduction (p : Payload) (s : State) : Answer :=
  let offset := u16 p 1
  let n := u8 p 3
  let w := u8 p 4
  match indOf (u8 p 0), yesNoOf (u8 p 5) with
  | some i, some enabled =>
    if ¬ (n = 1 ∨ n = 4 ∨ n = 8 ∨ n = 16) ∨ w < 1 ∨ 64 < w ∨ s.T ≤ offset then .error .badValue
    else if enabled ∧ offset = 0 then .error .badValue
    else if offset ≠ 0 ∧ (allInds.any fun k => k != i && (s.ind k).offset = offset) then .error .overlap
    else if offset ≠ (s.ind i).offset ∧ (s.ind i).enabled then .error .state
    else .ok (applyInduction i offset n w enabled s, .ok)
  | _, none => .error .badValue
  | none, some _ => .error .badValue

/-- R29. -/
def inductionResume (p : Payload) (s : State) : Answer :=
  match indOf (u8 p 0) with
  | some i =>
    if (s.ind i).resync then
      .ok (settleHolds s (modInd i (fun r => { r with resync := false }) s), .ok)
    else .error .state
  | none => .error .badValue

end Sys2Proof.Machine
end

