-- ==== Sys2Proof/Machine/Links.lean ====
section
/-! DEFINITION. The link ports (chapter 10): the transaction, the Link Controller's checks, the
response, the pin events, BAD COMMAND and the reset cause requests. -/

namespace Sys2Proof.Machine

/-! ### Byte times (R194) -/

/-- The byte that the levels of LKn_DI at eight rising edges give, most significant bit first (R194). -/
def byteOfLevels (v : ByteTime) : Byte :=
  BitVec.ofNat 8 (v.toList.foldl (fun n level => 2 * n + level.toNat) 0)

/-- The eight levels of LKn_DO for a byte, most significant bit first (R194). -/
def levelsOfByte (b : Byte) : ByteTime := Vector.ofFn fun k => b.getLsbD (7 - k.val)

/-! ### The transaction (R186, R187) -/

def State.port (s : State) (l : LinkId) : Port := s.ports.get l

def setPort (l : LinkId) (x : Port) (s : State) : State := { s with ports := s.ports.set l x }

/-- The frame bytes of a request (R186). -/
def frameBytes (code : Byte) (p : Payload) : List Byte := code :: BitVec.ofNat 8 p.length :: p

/-- A request is complete when its length byte has come in, and as many payload bytes as it gives
(R186). -/
def wholeRequest : List Byte → Bool
  | _ :: len :: p => p.length = len.toNat
  | _ => false

/-- A byte stored in RECEIVING; the byte that completes the request puts the port in TAKING (R186). -/
def Port.store (b : Byte) (x : Port) : Port :=
  { x with
    request := x.request ++ [b]
    state := if wholeRequest (x.request ++ [b]) then .taking false else .receiving }

/-- The state of a port whose next response byte has gone out: ENDED after the last (R186). -/
def afterByte (rest : List Byte) : PortState :=
  if rest.tail = [] then .ended else .answering rest.tail

/-- One byte time of a port: a byte in and a byte out (R186, R187). Only RECEIVING takes the byte in. -/
def Port.clockIn (b : Byte) (x : Port) : Port :=
  match x.state with
  | .receiving => x.store b
  | .answering rest => { x with state := afterByte rest }
  | .idle | .taking _ | .ended => x

/-- The request frame that comes whole at a port with RESET_N high: in TAKING the one that its byte times
have brought in, in RECEIVING one whose bytes begin with those that have come in (R186, R193, log 7). -/
def State.completes (s : State) (l : LinkId) (frame : List Byte) : Bool :=
  !s.resetLow &&
    (match (s.port l).state with
      | .receiving => (s.port l).request.isPrefixOf frame
      | .taking _ => (s.port l).request = frame
      | .idle | .answering _ | .ended => false)

/-- The response begins to go out: TAKING to ANSWERING (R186). -/
def answering (l : LinkId) (frame response : List Byte) (s : State) : State :=
  setPort l { s.port l with state := .answering response, request := frame } s

/-- R187: a port whose select was released in TAKING, once the request has been taken: IDLE, or
RECEIVING a new request when select is asserted again. -/
def Port.reopened (x : Port) : Port :=
  { state := if x.selected then .receiving else .idle, selected := x.selected, request := [] }

/-- R186, R187: the response of a request taken at a port goes out, or is discarded when select was
released in TAKING. -/
def deliver (x : Port) (l : LinkId) (frame response : List Byte) (s : State) : State :=
  if x.state = .taking true then setPort l x.reopened s else answering l frame response s

/-! ### The checks before the owning block's (R188, R76) -/

/-- A vessel link whose slot is VACANT. -/
def State.unberthed (s : State) (l : LinkId) : Bool :=
  match linkSlot l with
  | some sl => (s.slots.get sl).state = .vacant
  | none => false

/-- R188 checks 2 and 3, then R76's: the refusal of a request before its owning block's rule. -/
def State.linkRefusal (s : State) (k : Command) (l : LinkId) (p : Payload) : Option Reason :=
  if p.length ≠ Command.length k l then some .badLength
  else if permitted k l = false then some .notPermitted
  else if s.unberthed l ∧ takenVacant k = false then some .notBerthed
  else none

/-- R188: what a request is answered, by the link's checks and the owning block's rule. -/
def State.answerTo (s : State) (k : Command) (l : LinkId) (p : Payload) (own : State → Answer) : Answer :=
  match s.linkRefusal k l p with
  | some r => .error r
  | none => own s

/-- A complete request taken (R186, R188, R189): a refusal changes nothing but the port. At a port that
can complete no such request the row stands for nothing (log 6). -/
def takeRequest (k : Command) (l : LinkId) (p : Payload) (own : State → Answer) (s : State) : State :=
  let frame := frameBytes k.code p
  if s.completes l frame then
    match s.answerTo k l p own with
    | .error r => deliver (s.port l) l frame (responseBytes (.error r)) s
    | .ok (t, reply) => deliver (s.port l) l frame (responseBytes (.ok reply)) t
  else s

/-- A request of a vessel link's own slot. The shore link has none, and its role may not send such a
command (R190). -/
def onOwnSlot (l : LinkId) (f : Slot → State → Answer) (s : State) : Answer :=
  match linkSlot l with
  | some sl => f sl s
  | none => .error .notPermitted

/-- BAD_COMMAND (R188). A known code is no such request (log 6). -/
def execBadCommand (l : LinkId) (code : Byte) (p : Payload) (s : State) : Out :=
  .next (if s.completes l (frameBytes code p) ∧ unknownCode code then
      deliver (s.port l) l (frameBytes code p) (responseBytes (.error .badCommand)) s
    else s)

/-! ### Pin events (R186, R187, R193) -/

/-- R186: select asserted in IDLE opens a transaction; in TAKING (R187), and under RESET_N low (R193), the
level changes alone. -/
def assertSelect (l : LinkId) (s : State) : State :=
  let x := s.port l
  if x.selected then s
  else if s.resetLow ∨ x.state ≠ .idle then setPort l { x with selected := true } s
  else setPort l { state := .receiving, selected := true, request := [] } s

/-- LINK_SELECT_ASSERTED (R186). A select already asserted gives no edge (log 6). -/
def execLinkSelectAsserted (l : LinkId) (s : State) : Out := .next (assertSelect l s)

/-- LINK_RESPONSE_SENT (R186): the last response byte has gone out. -/
def execLinkResponseSent (l : LinkId) (s : State) : Out :=
  .next (match (s.port l).state with
    | .answering _ => setPort l { s.port l with state := .ended } s
    | .idle | .receiving | .taking _ | .ended => s)

/-- R186, R187: select released closes the transaction, and discards a partial request or the rest of a
response; in TAKING the request is still taken, and the port stays until it has been. -/
def Port.release (x : Port) : Port :=
  match x.state with
  | .taking _ => { x with state := .taking true, selected := false }
  | .idle | .receiving | .answering _ | .ended => { state := .idle, selected := false, request := [] }

/-- R186, R187: the release of an asserted select. -/
def releaseSelect (l : LinkId) (s : State) : State :=
  if (s.port l).selected then setPort l (s.port l).release s else s

/-- LINK_SELECT_RELEASED (R186). -/
def execLinkSelectReleased (l : LinkId) (s : State) : Out := .next (releaseSelect l s)

/-- LINK_SELECT_RELEASED_EARLY (R187). -/
def execLinkSelectReleasedEarly (l : LinkId) (s : State) : Out := .next (releaseSelect l s)

/-! ### The byte clock (R186, R194) -/

/-- The three links in the order of their numbers. -/
def allLinks : List LinkId := [.shore, .vesselA, .vesselB]

/-- The next byte time that waits at a link, if any, is clocked at its port. -/
def clockByte (s : State) (l : LinkId) : State :=
  match s.incoming.get l with
  | b :: r =>
    setPort l ((s.port l).clockIn (byteOfLevels b)) { s with incoming := s.incoming.set l r }
  | [] => s

/-- One byte time at every port whose partner clocks; the ports run side by side (section 10.5). -/
def clockBytes (s : State) : State := allLinks.foldl clockByte s

/-- The request that a port in TAKING has complete, as the row it spells (R186). -/
def State.takenAt (s : State) (l : LinkId) : List Instr :=
  match (s.port l).state with
  | .taking _ => (decodeRequest l (s.port l).request).toList
  | .idle | .receiving | .answering _ | .ended => []

/-! ### Pins driven by the part (R194, Table 10-1) -/

/-- The byte a port sends at the present byte time, none while its output is released (Table 10-1, R186,
R196). -/
def Port.byteOut (x : Port) : Option Byte :=
  match x.state with
  | .idle => none
  | .receiving => some 0
  | .taking _ => some 0
  | .answering rest => rest.head?
  | .ended => some 255

/-- LKn_DO at the eight clock periods of the present byte time: driven only while the port is not IDLE
(R194). -/
def Port.levelsOut (x : Port) : Option ByteTime := x.byteOut.map levelsOfByte

/-- What stands on an induction's transmit line: the output released, high between characters, or the
characters of a frame, each with its ninth bit, the mark (section 2.2). -/
inductive TxLine where
  | released
  | high
  | frame (characters : List (Bool × Byte))
  deriving DecidableEq, Repr

/-- INDn_TX (R194, R193, R197): the marked kind character, then the data characters, of the frame being
sent. -/
def State.transmit (s : State) (i : IndId) : TxLine :=
  if s.resetLow then .released
  else
    match (s.inds.get i).sending with
    | some f => .frame ((true, f.characters.1) :: f.characters.2.map fun c => (false, c))
    | none => .high

/-- TILT of a chute is high while the pulse is driven (R145, R194). -/
def State.tiltOutput (s : State) (c : ChuteId) : Bool := (s.chutes.get c).pulseEnd.isSome

/-- LKn_ATN is pulled low while the attention line is asserted, else open (R176, R194). -/
def State.attentionPinLow (s : State) (l : LinkId) : Bool := s.attention l

/-! ### The reset cause record (R192) -/

/-- READ RESET CAUSE's 5 bytes (section 11.3). -/
def causeBytes (s : State) : List Byte :=
  b1 (bits [s.cause.powerOn, s.cause.pin]) ++ b4 s.clock.seconds.toNat

/-- R192. -/
def readResetCause (s : State) : Answer := .ok (s, .data (causeBytes s))

/-- R192. -/
def clearResetCause (s : State) : Answer :=
  .ok ({ s with cause := { powerOn := false, pin := false } }, .ok)

end Sys2Proof.Machine
end

