-- ==== Sys2Proof/Config.lean ====
section
/-! DEFINITION. The one free value: the orders the manual leaves open (log 1, 2). -/

namespace Sys2Proof

/-- FREE VALUE. The `k`-th order that the manual leaves open. Claims, grant, arms, reconciliation
and re-selections of one pitch event "need no order among themselves" (R10), and where they meet at
shared state "either may be taken first" (R9, R46, R98, R122, R144, R191). The list is a choice
sequence: each number picks which of the waiting threads goes next. No body: nothing can be proved
of a particular order, so every statement holds for all of them. -/
opaque Config.freeOrder : Nat → List Nat

end Sys2Proof
end

