-- ==== Sys2Proof/Machine/Loop.lean ====
section
/-! DEFINITION. The loop (chapter 1): the check eye, the pitch event, track slip, stall, and the
requests CONFIGURE LOOP, START LOOP, STOP LOOP and RESET LOOP. -/

namespace Sys2Proof.Machine

/-! ### The check eye (section 1.6) -/

/-- The bag record of a bag first seen at the check eye (R18). -/
def orphanBag : BagRecord :=
  { source := none, launchConfirmed := true, size := .medium, tag := none, tag2 := none, slot := none
    entryLink := none, cls := .stray .lostTrack, strayId := none, passes := 0 }

/-- R18, R23: the tray becomes LOADED with a LOST_TRACK stray that is recorded, and is passed to
selection. -/
def loadOrphan (t : Nat) (s : State) : State :=
  passToSelection t (makeStray t
    { cause := .lostTrack, tag := none, tag2 := none, slot := none, cabin := none }
    (loadTray t orphanBag s)).state

/-- R18: an orphan bag on an EMPTY or RESERVED tray. -/
def orphanFound (t : Nat) (s : State) : State :=
  let s1 := match s.tray t with
    | .reserved i => loseReservation i t s
    | .empty | .loaded _ | .selected .. | .armed .. | .fired .. | .unconfirmed .. | .suspect => s
  loadOrphan t (raise .orphanBag .hall s1)

/-- R19: a LOADED tray whose bag is present begins a new pass. A tray that waits on is not passed to
selection, which takes no WAITING tray (R103). -/
def newPass (t : Nat) (s : State) : State :=
  let s1 := modBag t (fun b => { b with passes := min 8 (b.passes + 1) }) s
  let s2 := match (s1.tray t).bag with
    | some b => if b.isWaiting then judgeWait t s1 else s1
    | none => s1
  passToSelection t (judgeLimit t s2)

/-- R20: a LOADED tray whose bag is gone. -/
def lostBag (t : Nat) (b : BagRecord) (s : State) : State :=
  emptyTray t (loseBag b (raise .lostBag (scopeOf b.slot) s))

/-- R21, bag present: the tilt failed. -/
def tiltFailure (t : Nat) (b : BagRecord) (c : ChuteId) (g : BitVec 8) (s : State) : State :=
  newPass t (putTray t (.loaded b) (tiltFailed c (returnFill c g (unitsOf b.size) s)))

/-- R21, no bag: the sort is inferred. -/
def sortInferred (t : Nat) (b : BagRecord) (c : ChuteId) (s : State) : State :=
  emptyTray t (raise .unconfirmedSort (scopeOf b.slot) (sortBag b c true s))

/-- R19, R20: a LOADED tray at the check eye. -/
def settleLoaded (t : Nat) (b : BagRecord) (eye : Bool) (s : State) : State :=
  if eye then newPass t s else lostBag t b s

/-- R21: an UNCONFIRMED tray at the check eye. -/
def settleUnconfirmed (t : Nat) (b : BagRecord) (c : ChuteId) (g : BitVec 8) (eye : Bool) (s : State) :
    State :=
  if eye then tiltFailure t b c g s else sortInferred t b c s

/-- Table 1-5: the tray's row, by R18 to R23. A SELECTED tray does not come to offset 0 (R141) and has
no row: it is left as it is (log 16). -/
def settleRow (t : Nat) (eye : Bool) (s : State) : State :=
  match s.tray t with
  | .empty | .reserved _ => if eye then orphanFound t s else s
  | .loaded b => settleLoaded t b eye s
  | .unconfirmed b c g => settleUnconfirmed t b c g eye s
  | .armed b c =>
    settleLoaded t b eye (raise .armDropped (s.chute c).scope (cancelSelection t s))
  | .fired b c g =>
    settleUnconfirmed t b c g eye (putTray t (.unconfirmed b c g) (removeWindow c t s))
  | .suspect => if eye then loadOrphan t s else emptyTray t s
  | .selected .. => s

/-- R17: the reconciliation closes the tray's launch window, then applies its row of Table 1-5. -/
def reconcile (t : Nat) (eye : Bool) (s : State) : State := settleRow t eye (closeLaunch t s)

/-! ### The part of a pitch event that comes first (R5, R7, R10, R11) -/

/-- R138: an interval is clamped to 1 to 65535 and appended to the list of at most 4. -/
def pushInterval (xs : List Nat) (dt : Nat) : List Nat :=
  (if xs.length < 4 then xs else xs.tail) ++ [clampTo 1 65535 dt]

/-- R7: a pitch event in STALLED puts the loop back in STARTING, measures no interval and sets the
pitch time. -/
def Loop.leaveStalled (l : Loop) (tick : Nat) : Loop :=
  { l with
    state := .starting, measured := 0, intervals := [], pitchTime := some tick
    stallFrom := some tick }

/-- R5, R138: the interval since the earlier pitch event, if there is one; the count of 4 takes the
loop from STARTING to RUNNING. -/
def Loop.measure (l : Loop) (tick : Nat) : Loop :=
  match l.pitchTime with
  | none => { l with pitchTime := some tick, stallFrom := some tick }
  | some p =>
    let n := l.measured + 1
    let runs : Bool := l.state = .starting && 4 ≤ n
    { l with
      intervals := pushInterval l.intervals (tick - p)
      measured := if l.state = .starting then n else l.measured
      state := if runs then .running else l.state
      everRan := l.everRan || runs
      pitchTime := some tick
      stallFrom := some tick }

/-- R10: P advances by one modulo T. -/
def Loop.advance (l : Loop) : Loop := { l with pos := (l.pos + 1) % l.trays.length }

/-- R9: the pitch event is the first after the loop left STOPPED or STALLED. -/
def Loop.firstPitch (l : Loop) : Bool := l.state = .stalled || l.pitchTime.isNone

/-- The loop at a pitch event: its state, timing and position. -/
def pitchLoop (s : State) : State :=
  let l := s.loop
  let l1 := if l.state = .stalled then l.leaveStalled s.clock.tick else l.measure s.clock.tick
  { s with loop := l1.advance }

/-- R11: the home sample at a P of 0 or of another value at which home is low. -/
def homeSample (home : Bool) (s : State) : State :=
  if s.loop.pos = 0 then
    if home then { s with loop := { s.loop with homeMiss := 0 } }
    else if 2 ≤ s.loop.homeMiss then s
    else
      raiseIf (s.loop.homeMiss + 1 = 2) .homeMissing .hall
        { s with loop := { s.loop with homeMiss := s.loop.homeMiss + 1 } }
  else s

/-! ### What the other blocks do at a pitch event (R9, R10), in an order left open -/

/-- One act of a pitch event. -/
inductive PitchAct where
  | claim (i : IndId)
  | grant
  | reconcile
  | arm (t : Nat)
  | reselect (t : Nat)
  deriving DecidableEq, Repr

/-- One act taken whole; `hold` is the loop hold the pitch event began with (R37) and `eye` the check
eye sample. HOLD and RESUME follow each act's change of a cause (R37), behind the act's LAUNCH (log
13). -/
def doAct (hold eye : Bool) (s : State) (a : PitchAct) : State :=
  settleHolds s (match a with
    | .claim i => claimCheck hold i s
    | .grant => grantReservation s
    | .reconcile => reconcile s.loop.pos eye s
    | .arm t => armTray t s
    | .reselect t => passToSelection t s)

/-- A tray that is SELECTED with its arm position at its offset (R141). -/
def State.arms (s : State) (t : Nat) : Bool :=
  match s.tray t with
  | .selected _ _ a _ => a = s.offsetOf t
  | .empty | .reserved _ | .loaded _ | .armed .. | .fired .. | .unconfirmed .. | .suspect => false

/-- R9: the LOADED trays of class ROUTED or STRAY, but for the one reconciled, from the highest offset
to the lowest (log 15). -/
def State.reselects (s : State) : List Nat :=
  s.traysByOffset.filter fun t =>
    t != s.loop.pos &&
    (match s.tray t with
      | .loaded b => !b.isWaiting
      | .empty | .reserved _ | .selected .. | .armed .. | .fired .. | .unconfirmed .. | .suspect => false)

/-- The acts of a pitch event as threads: acts of one thread keep their order, threads need none
(R10). -/
def State.pitchThreads (s : State) (first : Bool) : List (List PitchAct) :=
  (allInds.map fun i => [.claim i]) ++ [[.grant], [.reconcile]]
    ++ ((s.traysByOffset.filter s.arms).map fun t => [.arm t])
    ++ [if first then s.reselects.map .reselect else []]

/-! ### Track slip (R12) -/

/-- R12 step 1 for one tray: the units of a SELECTED or ARMED tray are returned from committed. -/
def slipUnits (s : State) (x : Tray) : State :=
  match x with
  | .selected b c _ _ | .armed b c => returnCommitted c (unitsOf b.size) s
  | .empty | .reserved _ | .loaded _ | .fired .. | .unconfirmed .. | .suspect => s

/-- R12 step 2: a tray with a bag record becomes SUSPECT. -/
def slipTray (x : Tray) : Tray := if x.bag.isSome then .suspect else x

/-- BAG_UNTRACKED in the scope of each slot whose on-loop count was above 0 (R12, R25). -/
def raiseUntracked (before : State) (s : State) : State :=
  raiseIf (0 < before.onLoop .b) .bagUntracked (.slot .b)
    (raiseIf (0 < before.onLoop .a) .bagUntracked (.slot .a) s)

/-- R12 steps 1 to 6, with P set to 0 and every open launch window closed without effect (R41). -/
def slipTrays (s : State) : State :=
  let bags := s.loop.trays.filterMap (·.bag)
  let s1 := s.loop.trays.foldl slipUnits (dropWindows { s with fireQueue := [] })
  let s2 := { s1 with loop := { s1.loop with trays := s1.loop.trays.map slipTray, pos := 0, homeMiss := 0 } }
  let s3 := bags.foldl (fun s b => loseBag b s) s2
  let s4 := (if 0 < s.onLoop .b then reportZero .b else id)
    ((if 0 < s.onLoop .a then reportZero .a else id) s3)
  raiseUntracked s (raise .trackSlip .hall s4)

/-- R12: a track slip in place of the pitch event; tray 0 is reconciled against the check eye. -/
def trackSlip (eye : Bool) (s : State) : State :=
  let s1 := slipTrays s
  settleHolds s1 (reconcile 0 eye s1)

/-! ### The pitch event (R10) -/

/-- R10 after P has advanced and home has agreed: launch windows count down, and those that end close
(R41), then every act in an order given by a choice sequence. DESIGN CHOICE (log 35): the windows come
before the claims of the same pitch event. -/
def pitchActs (hold first : Bool) (order : List Nat) (eye : Bool) (s : State) : State :=
  let s1 := allInds.foldl (fun s i => expireWindows i (countWindows i s)) s
  (merged order (s1.pitchThreads first)).foldl (doAct hold eye) s1

/-- R10: one pitch event, with the order of its acts given by a choice sequence. In STOPPED pitch
edges are ignored (R8). -/
def pitchEvent (order : List Nat) (home eye : Bool) (s : State) : State :=
  if s.loop.state = .stopped then s
  else
    let s1 := settleHolds s (pitchLoop s)
    if home ∧ s1.loop.pos ≠ 0 then trackSlip eye s1
    else pitchActs s.loop.hold s.loop.firstPitch order eye (homeSample home s1)

/-- The next order the manual leaves open is drawn (log 1). -/
def drawOrder (s : State) : State := { s with freeCount := s.freeCount + 1 }

/-- PITCH_EVENT (R10), its order a free value (log 1). -/
def execPitchEvent (home check : Bool) (s : State) : Out :=
  .next (pitchEvent (Config.freeOrder s.freeCount) home check (drawOrder s))

/-! ### Stall (R6) -/

/-- R6: the stall timer has reached the stall timeout in STARTING or RUNNING. -/
def State.stallDue (s : State) : Bool :=
  match s.loop.stallFrom with
  | some t0 => !s.atRest && t0 + s.loop.cfg.stallTimeout ≤ s.clock.tick
  | none => false

/-- A tray that is SELECTED. -/
def Tray.isSelected : Tray → Bool
  | .selected .. => true
  | .empty | .reserved _ | .loaded _ | .armed .. | .fired .. | .unconfirmed .. | .suspect => false

/-- A tray that is ARMED. -/
def Tray.isArmed : Tray → Bool
  | .armed .. => true
  | .empty | .reserved _ | .loaded _ | .selected .. | .fired .. | .unconfirmed .. | .suspect => false

/-- Every tray that meets a test loses its selection (R6, R8). -/
def cancelAll (want : Tray → Bool) (s : State) : State :=
  ((List.range s.T).filter fun t => want (s.tray t)).foldl (fun s t => cancelSelection t s) s

/-- R6: entry to STALLED. -/
def enterStalled (s : State) : State :=
  let s1 := cancelAll (fun x => x.isSelected || x.isArmed) s
  settleHolds s (raise .stall .hall
    { s1 with fireQueue := [], loop := { s1.loop with state := .stalled, stallFrom := none } })

/-- STALL_TIMEOUT (R6). -/
def execStallTimeout (s : State) : Out := .next (if s.stallDue then enterStalled s else s)

/-! ### CONFIGURE LOOP (R1 to R3) -/

/-- The values of a request after T (Table 11-2). -/
def requestedConfig (p : Payload) : LoopConfig :=
  { nominal := u16 p 2, stallTimeout := u16 p 4, highMark := u16 p 6, lowMark := u16 p 8
    limit := u8 p 10, matchWait := u8 p 11, throwSmall := u16 p 12, throwMedium := u16 p 14
    throwLarge := u16 p 16, throwExtra := u16 p 18 }

/-- R2: each tuning value brought into its range; the marks in three steps. -/
def LoopConfig.clamped (t : Nat) (c : LoopConfig) : LoopConfig :=
  let high := clampTo 2 t c.highMark
  let low := max 1 c.lowMark
  { nominal := clampTo 500 30000 c.nominal
    stallTimeout := clampTo 2000 60000 c.stallTimeout
    highMark := high
    lowMark := if high ≤ low then high - 1 else low
    limit := clampTo 1 7 c.limit
    matchWait := clampTo 0 7 c.matchWait
    throwSmall := clampTo 0 2000 c.throwSmall
    throwMedium := clampTo 0 2000 c.throwMedium
    throwLarge := clampTo 0 2000 c.throwLarge
    throwExtra := clampTo 0 2000 c.throwExtra }

/-- A reservation outstanding keeps its request when the tray table is rebuilt (R3, R48). -/
def Reservation.rebuild : Reservation → Reservation
  | .granted _ => .requested
  | .none => .none
  | .requested => .requested

/-- R3: a change of T rebuilds the tray table, and every open launch window closes without effect
(R41). -/
def rebuildTrays (t : Nat) (s : State) : State :=
  let s1 := dropWindows
    { s with loop := { s.loop with trays := List.replicate t .empty, pos := 0, homeMiss := 0 } }
  allInds.foldl (fun s i => modInd i (fun r => { r with reservation := r.reservation.rebuild }) s) s1

/-- A configured offset that does not fit a loop of `t` trays (R1 check 3). -/
def State.offsetBeyond (s : State) (t : Nat) : Bool :=
  (allInds.any fun i => (s.ind i).offset != 0 && t ≤ (s.ind i).offset) ||
    (s.chutes.toList.any fun x => x.cfg.offset != 0 && t ≤ x.cfg.offset)

/-- A tray in a state other than EMPTY or RESERVED (R1 check 2). -/
def State.someOccupied (s : State) : Bool := s.loop.trays.any (·.occupied)

/-- R1 to R3. -/
def configureLoop (p : Payload) (s : State) : Answer :=
  let t := u16 p 0
  let req := requestedConfig p
  let cfg := req.clamped t
  if s.loop.state ≠ .stopped then .error .state
  else if t < 64 ∨ 512 < t then .error .badValue
  else if t ≠ s.T ∧ s.someOccupied then .error .state
  else if t ≠ s.T ∧ s.offsetBeyond t then .error .badValue
  else
    let s1 := if t ≠ s.T then rebuildTrays t s else s
    .ok (settleHolds s (judgeLoopHold { s1 with loop := { s1.loop with cfg := cfg } }),
      { accepted := false, clamped := cfg ≠ req, payload := [] })

/-! ### START LOOP and STOP LOOP (R4, R8) -/

/-- R4. -/
def startLoop (s : State) : Answer :=
  if s.loop.state = .stopped then
    .ok (settleHolds s
      { s with loop :=
          { s.loop with
            state := .starting, measured := 0, intervals := [], pitchTime := none
            stallFrom := some s.clock.tick } }, .ok)
  else .error .state

/-- R8: the loop stops. From STARTING and RUNNING the armed trays fall back and the timing is
discarded; from STALLED, where the fire queue is empty and no tray is armed, the same steps change
only the state. The interval list is emptied (R138). -/
def stopMotion (s : State) : State :=
  let s1 := cancelAll Tray.isArmed s
  settleHolds s
    { s1 with
      fireQueue := []
      loop :=
        { s1.loop with
          state := .stopped, stallFrom := none, pitchTime := none, measured := 0, intervals := [] } }

/-- R8. -/
def stopLoop (s : State) : Answer :=
  if s.loop.state = .stopped then .ok (s, .ok) else .ok (stopMotion s, .ok)

/-! ### RESET LOOP (R25, R50, R74, R92, R135, R164) -/

/-- R50 for one induction. -/
def Induction.loopReset (r : Induction) : Induction :=
  { r with
    queue := [], queueHold := false, resync := false, reservation := .none, waitCount := 0
    resendCount := 0, windows := []
    waiting := r.waiting.filter TxFrame.isHold }

/-- R135 for one chute. -/
def Chute.loopReset (x : Chute) : Chute := { x with committed := 0, windows := [] }

/-- R74: an ON_LOOP entry becomes UNTRACKED. -/
def BagEntry.loopReset (e : BagEntry) : BagEntry :=
  match e.status with
  | .onLoop _ => { e with status := .untracked }
  | .expected | .sorted .. | .strayed | .untracked => e

/-- R164: entries in ROUTING, and those a dropped bag record names, are marked untracked. -/
def StrayEntry.loopReset (named : List (BitVec 16)) (e : StrayEntry) : StrayEntry :=
  if e.state = .routing ∨ named.contains e.id then { e with untracked := true } else e

/-- R25: the state of the loop in motion is cleared and the tables are kept. -/
def resetMotion (s : State) : State :=
  let named := s.loop.trays.filterMap fun x => x.bag.bind (·.strayId)
  let s1 : State :=
    { s with
      loop :=
        { s.loop with
          state := .stopped, pos := 0, trays := List.replicate s.T .empty, homeMiss := 0
          hold := false, stallFrom := none, intervals := [] }
      inds :=
        { i0 := s.inds.i0.loopReset, i1 := s.inds.i1.loopReset, i2 := s.inds.i2.loopReset
          i3 := s.inds.i3.loopReset }
      pool := s.pool.map (·.loopReset)
      chutes := s.chutes.map (·.loopReset)
      blocked := []
      fireQueue := []
      strays := s.strays.map (·.loopReset named) }
  judgeStrayArmed (reportZero .b (reportZero .a (raiseUntracked s s1)))

/-- R25. -/
def resetLoop (s : State) : Answer :=
  if s.loop.state = .stopped ∨ s.loop.state = .stalled then .ok (settleHolds s (resetMotion s), .ok)
  else .error .state

end Sys2Proof.Machine
end

