-- ==== Sys2Proof/Machine/Chutes.lean ====
section
/-! DEFINITION. The chute requests (chapter 6): configuration, assignment, release, swaps, the blocked
interval and READ CHUTE. -/

namespace Sys2Proof.Machine

/-! ### CONFIGURE CHUTE (R111, R112) -/

/-- The cover list of a request as it stands in the payload: its first count entries. -/
def coverField (p : Payload) : List Nat := (List.range (min (u8 p 17) 4)).map fun k => u8 p (18 + k)

/-- R111 check 2 for one entry: a SORT chute other than the one configured. -/
def State.coverEntryOk (s : State) (c : ChuteId) (k : ChuteId) : Bool :=
  k != c && (s.chute k).cfg.role = .sort

/-- R111 check 2: the cover list of a request, none when it is refused. -/
def State.coverOf (s : State) (c : ChuteId) (role : ChuteRole) (p : Payload) : Option (List ChuteId) :=
  let ks := (coverField p).filterMap chuteOf
  if u8 p 17 = 0 then some []
  else if role ≠ .standby ∨ 4 < u8 p 17 ∨ ks.length ≠ (coverField p).length ∨
      (ks.all (s.coverEntryOk c)) = false ∨ decide ks.Nodup = false then none
  else some ks

/-- The configuration a request gives, before clamping. -/
def requestedChute (role : ChuteRole) (side : Side) (cover : List ChuteId) (p : Payload) : ChuteConfig :=
  { role := role, offset := u16 p 2, side := side, latency := u16 p 5, pulse := u16 p 7
    window := u16 p 9, jamTime := u32 p 11, capacity := u8 p 15, nearFull := u8 p 16, cover := cover }

/-- R112, Table 6-1: the tuning values clamped, capacity first and near-full to it. -/
def ChuteConfig.clamped (c : ChuteConfig) : ChuteConfig :=
  let cap := clampTo 1 255 c.capacity
  { c with
    latency := clampTo 0 5000 c.latency, pulse := clampTo 10 2000 c.pulse
    window := clampTo 500 10000 c.window, jamTime := clampTo 1000 600000 c.jamTime
    capacity := cap, nearFull := clampTo 1 cap c.nearFull }

/-- The starting state of a configuration (R112). -/
def ChuteConfig.start (c : ChuteConfig) : ChuteState :=
  if c.offset = 0 then .disabled
  else
    match c.role with
    | .sort => .unassigned
    | .standby => .standbyIdle
    | .stray => .isOpen

/-- R112: the chute record an accepted CONFIGURE CHUTE leaves, but for the new jam time and takeover.
An eye is timed only on a chute with an offset (R128). DESIGN CHOICE (log 33): a timer that a SWAPPING
chute stopped at offset 0 does not start again when the chute, SWAPPING still, is given another offset. -/
def Chute.configured (cfg : ChuteConfig) (tick : Nat) (x : Chute) : Chute :=
  let next := if x.state = .swapping then .swapping else cfg.start
  { x with
    cfg := cfg, state := next, fault := false, failures := 0
    jam := x.jam && next != .disabled
    occludedFrom :=
      if cfg.offset = 0 then none
      else if x.state = .disabled then (if x.eye then some tick else none)
      else x.occludedFrom }

/-- R112: a jam time that the occlusion being timed has already lasted sets the jam flag. -/
def Chute.judgeJam (tick : Nat) (x : Chute) : Chute := { x with jam := x.jam || x.jamDue tick }

/-- R112: the effects of an accepted CONFIGURE CHUTE. The configuration and the jam flag of its new jam
time are one change of the record, judged once (R131, R132), with CHUTE_BLOCKED where the flag is set
(log 18); the takeover, which asks for a clear jam flag, comes after it (log 24). -/
def applyChute (c : ChuteId) (cfg : ChuteConfig) (s : State) : State :=
  let x := (s.chute c).configured cfg s.clock.tick
  judgeStrayArmed (judgeStandby c
    (raiseIf (x.jamDue s.clock.tick) .chuteBlocked x.scope (setChute c (x.judgeJam s.clock.tick) s)))

/-- Another chute stands at an offset on a side (R111 check 6). -/
def State.placeTaken (s : State) (c : ChuteId) (offset : Nat) (side : Side) : Bool :=
  allChutes.any fun k => k != c && (s.chute k).cfg.offset = offset && (s.chute k).cfg.side = side

/-- R111 checks 3 to 6, with the refusal of the first that fails. -/
def State.chuteRefusal (s : State) (c : ChuteId) (cfg : ChuteConfig) : Option Reason :=
  let x := s.chute c
  if x.filling then some .chuteInUse
  else if x.state = .swapping ∧ x.group.isSome ∧ (cfg.role ≠ x.cfg.role ∨ cfg.offset = 0) then
    some .chuteInUse
  else if x.state = .swapping ∧ cfg.capacity < x.fill then some .chuteInUse
  else if cfg.offset ≠ 0 ∧ s.placeTaken c cfg.offset cfg.side then some .overlap
  else none

/-- R111, R112. -/
def configureChute (p : Payload) (s : State) : Answer :=
  match chuteOf (u8 p 0), roleOf (u8 p 1), sideOf (u8 p 4) with
  | some c, some role, some side =>
    if s.T ≤ u16 p 2 then .error .badValue
    else
      match s.coverOf c role p with
      | some cover =>
        let req := requestedChute role side cover p
        match s.chuteRefusal c req.clamped with
        | some r => .error r
        | none =>
          .ok (applyChute c req.clamped s,
            { accepted := false, clamped := req.clamped ≠ req, payload := [] })
      | none => .error .badValue
  | _, _, none => .error .badValue
  | _, none, some _ => .error .badValue
  | none, some _, some _ => .error .badValue

/-! ### Assignment to groups (R113, R114) -/

/-- A group field: slot, deck 1 to 20, zone 1 to 6. -/
def groupAt (p : Payload) (i : Nat) : Option Group :=
  match slotOf (u8 p i) with
  | some sl =>
    let deck := u8 p (i + 1)
    let zone := u8 p (i + 2)
    if 1 ≤ deck ∧ deck ≤ 20 ∧ 1 ≤ zone ∧ zone ≤ 6 then
      some { slot := sl, deck := deck, zone := zone }
    else none
  | none => none

/-- R113. -/
def assignChute (p : Payload) (s : State) : Answer :=
  match chuteOf (u8 p 0), groupAt p 1 with
  | some c, some g =>
    if (s.chute c).cfg.role ≠ .sort ∨ (s.chute c).state ≠ .unassigned then .error .state
    else if (s.slot g.slot).state ≠ .loading ∧ (s.slot g.slot).state ≠ .final then .error .state
    else .ok (modChute c (fun x => { x with group := some g, released := false, state := .isOpen }) s, .ok)
  | none, _ => .error .badValue
  | some _, none => .error .badValue

/-- R114: a chute that drops its group; a standby returns to STANDBY_IDLE and is judged. -/
def dropGroup (c : ChuteId) (s : State) : State :=
  if (s.chute c).cfg.role = .standby then
    judgeStandby c
      (modChute c (fun x => { x with group := none, tookOver := none, state := .standbyIdle }) s)
  else modChute c (fun x => { x with group := none, state := .unassigned }) s

/-- R114. -/
def releaseChute (p : Payload) (s : State) : Answer :=
  match chuteOf (u8 p 0) with
  | some c =>
    let x := s.chute c
    if x.group.isNone ∨ x.released ∨ x.filling = false then .error .state
    else if 0 < x.fill ∨ 0 < x.committed ∨ x.state ≠ .isOpen then .error .chuteInUse
    else .ok (dropGroup c s, .ok)
  | none => .error .badValue

/-! ### Swaps (R125, R126) -/

/-- A SELECTED or ARMED tray whose destination is a chute. -/
def Tray.boundFor (c : ChuteId) : Tray → Bool
  | .selected _ c' _ _ => c' = c
  | .armed _ c' => c' = c
  | .empty | .reserved _ | .loaded _ | .fired .. | .unconfirmed .. | .suspect => false

/-- R125: the chute swaps, its selections are cancelled, and their trays select again, from the
highest offset to the lowest. -/
def beginSwap (c : ChuteId) (s : State) : State :=
  let s1 := modChute c (fun x => { x with state := .swapping }) s
  let ts := s.traysByOffset.filter fun t => (s.tray t).boundFor c
  ts.foldl (fun s t => passToSelection t s) (ts.foldl (fun s t => cancelSelection t s) s1)

/-- R125. -/
def swapBegin (p : Payload) (s : State) : Answer :=
  match chuteOf (u8 p 0) with
  | some c => if (s.chute c).filling then .ok (beginSwap c s, .ok) else .error .state
  | none => .error .badValue

/-- R126 step 3: the state, group and released mark after SWAP END. -/
def Chute.leaveSwap (x : Chute) : Chute :=
  if x.cfg.offset = 0 then { x with state := .disabled }
  else
    match x.cfg.role with
    | .sort =>
      if x.group.isSome ∧ x.released = false then { x with state := .isOpen }
      else { x with state := .unassigned, group := none, released := false }
    | .standby =>
      { x with state := .standbyIdle, group := none, released := false, tookOver := none }
    | .stray => { x with state := .isOpen }

/-- R126 steps 1 to 3. The timer restarts only on a chute with an offset (log 19). -/
def Chute.swapped (tick : Nat) (x : Chute) : Chute :=
  { x with
    fill := 0, gen := x.gen + 1, jam := false, fault := false, failures := 0
    occludedFrom := if x.eye ∧ x.cfg.offset ≠ 0 then some tick else none }.leaveSwap

/-- R126 steps 1 to 4. -/
def endSwap (c : ChuteId) (s : State) : State :=
  judgeStrayArmed (judgeBlocked (judgeStandby c (modChute c (·.swapped s.clock.tick) s)))

/-- R126. -/
def swapEnd (p : Payload) (s : State) : Answer :=
  match chuteOf (u8 p 0) with
  | some c => if (s.chute c).state = .swapping then .ok (endSwap c s, .ok) else .error .state
  | none => .error .badValue

/-! ### The blocked interval (R133) and READ CHUTE (R134, Table 11-6) -/

/-- R133. -/
def setBlockedInterval (p : Payload) (s : State) : Answer :=
  let n := u8 p 0
  if n = 1 ∨ n = 4 ∨ n = 8 ∨ n = 16 then
    .ok ({ s with blockedN := n, blocked := s.blocked.map fun r => { r with reraise := 0 } }, .ok)
  else .error .badValue

/-- The 21 configuration bytes, as stored. -/
def ChuteConfig.bytes (c : ChuteConfig) : List Byte :=
  b1 c.role.code ++ b2 c.offset ++ b1 c.side.code ++ b2 c.latency ++ b2 c.pulse ++ b2 c.window
    ++ b4 c.jamTime ++ b1 c.capacity ++ b1 c.nearFull ++ b1 c.cover.length
    ++ bPlaces 4 1 c.cover (fun k => b1 k.val)

/-- The run-time state of a chute: 31 bytes. A window's ticks left are those until its end tick. -/
def Chute.bytes (tick : Nat) (x : Chute) : List Byte :=
  b1 x.state.code ++ b1 (bits [x.group.isSome, x.tookOver.isSome])
    ++ bOpt 3 x.group bGroup ++ bOpt 1 x.tookOver (fun k => b1 k.val)
    ++ b1 x.fill ++ b1 x.committed ++ b1 (bits [x.released, x.jam, x.fault])
    ++ b1 x.failures ++ b1 x.gen.toNat
    ++ b1 x.windows.length ++ bPlaces 4 4 x.windows (fun w => b2 w.tray ++ b2 (w.endTick - tick))

/-- READ CHUTE's 149 bytes. -/
def chuteBytes (s : State) (c : ChuteId) : List Byte :=
  b1 s.blockedN ++ bFlag s.strayArmed
    ++ b1 s.blocked.length
    ++ bPlaces 16 6 s.blocked (fun r => bGroup r.group ++ b2 r.count ++ b1 r.reraise)
    ++ b1 c.val ++ (s.chute c).cfg.bytes ++ (s.chute c).bytes s.clock.tick

/-- R134. -/
def readChute (p : Payload) (s : State) : Answer :=
  match chuteOf (u8 p 0) with
  | some c => .ok (s, .data (chuteBytes s c))
  | none => .error .badValue

end Sys2Proof.Machine
end

