-- ==== Sys2Proof/Machine/Desk.lean ====
section
/-! DEFINITION. The desk requests and the stray reads (chapter 8). -/

namespace Sys2Proof.Machine

/-! ### RESOLVE STRAY and DISCARD STRAY (R165, R166, R59) -/

/-- R59: the Manifest Store's answer to a resolve request for a tag, a slot and a cabin, linked to a
stray entry: a new STRAYED entry, the present one made STRAYED, or a refusal. -/
def resolveEntry (tag : Tag) (sl : Slot) (cabin : Nat) (id : BitVec 16) (s : State) : Except Reason State :=
  match s.entry tag with
  | none =>
    if (s.slot sl).quota ≤ s.entryCount sl then .error .quotaFull
    else
      let e : BagEntry :=
        { tag := tag, slot := sl, cabin := cabin, status := .strayed, strayLink := some id
          addedLate := (s.slot sl).state = .final }
      .ok (judgeQuota sl { s with pool := insertEntry e s.pool })
  | some e =>
    match e.status with
    | .onLoop _ => .error .state
    | .expected | .sorted .. | .strayed | .untracked =>
      .ok (modEntry tag (fun e => { e with cabin := cabin, status := .strayed, strayLink := some id }) s)

/-- R165: the stray entry is RESOLVED, recorded for the slot with its present call number. -/
def markResolved (id : BitVec 16) (sl : Slot) (cabin : Nat) (s : State) : State :=
  modStray id (fun e =>
    { e with slot := some (sl, (s.slot sl).call), cabin := some cabin, state := .resolved }) s

/-- R165 checks 4 and 5, and what follows. -/
def resolveTag (id : BitVec 16) (tag : Tag) (cabin : Nat) (s : State) : Answer :=
  match s.decodeSlot tag with
  | none => .error .state
  | some sl =>
    if (s.slot sl).state ≠ .loading ∧ (s.slot sl).state ≠ .final then .error .state
    else
      match resolveEntry tag sl cabin id s with
      | .error r => .error r
      | .ok s1 => .ok (markResolved id sl cabin s1, .ok)

/-- R165. -/
def resolveStray (p : Payload) (s : State) : Answer :=
  let id := BitVec.ofNat 16 (u16 p 0)
  let cabin := u16 p 2
  if cabin = 0 then .error .badValue
  else
    match s.strayOfId id with
    | none => .error .notFound
    | some e =>
      match e.tag with
      | none => .error .state
      | some tag => if e.state = .reinducted then .error .state else resolveTag id tag cabin s

/-- R166. -/
def discardStray (p : Payload) (s : State) : Answer :=
  let id := BitVec.ofNat 16 (u16 p 0)
  match s.strayOfId id with
  | none => .error .notFound
  | some e =>
    if e.state = .reinducted ∧ e.untracked = false then .error .state
    else .ok (removeStray id s, .ok)

/-! ### READ STRAY LIST and READ STRAY (R168, R169, Table 11-4) -/

/-- The entries a link sees (section 8.7): all on the shore link, those recorded for its slot on a
vessel link. -/
def State.view (s : State) (l : LinkId) : List StrayEntry :=
  match linkSlot l with
  | some sl => s.strays.filter (s.recordedFor sl)
  | none => s.strays

/-- A stray entry's 26 bytes. -/
def strayBytes (e : StrayEntry) : List Byte :=
  b1 (bits [e.tag.isSome, e.tag2.isSome, e.slot.isSome, e.cabin.isSome, e.chute.isSome])
    ++ b2 e.id.toNat ++ b1 e.cause.code ++ b1 e.state.code
    ++ bOpt 5 e.tag bTag ++ bOpt 5 e.tag2 bTag
    ++ bOpt 2 e.slot (fun (sl, n) => b1 sl.code ++ b1 n.toNat)
    ++ bOpt 2 e.cabin b2 ++ b4 e.created.toNat
    ++ bOpt 1 e.chute (fun c => b1 c.val) ++ bFlag e.untracked ++ b1 e.times

/-- READ STRAY LIST's 59 bytes from a position of a view. -/
def strayListBytes (s : State) (view : List StrayEntry) (pos : Nat) : List Byte :=
  let es := (view.drop pos).take 2
  b1 view.length ++ b1 s.strays.length ++ b2 s.unlisted ++ b2 s.nextStrayId.toNat
    ++ b1 es.length ++ bPlaces 2 26 es strayBytes

/-- R168. -/
def readStrayList (l : LinkId) (p : Payload) (s : State) : Answer :=
  if 127 < u8 p 0 then .error .badValue
  else .ok (s, .data (strayListBytes s (s.view l) (u8 p 0)))

/-- R169. -/
def readStray (l : LinkId) (p : Payload) (s : State) : Answer :=
  let id := BitVec.ofNat 16 (u16 p 0)
  match (s.view l).find? fun e => e.id = id with
  | some e => .ok (s, .data (strayBytes e ++ b1 ((s.view l).findIdx fun e => e.id = id)))
  | none => .error .notFound

end Sys2Proof.Machine
end

