-- ==== Sys2Proof/Machine/Manifest.lean ====
section
/-! DEFINITION. Tag windows and the Manifest Store (chapter 3): the window requests, the bag entry
requests and the cabin map requests, each as its owning block takes it. -/

namespace Sys2Proof.Machine

/-! ### Tag windows (R53 to R55) -/

/-- Two prefixes of which one begins with the other (section 3.1). -/
def prefixRelated (a b : List Nat) : Bool := a.isPrefixOf b || b.isPrefixOf a

/-- A valid window whose target slot is not VACANT (R53 check 3). -/
def State.windowServes (s : State) (w : TagWindow) : Bool :=
  !w.digits.isEmpty &&
    (match w.target.slot with
      | some sl => (s.slot sl).state != .vacant
      | none => false)

/-- R53 check 3, first test: a valid window whose prefix is related to that of a window in use, itself
among them. -/
def State.windowInUse (s : State) (w : TagWindow) : Bool :=
  !w.digits.isEmpty &&
    s.tagWindows.toList.any fun v => s.windowServes v && prefixRelated w.digits v.digits

/-- The windows other than one. -/
def State.otherWindows (s : State) (n : Fin 8) : List TagWindow :=
  ((List.finRange 8).filter (· != n)).map fun k => s.tagWindows.get k

/-- A window written. -/
def putWindow (n : Fin 8) (w : TagWindow) (s : State) : State :=
  { s with tagWindows := s.tagWindows.set n w }

/-- R53. -/
def setWindow (p : Payload) (s : State) : Answer :=
  let len := u8 p 1
  let digits := (halfBytes p 2 5).take len
  match windowOf (u8 p 0), targetOf (u8 p 7) with
  | some n, some target =>
    if len < 1 ∨ 10 < len ∨ (digits.all (· ≤ 9)) = false then .error .badValue
    else if (s.otherWindows n).any fun w => w.digits = digits then .error .overlap
    else if s.windowInUse (s.tagWindows.get n) ∨
        (s.otherWindows n).any (fun w => s.windowServes w && prefixRelated digits w.digits) then
      .error .windowInUse
    else .ok (putWindow n { digits := digits, target := target } s, .ok)
  | none, _ => .error .badValue
  | some _, none => .error .badValue

/-- R54: a cleared window keeps its target. -/
def clearWindow (p : Payload) (s : State) : Answer :=
  match windowOf (u8 p 0) with
  | some n =>
    let w := s.tagWindows.get n
    if s.windowInUse w then .error .windowInUse
    else .ok (putWindow n { w with digits := [] } s, .ok)
  | none => .error .badValue

/-- READ WINDOW's 9 bytes (section 11.3): digits past the prefix length are 0, and so is the slot state
of an EXCLUDED window. -/
def windowBytes (s : State) (w : TagWindow) : List Byte :=
  bFlag (!w.digits.isEmpty) ++ b1 w.digits.length
    ++ packDigits (w.digits ++ List.replicate (10 - w.digits.length) 0)
    ++ b1 w.target.code
    ++ (match w.target.slot with
      | some sl => b1 (s.slot sl).state.code
      | none => b1 0)

/-- R55. -/
def readWindow (p : Payload) (s : State) : Answer :=
  match windowOf (u8 p 0) with
  | some n => .ok (s, .data (windowBytes s (s.tagWindows.get n)))
  | none => .error .badValue

/-! ### ADD BAG (R61 to R63) -/

/-- R62: the entry of an accepted ADD BAG, added late in FINAL. -/
def State.newEntry (s : State) (sl : Slot) (tag : Tag) (cabin : Nat) : BagEntry :=
  { tag := tag, slot := sl, cabin := cabin, status := .expected, strayLink := none
    addedLate := (s.slot sl).state = .final }

/-- R62, R56, R81: the new entry is taken from the pool; an add in FINAL is late. -/
def addEntry (sl : Slot) (tag : Tag) (cabin : Nat) (s : State) : State :=
  raiseIf ((s.slot sl).state = .final) .lateAdd (.slot sl)
    (judgeQuota sl { s with pool := insertEntry (s.newEntry sl tag cabin) s.pool })

/-- R62, R161: a stray the add matches becomes MATCHED, and the new entry STRAYED and linked to it. -/
def matchStray (sl : Slot) (tag : Tag) (s : State) : State :=
  match s.matchable sl tag with
  | some e =>
    raise .strayMatched (.slot sl)
      (modEntry tag (fun b => { b with status := .strayed, strayLink := some e.id })
        (modStray e.id (fun e => { e with state := .matched }) s))
  | none => s

/-- R61 to R63. -/
def addBag (sl : Slot) (p : Payload) (s : State) : Answer :=
  let cabin := u16 p 5
  match tagAt p 0 with
  | some tag =>
    if cabin = 0 then .error .badValue
    else if (s.slot sl).state ≠ .loading ∧ (s.slot sl).state ≠ .final then .error .state
    else
      match s.decodeSlot tag with
      | none => .error .noWindow
      | some k =>
        if k ≠ sl then .error .wrongShip
        else if (s.entry tag).isSome then .error .exists_
        else if (s.slot sl).quota ≤ s.entryCount sl then .error .quotaFull
        else
          .ok (wakeWhere sl (fun b => b.cls = .waiting .unknownTag && b.tag = some tag)
            (matchStray sl tag (addEntry sl tag cabin s)), .ok)
  | none => .error .badValue

/-! ### WITHDRAW BAG (R64, R65) -/

/-- R65 steps 1 to 3: the bag of an ON_LOOP entry becomes a WITHDRAWN stray; a SELECTED or ARMED tray
loses its selection; a LOADED tray is passed to selection; FIRED and UNCONFIRMED trays stand. -/
def withdrawOnLoop (tag : Tag) (s : State) : State :=
  match s.trayOfEntry tag with
  | some t =>
    match (s.tray t).bag with
    | some b =>
      passToSelection t (cancelSelection t (makeStray t (s.strayOfBag b .withdrawn) s).state)
    | none => s
  | none => s

/-- R56, R81: an entry returns to the pool. -/
def returnEntry (sl : Slot) (tag : Tag) (s : State) : State :=
  judgeQuota sl { s with pool := eraseEntry tag s.pool }

/-- Whether a status is ON_LOOP. -/
def EntryStatus.isOnLoop : EntryStatus → Bool
  | .onLoop _ => true
  | .expected | .sorted .. | .strayed | .untracked => false

/-- R64, R65. -/
def withdrawBag (sl : Slot) (p : Payload) (s : State) : Answer :=
  match tagAt p 0 with
  | some tag =>
    match s.entryIn sl tag with
    | some e =>
      .ok (returnEntry sl tag (if e.status.isOnLoop then withdrawOnLoop tag s else s), .ok)
    | none => .error .notFound
  | none => .error .badValue

/-! ### CHANGE CABIN (R66, R67) -/

/-- R67 for an ON_LOOP entry: the tray of a SELECTED or ARMED bag selects again, a FIRED or
UNCONFIRMED one marks the entry changed in flight, a LOADED one is left as it is. -/
def changeOnLoop (tag : Tag) (s : State) : State :=
  match s.trayOfEntry tag with
  | some t =>
    match s.tray t with
    | .selected .. | .armed .. => passToSelection t (cancelSelection t s)
    | .fired .. | .unconfirmed .. => modEntry tag (fun e => { e with status := .onLoop true }) s
    | .empty | .reserved _ | .loaded _ | .suspect => s
  | none => s

/-- R66: the cabin set, and what follows by the entry's status. -/
def applyCabin (sl : Slot) (e : BagEntry) (cabin : Nat) (s : State) : State :=
  let s1 := modEntry e.tag (fun e => { e with cabin := cabin }) s
  match e.status with
  | .expected | .strayed | .untracked =>
    wakeWhere sl (fun b => b.cls = .waiting .cabinUnmapped && b.tag = some e.tag) s1
  | .onLoop _ => changeOnLoop e.tag s1
  | .sorted .. => raise .cabinChangedAfterSort (.slot sl) s1

/-- R66, R67. -/
def changeCabin (sl : Slot) (p : Payload) (s : State) : Answer :=
  let cabin := u16 p 5
  match tagAt p 0 with
  | some tag =>
    if cabin = 0 then .error .badValue
    else
      match s.entryIn sl tag with
      | some e => .ok (if cabin = e.cabin then s else applyCabin sl e cabin s, .ok)
      | none => .error .notFound
  | none => .error .badValue

/-! ### READ BAG (R68, Table 11-3) -/

/-- Sorted chute, sorted time and unconfirmed mark of a status. -/
def EntryStatus.sort : EntryStatus → Option (ChuteId × BitVec 32 × Bool)
  | .sorted c t u => some (c, t, u)
  | .expected | .onLoop _ | .strayed | .untracked => none

/-- The changed in flight mark of a status. -/
def EntryStatus.changed : EntryStatus → Bool
  | .onLoop c => c
  | .expected | .sorted .. | .strayed | .untracked => false

/-- READ BAG's 18 bytes. -/
def entryBytes (e : BagEntry) : List Byte :=
  b1 (bits [e.status.sort.isSome, e.strayLink.isSome]) ++ bTag e.tag ++ b1 e.slot.code ++ b2 e.cabin
    ++ b1 e.status.code
    ++ b1 (bits [e.addedLate, (e.status.sort.map (·.2.2)).getD false, e.status.changed])
    ++ bOpt 5 e.status.sort (fun (c, t, _) => b1 c.val ++ b4 t.toNat)
    ++ bOpt 2 e.strayLink (fun id => b2 id.toNat)

/-- The entry a link's READ BAG sees: its own slot's on a vessel link, either slot's on the shore
link. -/
def State.entryFor (s : State) (l : LinkId) (tag : Tag) : Option BagEntry :=
  match linkSlot l with
  | some sl => s.entryIn sl tag
  | none => s.entry tag

/-- R68. -/
def readBag (l : LinkId) (p : Payload) (s : State) : Answer :=
  match tagAt p 0 with
  | some tag =>
    match s.entryFor l tag with
    | some e => .ok (s, .data (entryBytes e))
    | none => .error .notFound
  | none => .error .badValue

/-! ### Cabin maps (R70 to R73) -/

/-- A range written, without what follows (R71). -/
def putRange (sl : Slot) (n : Fin 96) (r : CabinRange) (s : State) : State :=
  { s with maps := s.maps.set sl ((s.maps.get sl).set n r) }

/-- R71: a changed map wakes the slot's trays that wait with reason CABIN_UNMAPPED. -/
def changeMap (sl : Slot) (n : Fin 96) (r : CabinRange) (s : State) : State :=
  wakeWhere sl (fun b => b.cls = .waiting .cabinUnmapped) (putRange sl n r s)

/-- A valid range at another index that shares a cabin with `first` to `last` (R70 check 4). -/
def rangeOverlaps (m : Vector CabinRange 96) (n : Fin 96) (first last : Nat) : Bool :=
  (List.finRange 96).any fun k =>
    k != n && (m.get k).valid && (m.get k).first ≤ last && first ≤ (m.get k).last

/-- R70. -/
def setCabinRange (sl : Slot) (p : Payload) (s : State) : Answer :=
  let r : CabinRange :=
    { valid := true, first := u16 p 1, last := u16 p 3, deck := u8 p 5, zone := u8 p 6 }
  match rangeOf (u8 p 0) with
  | some n =>
    if r.first = 0 ∨ r.last = 0 ∨ r.deck < 1 ∨ 20 < r.deck ∨ r.zone < 1 ∨ 6 < r.zone then
      .error .badValue
    else if r.last < r.first then .error .badValue
    else if rangeOverlaps (s.maps.get sl) n r.first r.last then .error .overlap
    else .ok (if (s.maps.get sl).get n = r then s else changeMap sl n r s, .ok)
  | none => .error .badValue

/-- R72: first, last, deck and zone of a cleared range are kept. -/
def clearCabinRange (sl : Slot) (p : Payload) (s : State) : Answer :=
  match rangeOf (u8 p 0) with
  | some n =>
    let r := (s.maps.get sl).get n
    .ok (if r.valid then changeMap sl n { r with valid := false } s else s, .ok)
  | none => .error .badValue

/-- READ CABIN RANGE's 7 bytes (section 11.3). -/
def rangeBytes (r : CabinRange) : List Byte :=
  bFlag r.valid ++ b2 r.first ++ b2 r.last ++ b1 r.deck ++ b1 r.zone

/-- R73: the vessel form names an index of the link's own slot, the shore form a slot and an index. -/
def readCabinRange (l : LinkId) (p : Payload) (s : State) : Answer :=
  let named : Option (Slot × Fin 96) :=
    match linkSlot l with
    | some sl => (rangeOf (u8 p 0)).map (sl, ·)
    | none => (slotOf (u8 p 0)).bind fun sl => (rangeOf (u8 p 1)).map (sl, ·)
  match named with
  | some (sl, n) => .ok (s, .data (rangeBytes ((s.maps.get sl).get n)))
  | none => .error .badValue

end Sys2Proof.Machine
end

