-- ==== Sys2Proof/Machine/Notices.lean ====
section
/-! DEFINITION. The notice requests (chapter 9): each acts on the sender's own record. -/

namespace Sys2Proof.Machine

/-- The four groups in the order of their numbers. -/
def allGroups : List NoticeGroup := [.loop, .chutes, .strays, .ships]

/-- A link's notice record rewritten. -/
def modNotices (l : LinkId) (f : NoticeRecord → NoticeRecord) (s : State) : State :=
  { s with notices := s.notices.set l (f (s.notices.get l)) }

/-! ### FETCH NOTICE (R177, R178) -/

/-- R177 step 1: the lowest-numbered group latched and unfetched. -/
def NoticeRecord.callingGroup (r : NoticeRecord) : Option NoticeGroup :=
  allGroups.find? fun g => r.latches.get g = .set

/-- R177 steps 2 and 3: the lowest-numbered calling source of a group, else GENERIC. -/
def NoticeRecord.callingSource (r : NoticeRecord) (g : NoticeGroup) : Nat :=
  ([1, 2, 3, 4, 5, 6, 7].find? fun n => (r.calling g).getLsbD n).getD 0

/-- A source's flag cleared; GENERIC has none. -/
def NoticeRecord.clearFlag (g : NoticeGroup) (n : Nat) (r : NoticeRecord) : NoticeRecord :=
  if n = 0 then r else { r with flags := r.flags.set g (r.flags.get g &&& ~~~ sourceBit n) }

/-- R178 steps 1 and 2: the group is fetched, and in AUTO the returned source's flag is cleared. -/
def NoticeRecord.fetch (g : NoticeGroup) (r : NoticeRecord) : NoticeRecord :=
  let r1 := { r with latches := r.latches.set g .fetched }
  match r.mode with
  | .auto => r1.clearFlag g (r.callingSource g)
  | .manual => r1

/-- Whether a latch is set, fetched or not. -/
def Latch.isSet : Latch → Bool
  | .clear => false
  | .set | .fetched => true

/-- Whether a latch has its fetched mark. -/
def Latch.isFetched : Latch → Bool
  | .fetched => true
  | .clear | .set => false

/-- The latch byte: bit g is group g's latch, bit g + 4 its fetched mark (section 11.3). -/
def NoticeRecord.latchByte (r : NoticeRecord) : Nat :=
  bits ((allGroups.map fun g => (r.latches.get g).isSet) ++ allGroups.map fun g => (r.latches.get g).isFetched)

/-- FETCH NOTICE on a record: the record it leaves and the 5 bytes it returns. -/
def NoticeRecord.fetchNotice (r : NoticeRecord) : NoticeRecord × List Byte :=
  match r.callingGroup with
  | some g =>
    let r1 := r.fetch g
    (r1, b1 1 ++ b1 g.code ++ b1 (r.callingSource g) ++ [r1.flags.get g] ++ b1 r1.latchByte)
  | none => (r, b1 0 ++ b1 0 ++ b1 0 ++ b1 0 ++ b1 r.latchByte)

/-- R177, R178. -/
def fetchNotice (l : LinkId) (s : State) : Answer :=
  .ok (modNotices l (fun r => r.fetchNotice.1) s, .data (s.notices.get l).fetchNotice.2)

/-! ### ACK GROUP and CLEAR NOTICE (R179, R180) -/

/-- R179: latch and fetched mark cleared, then the group judged. -/
def NoticeRecord.ack (g : NoticeGroup) (r : NoticeRecord) : NoticeRecord :=
  { r with latches := r.latches.set g .clear }.judge g

/-- R179. -/
def ackGroup (l : LinkId) (p : Payload) (s : State) : Answer :=
  match noticeGroupOf (u8 p 0) with
  | some g => .ok (modNotices l (·.ack g) s, .ok)
  | none => .error .badValue

/-- R180: a cleared flag makes no group pending, so nothing is latched by it. -/
def clearNotice (l : LinkId) (p : Payload) (s : State) : Answer :=
  match noticeGroupOf (u8 p 0) with
  | some g =>
    if 7 < u8 p 1 then .error .badValue
    else .ok (modNotices l (·.clearFlag g (u8 p 1)) s, .ok)
  | none => .error .badValue

/-! ### Enables and clear mode (R181, R182) -/

/-- One byte for each group, without the bits of sources that hold no enable (R172, R181). -/
def enablesOf (p : Payload) : PerGroup Byte :=
  { loop := p.getD 0 0 &&& conditionalBits .loop
    chutes := p.getD 1 0 &&& conditionalBits .chutes
    strays := p.getD 2 0 &&& conditionalBits .strays
    ships := p.getD 3 0 &&& conditionalBits .ships }

/-- R181: the enables stored, and each group judged. -/
def NoticeRecord.enable (e : PerGroup Byte) (r : NoticeRecord) : NoticeRecord :=
  allGroups.foldl (fun r g => r.judge g) { r with enables := e }

/-- R181. -/
def setNoticeEnables (l : LinkId) (p : Payload) (s : State) : Answer :=
  .ok (modNotices l (·.enable (enablesOf p)) s, .ok)

/-- R182. -/
def setClearMode (l : LinkId) (p : Payload) (s : State) : Answer :=
  match clearModeOf (u8 p 0) with
  | some m => .ok (modNotices l (fun r => { r with mode := m }) s, .ok)
  | none => .error .badValue

end Sys2Proof.Machine
end

