-- ==== Sys2Proof/Machine/Records.lean ====
section
/-! DEFINITION. The records READ TRAY and READ INDUCTION return (Tables 11-5 and 11-8). -/

namespace Sys2Proof.Machine

/-! ### READ TRAY (R24, Table 11-5) -/

/-- The values of CONFIGURE LOOP after T, in its order, as stored: 18 bytes. -/
def LoopConfig.bytes (c : LoopConfig) : List Byte :=
  b2 c.nominal ++ b2 c.stallTimeout ++ b2 c.highMark ++ b2 c.lowMark ++ b1 c.limit ++ b1 c.matchWait
    ++ b2 c.throwSmall ++ b2 c.throwMedium ++ b2 c.throwLarge ++ b2 c.throwExtra

/-- The loop header: 30 bytes. -/
def loopHeader (s : State) : List Byte :=
  b1 s.loop.state.code ++ b2 s.T ++ b2 s.loop.pos ++ b2 s.period ++ b1 s.periodMark
    ++ b2 s.occupancy ++ bFlag s.loop.hold ++ b1 s.loop.homeMiss ++ s.loop.cfg.bytes

/-- The reserving induction of a tray. -/
def Tray.reserving : Tray → Option IndId
  | .reserved i => some i
  | .empty | .loaded _ | .selected .. | .armed .. | .fired .. | .unconfirmed .. | .suspect => none

/-- The destination chute of a tray (Table 1-4). -/
def Tray.chute : Tray → Option ChuteId
  | .selected _ c _ _ | .armed _ c | .fired _ c _ | .unconfirmed _ c _ => some c
  | .empty | .reserved _ | .loaded _ | .suspect => none

/-- The arm position and distance of a tray (Table 1-4). -/
def Tray.armPlace : Tray → Option (Nat × Nat)
  | .selected _ _ a d => some (a, d)
  | .empty | .reserved _ | .loaded _ | .armed .. | .fired .. | .unconfirmed .. | .suspect => none

/-- The swap generation of a tray (Table 1-4). -/
def Tray.gen : Tray → Option (BitVec 8)
  | .fired _ _ g | .unconfirmed _ _ g => some g
  | .empty | .reserved _ | .loaded _ | .selected .. | .armed .. | .suspect => none

/-- The wait reason or stray cause of a class, 0 for ROUTED. -/
def BagClass.detail : BagClass → Nat
  | .routed => 0
  | .waiting r => r.code
  | .stray c => c.code

/-- The presence bits of a tray record. -/
def trayPresence (x : Tray) : Nat :=
  bits [x.reserving.isSome, x.bag.isSome, (x.bag.bind (·.tag)).isSome, (x.bag.bind (·.tag2)).isSome,
    (x.bag.bind (·.slot)).isSome, (x.bag.bind (·.entryLink)).isSome, (x.bag.bind (·.strayId)).isSome,
    x.chute.isSome, x.armPlace.isSome, x.gen.isSome]

/-- The bag record's own fields, source induction to passes: 20 bytes. -/
def BagRecord.bytes (b : BagRecord) : List Byte :=
  b1 ((b.source.map indCode).getD 4) ++ bFlag b.launchConfirmed ++ b1 (sizeCode b.size)
    ++ b1 (unitsOf b.size) ++ bOpt 5 b.tag bTag ++ bOpt 5 b.tag2 bTag
    ++ bOpt 1 b.slot (fun sl => b1 sl.code) ++ b1 b.cls.code ++ b1 b.cls.detail
    ++ bOpt 2 b.strayId (fun id => b2 id.toNat) ++ b1 b.passes

/-- The tray record: 31 bytes. -/
def trayBytes (t : Nat) (x : Tray) : List Byte :=
  b2 t ++ b1 x.code ++ b2 (trayPresence x) ++ bOpt 1 x.reserving (fun i => b1 (indCode i))
    ++ bOpt 20 x.bag BagRecord.bytes
    ++ bOpt 1 x.chute (fun c => b1 c.val) ++ bOpt 3 x.armPlace (fun (a, d) => b2 a ++ b1 d)
    ++ bOpt 1 x.gen (fun g => b1 g.toNat)

/-- R24. -/
def readTray (p : Payload) (s : State) : Answer :=
  if s.T ≤ u16 p 0 then .error .badValue
  else .ok (s, .data (loopHeader s ++ trayBytes (u16 p 0) (s.tray (u16 p 0))))

/-! ### READ INDUCTION (R49, Table 11-8) -/

/-- A read record: kind, tags and size class, 12 bytes. -/
def readRecordBytes (r : ReadRecord) : List Byte :=
  b1 r.reading.code
    ++ (match r.reading with
      | .bag t => bTag t ++ List.replicate 5 0
      | .multi t u => bTag t ++ bTag u
      | .noread => List.replicate 10 0)
    ++ b1 (sizeCode r.size)

/-- The tray of a granted reservation. -/
def Reservation.tray : Reservation → Option Nat
  | .granted t => some t
  | .none => Option.none
  | .requested => Option.none

/-- READ INDUCTION's 68 bytes (R49, Table 11-8). DESIGN CHOICE (log 36): the open launch windows stand in
their places in the order they were opened, the oldest first. -/
def inductionBytes (s : State) (i : IndId) : List Byte :=
  let r := s.ind i
  b2 r.offset ++ b1 r.n ++ b1 r.w ++ bFlag r.enabled
    ++ b1 (bits (s.heldCauses i))
    ++ b1 (bits [s.held i, s.barred i, r.queueHold, r.resync])
    ++ b1 r.queue.length ++ bPlaces 4 12 r.queue readRecordBytes
    ++ b1 r.waitCount ++ b1 r.resendCount
    ++ b1 r.reservation.code ++ bOpt 2 r.reservation.tray b2
    ++ b1 r.windows.length ++ bPlaces 2 3 r.windows (fun w => b2 w.tray ++ b1 w.left)

/-- R49. -/
def readInduction (p : Payload) (s : State) : Answer :=
  match indOf (u8 p 0) with
  | some i => .ok (s, .data (inductionBytes s i))
  | none => .error .badValue

end Sys2Proof.Machine
end

