-- ==== Sys2Proof/Machine/Slots.lean ====
section
/-! DEFINITION. Berth slots and loading cut-off (chapter 4): the slot requests. -/

namespace Sys2Proof.Machine

/-- The other slot. -/
def Slot.other : Slot → Slot
  | .a => .b
  | .b => .a

/-- The slot a request acts on: a vessel link's own, or the one the shore names in byte 0 (R185). -/
def slotFor (l : LinkId) (p : Payload) : Option Slot :=
  match linkSlot l with
  | some sl => some sl
  | none => slotOf (u8 p 0)

/-- R77: what an accepted BERTH does, the call number of R159 among it. -/
def openSlot (sl : Slot) (quota : Nat) (s : State) : State :=
  judgeQuota sl (modSlot sl (fun r =>
    { state := .loading, quota := quota, quotaArmed := true, strayCount := 0, call := r.call + 1 }) s)

/-- R77. -/
def berth (p : Payload) (s : State) : Answer :=
  let quota := u16 p 1
  match slotOf (u8 p 0) with
  | some sl =>
    if 8192 < quota then .error .badValue
    else if (s.slot sl).state ≠ .vacant then .error .state
    else if 8192 < quota + (s.slot sl.other).quota then .error .quotaFull
    else .ok (openSlot sl quota s, .ok)
  | none => .error .badValue

/-- A slot's state set. -/
def setSlotState (sl : Slot) (x : SlotState) (s : State) : State :=
  modSlot sl (fun r => { r with state := x }) s

/-- R78. -/
def manifestFinal (sl : Slot) (s : State) : Answer :=
  match (s.slot sl).state with
  | .vacant => .error .notBerthed
  | .closing | .closed => .error .state
  | .final => .ok (s, .ok)
  | .loading => .ok (setSlotState sl .final s, .ok)

/-- R79. -/
def manifestReopen (sl : Slot) (s : State) : Answer :=
  match (s.slot sl).state with
  | .vacant => .error .notBerthed
  | .closing | .closed => .error .state
  | .loading => .ok (s, .ok)
  | .final => .ok (setSlotState sl .loading s, .ok)

/-- R80. -/
def setQuota (p : Payload) (s : State) : Answer :=
  let quota := u16 p 1
  match slotOf (u8 p 0) with
  | some sl =>
    if 8192 < quota then .error .badValue
    else if (s.slot sl).state = .vacant then .error .state
    else if 8192 < quota + (s.slot sl.other).quota then .error .quotaFull
    else if quota < s.entryCount sl then .error .belowUse
    else
      .ok (judgeQuota sl (modSlot sl (fun r => { r with quota := quota, quotaArmed := true }) s), .ok)
  | none => .error .badValue

/-- R82, R83: the slot becomes CLOSING, its WAITING trays are woken whatever their reason, and an
on-loop count of 0 closes it at once (R86). -/
def beginDrain (sl : Slot) (s : State) : State :=
  reportCount sl (wakeWhere sl (fun _ => true) (setSlotState sl .closing s))

/-- R82: ACCEPTED in LOADING and FINAL. -/
def cutOff (l : LinkId) (p : Payload) (s : State) : Answer :=
  match slotFor l p with
  | some sl =>
    match (s.slot sl).state with
    | .vacant => .error (if (linkSlot l).isSome then .notBerthed else .state)
    | .closing | .closed => .error .state
    | .loading | .final =>
      .ok (beginDrain sl s, { accepted := true, clamped := false, payload := [] })
  | none => .error .badValue

/-! ### UNBERTH (R87, R88) -/

/-- R88: what UNBERTH of a slot does to one chute. -/
def Chute.unberth (sl : Slot) (x : Chute) : Chute :=
  match x.group with
  | some g =>
    if g.slot = sl then
      if x.state ≠ .swapping ∧ x.fill = 0 then
        match x.cfg.role with
        | .sort => { x with group := none, released := false, state := .unassigned }
        | .standby =>
          { x with group := none, released := false, tookOver := none, state := .standbyIdle }
        | .stray => { x with released := true }
      else { x with released := true }
    else x
  | none => x

/-- Some chute record differs between two states in a field whose change is a change of it (R131). -/
def State.chuteChanged (before after : State) : Bool :=
  allChutes.any fun c => (after.chute c).judgedFields ≠ (before.chute c).judgedFields

/-- R88: every chute of the slot released and the slot's blocked records removed; the other records are
judged where a chute record has changed (R131); then each standby that has returned to STANDBY_IDLE is
judged for takeover. -/
def releaseChutes (sl : Slot) (s : State) : State :=
  let s0 : State :=
    { s with
      chutes := s.chutes.map (·.unberth sl)
      blocked := s.blocked.filter fun r => r.group.slot != sl }
  let s1 := if s.chuteChanged s0 then judgeBlocked s0 else s0
  (allChutes.filter fun c =>
      (s1.chute c).state = .standbyIdle && (s.chute c).state != .standbyIdle).foldl
    (fun s c => judgeStandby c s) s1

/-- R87 steps 1 to 4: entries, map and quota of the slot cleared, and the slot VACANT. -/
def clearSlot (sl : Slot) (s : State) : State :=
  modSlot sl (fun r => { r with quota := 0, quotaArmed := true, state := .vacant })
    { s with
      pool := s.pool.filter fun e => e.slot != sl
      maps := s.maps.set sl (Vector.replicate 96 .reset) }

/-- R87. -/
def unberth (p : Payload) (s : State) : Answer :=
  match slotOf (u8 p 0) with
  | some sl =>
    if (s.slot sl).state = .closed then .ok (releaseChutes sl (clearSlot sl s), .ok)
    else .error .state
  | none => .error .badValue

/-! ### SHIP STATUS (R91, Table 11-7) -/

/-- SHIP STATUS's 28 bytes. -/
def statusBytes (s : State) (sl : Slot) : List Byte :=
  let r := s.slot sl
  b1 r.state.code ++ b2 r.quota ++ b2 (warningLevel r.quota) ++ bFlag r.quotaArmed
    ++ b2 (s.entryCount sl)
    ++ ([0, 1, 2, 3, 4].flatMap fun code => b2 (s.statusCount sl code))
    ++ b2 (s.lateCount sl) ++ b2 (s.onLoop sl) ++ b2 (s.waiting sl)
    ++ b2 r.strayCount ++ b2 s.freeEntries

/-- R91. -/
def shipStatus (l : LinkId) (p : Payload) (s : State) : Answer :=
  match slotFor l p with
  | some sl => .ok (s, .data (statusBytes s sl))
  | none => .error .badValue

end Sys2Proof.Machine
end

