-- ==== Sys2Proof/Machine/Requests.lean ====
section
/-! DEFINITION. The 43 link requests (Table 11-2): each is taken at its port by the checks of R188 and
then by its owning block's rule. -/

namespace Sys2Proof.Machine

/-- CONFIGURE_LOOP (R1). -/
def execConfigureLoop (l : LinkId) (p : Payload) (s : State) : Out :=
  .next (takeRequest .configureLoop l p (configureLoop p) s)

/-- START_LOOP (R4). -/
def execStartLoop (l : LinkId) (p : Payload) (s : State) : Out :=
  .next (takeRequest .startLoop l p startLoop s)

/-- STOP_LOOP (R8). -/
def execStopLoop (l : LinkId) (p : Payload) (s : State) : Out :=
  .next (takeRequest .stopLoop l p stopLoop s)

/-- RESET_LOOP (R25). -/
def execResetLoop (l : LinkId) (p : Payload) (s : State) : Out :=
  .next (takeRequest .resetLoop l p resetLoop s)

/-- READ_TRAY (R24). -/
def execReadTray (l : LinkId) (p : Payload) (s : State) : Out :=
  .next (takeRequest .readTray l p (readTray p) s)

/-- CONFIGURE_INDUCTION (R27). -/
def execConfigureInduction (l : LinkId) (p : Payload) (s : State) : Out :=
  .next (takeRequest .configureInduction l p (configureInduction p) s)

/-- INDUCTION_RESUME (R29). -/
def execInductionResume (l : LinkId) (p : Payload) (s : State) : Out :=
  .next (takeRequest .inductionResume l p (inductionResume p) s)

/-- READ_INDUCTION (R49). -/
def execReadInduction (l : LinkId) (p : Payload) (s : State) : Out :=
  .next (takeRequest .readInduction l p (readInduction p) s)

/-- SET_WINDOW (R53). -/
def execSetWindow (l : LinkId) (p : Payload) (s : State) : Out :=
  .next (takeRequest .setWindow l p (setWindow p) s)

/-- CLEAR_WINDOW (R54). -/
def execClearWindow (l : LinkId) (p : Payload) (s : State) : Out :=
  .next (takeRequest .clearWindow l p (clearWindow p) s)

/-- READ_WINDOW (R55). -/
def execReadWindow (l : LinkId) (p : Payload) (s : State) : Out :=
  .next (takeRequest .readWindow l p (readWindow p) s)

/-- ADD_BAG (R61). -/
def execAddBag (l : LinkId) (p : Payload) (s : State) : Out :=
  .next (takeRequest .addBag l p (onOwnSlot l fun sl => addBag sl p) s)

/-- WITHDRAW_BAG (R64). -/
def execWithdrawBag (l : LinkId) (p : Payload) (s : State) : Out :=
  .next (takeRequest .withdrawBag l p (onOwnSlot l fun sl => withdrawBag sl p) s)

/-- CHANGE_CABIN (R66). -/
def execChangeCabin (l : LinkId) (p : Payload) (s : State) : Out :=
  .next (takeRequest .changeCabin l p (onOwnSlot l fun sl => changeCabin sl p) s)

/-- READ_BAG (R68). -/
def execReadBag (l : LinkId) (p : Payload) (s : State) : Out :=
  .next (takeRequest .readBag l p (readBag l p) s)

/-- SET_CABIN_RANGE (R70). -/
def execSetCabinRange (l : LinkId) (p : Payload) (s : State) : Out :=
  .next (takeRequest .setCabinRange l p (onOwnSlot l fun sl => setCabinRange sl p) s)

/-- CLEAR_CABIN_RANGE (R72). -/
def execClearCabinRange (l : LinkId) (p : Payload) (s : State) : Out :=
  .next (takeRequest .clearCabinRange l p (onOwnSlot l fun sl => clearCabinRange sl p) s)

/-- READ_CABIN_RANGE (R73). -/
def execReadCabinRange (l : LinkId) (p : Payload) (s : State) : Out :=
  .next (takeRequest .readCabinRange l p (readCabinRange l p) s)

/-- BERTH (R77). -/
def execBerth (l : LinkId) (p : Payload) (s : State) : Out :=
  .next (takeRequest .berth l p (berth p) s)

/-- MANIFEST_FINAL (R78). -/
def execManifestFinal (l : LinkId) (p : Payload) (s : State) : Out :=
  .next (takeRequest .manifestFinal l p (onOwnSlot l manifestFinal) s)

/-- MANIFEST_REOPEN (R79). -/
def execManifestReopen (l : LinkId) (p : Payload) (s : State) : Out :=
  .next (takeRequest .manifestReopen l p (onOwnSlot l manifestReopen) s)

/-- SET_QUOTA (R80). -/
def execSetQuota (l : LinkId) (p : Payload) (s : State) : Out :=
  .next (takeRequest .setQuota l p (setQuota p) s)

/-- CUT_OFF (R82). -/
def execCutOff (l : LinkId) (p : Payload) (s : State) : Out :=
  .next (takeRequest .cutOff l p (cutOff l p) s)

/-- UNBERTH (R87). -/
def execUnberth (l : LinkId) (p : Payload) (s : State) : Out :=
  .next (takeRequest .unberth l p (unberth p) s)

/-- SHIP_STATUS (R91). -/
def execShipStatus (l : LinkId) (p : Payload) (s : State) : Out :=
  .next (takeRequest .shipStatus l p (shipStatus l p) s)

/-- CONFIGURE_CHUTE (R111). -/
def execConfigureChute (l : LinkId) (p : Payload) (s : State) : Out :=
  .next (takeRequest .configureChute l p (configureChute p) s)

/-- ASSIGN_CHUTE (R113). -/
def execAssignChute (l : LinkId) (p : Payload) (s : State) : Out :=
  .next (takeRequest .assignChute l p (assignChute p) s)

/-- RELEASE_CHUTE (R114). -/
def execReleaseChute (l : LinkId) (p : Payload) (s : State) : Out :=
  .next (takeRequest .releaseChute l p (releaseChute p) s)

/-- SWAP_BEGIN (R125). -/
def execSwapBegin (l : LinkId) (p : Payload) (s : State) : Out :=
  .next (takeRequest .swapBegin l p (swapBegin p) s)

/-- SWAP_END (R126). -/
def execSwapEnd (l : LinkId) (p : Payload) (s : State) : Out :=
  .next (takeRequest .swapEnd l p (swapEnd p) s)

/-- SET_BLOCKED_INTERVAL (R133). -/
def execSetBlockedInterval (l : LinkId) (p : Payload) (s : State) : Out :=
  .next (takeRequest .setBlockedInterval l p (setBlockedInterval p) s)

/-- READ_CHUTE (R134). -/
def execReadChute (l : LinkId) (p : Payload) (s : State) : Out :=
  .next (takeRequest .readChute l p (readChute p) s)

/-- RESOLVE_STRAY (R165). -/
def execResolveStray (l : LinkId) (p : Payload) (s : State) : Out :=
  .next (takeRequest .resolveStray l p (resolveStray p) s)

/-- DISCARD_STRAY (R166). -/
def execDiscardStray (l : LinkId) (p : Payload) (s : State) : Out :=
  .next (takeRequest .discardStray l p (discardStray p) s)

/-- READ_STRAY_LIST (R168). -/
def execReadStrayList (l : LinkId) (p : Payload) (s : State) : Out :=
  .next (takeRequest .readStrayList l p (readStrayList l p) s)

/-- READ_STRAY (R169). -/
def execReadStray (l : LinkId) (p : Payload) (s : State) : Out :=
  .next (takeRequest .readStray l p (readStray l p) s)

/-- FETCH_NOTICE (R177). -/
def execFetchNotice (l : LinkId) (p : Payload) (s : State) : Out :=
  .next (takeRequest .fetchNotice l p (fetchNotice l) s)

/-- ACK_GROUP (R179). -/
def execAckGroup (l : LinkId) (p : Payload) (s : State) : Out :=
  .next (takeRequest .ackGroup l p (ackGroup l p) s)

/-- CLEAR_NOTICE (R180). -/
def execClearNotice (l : LinkId) (p : Payload) (s : State) : Out :=
  .next (takeRequest .clearNotice l p (clearNotice l p) s)

/-- SET_NOTICE_ENABLES (R181). -/
def execSetNoticeEnables (l : LinkId) (p : Payload) (s : State) : Out :=
  .next (takeRequest .setNoticeEnables l p (setNoticeEnables l p) s)

/-- SET_CLEAR_MODE (R182). -/
def execSetClearMode (l : LinkId) (p : Payload) (s : State) : Out :=
  .next (takeRequest .setClearMode l p (setClearMode l p) s)

/-- READ_RESET_CAUSE (R192). -/
def execReadResetCause (l : LinkId) (p : Payload) (s : State) : Out :=
  .next (takeRequest .readResetCause l p readResetCause s)

/-- CLEAR_RESET_CAUSE (R192). -/
def execClearResetCause (l : LinkId) (p : Payload) (s : State) : Out :=
  .next (takeRequest .clearResetCause l p clearResetCause s)

end Sys2Proof.Machine
end

