-- ==== Sys2Proof/Machine/Resets.lean ====
section
/-! DEFINITION. Power-on reset, pin reset and the release of RESET_N (R192, R193). -/

namespace Sys2Proof.Machine

/-- A port after a reset: IDLE with an empty request buffer, its select input as it stands (R193). -/
def Port.cleared (x : Port) : Port := { Port.reset with selected := x.selected }

/-- A chute after a reset: its power-on values, its eye input as it stands (R136, log 11). -/
def Chute.cleared (x : Chute) : Chute := { Chute.reset with eye := x.eye }

/-- Every block at its power-on values, with a reset cause (R193). The levels of the input pins, what waits
outside the part and the model's own counter are no block's state and stand. -/
def resetBlocks (cause : ResetCause) (low : Bool) (s : State) : State :=
  { State.reset with
    chutes := s.chutes.map (·.cleared)
    ports :=
      { shore := s.ports.shore.cleared, vesselA := s.ports.vesselA.cleared
        vesselB := s.ports.vesselB.cleared }
    cause := cause
    resetLow := low
    freeCount := s.freeCount
    incoming := s.incoming
    arriving := s.arriving
    pending := s.pending }

/-- POWER_ON_RESET (R192): POWER_ON is set and PIN cleared. -/
def execPowerOnReset (s : State) : Out :=
  .next (resetBlocks { powerOn := true, pin := false } s.resetLow s)

/-- PIN_RESET (R192, R193): PIN is set and POWER_ON stands; RESET_N is low. -/
def execPinReset (s : State) : Out :=
  .next (resetBlocks { powerOn := s.cause.powerOn, pin := true } true s)

/-- RESET_N_RELEASED (R193): the part leaves reset; a select found asserted opens no transaction. -/
def execResetNReleased (s : State) : Out := .next { s with resetLow := false }

end Sys2Proof.Machine
end

