-- ==== Sys2Proof/Machine/Dispatch.lean ====
section
/-! DEFINITION. One arm per command: its meaning. -/

namespace Sys2Proof.Machine

/-- The effect of a command on everything but the queue. -/
def exec (i : Instr) (s : State) : Host.Outcome State Fault Refusal :=
  match i with
  | .powerOnReset => Sys2Proof.Machine.execPowerOnReset s
  | .pinReset => Sys2Proof.Machine.execPinReset s
  | .pitchEvent home check => Sys2Proof.Machine.execPitchEvent home check s
  | .reservationRequest j => Sys2Proof.Machine.execReservationRequest j s
  | .launchWindowExpiry j => Sys2Proof.Machine.execLaunchWindowExpiry j s
  | .stallTimeout => Sys2Proof.Machine.execStallTimeout s
  | .fire => Sys2Proof.Machine.execFire s
  | .tiltPulseEnd c => Sys2Proof.Machine.execTiltPulseEnd c s
  | .confirmWindowEnd c => Sys2Proof.Machine.execConfirmWindowEnd c s
  | .chuteEyeDetection c => Sys2Proof.Machine.execChuteEyeDetection c s
  | .chuteJam c => Sys2Proof.Machine.execChuteJam c s
  | .chuteEyeClear c => Sys2Proof.Machine.execChuteEyeClear c s
  | .hallClockSecond => Sys2Proof.Machine.execHallClockSecond s
  | .bagFrame j tag size => Sys2Proof.Machine.execBagFrame j tag size s
  | .multiFrame j tag tag2 size => Sys2Proof.Machine.execMultiFrame j tag tag2 size s
  | .noreadFrame j size => Sys2Proof.Machine.execNoreadFrame j size s
  | .holdResend j => Sys2Proof.Machine.execHoldResend j s
  | .doneFrame j tray => Sys2Proof.Machine.execDoneFrame j tray s
  | .failFrame j tray => Sys2Proof.Machine.execFailFrame j tray s
  | .lateAnswer j kind tray => Sys2Proof.Machine.execLateAnswer j kind tray s
  | .inductionCharacterFault j bad => Sys2Proof.Machine.execInductionCharacterFault j bad s
  | .badDataCharacter j field value => Sys2Proof.Machine.execBadDataCharacter j field value s
  | .inductionSilenceTimeout j => Sys2Proof.Machine.execInductionSilenceTimeout j s
  | .transmitFrameSent j => Sys2Proof.Machine.execTransmitFrameSent j s
  | .linkSelectReleasedEarly l => Sys2Proof.Machine.execLinkSelectReleasedEarly l s
  | .badCommand l code p => Sys2Proof.Machine.execBadCommand l code p s
  | .configureLoop l p => Sys2Proof.Machine.execConfigureLoop l p s
  | .startLoop l p => Sys2Proof.Machine.execStartLoop l p s
  | .stopLoop l p => Sys2Proof.Machine.execStopLoop l p s
  | .resetLoop l p => Sys2Proof.Machine.execResetLoop l p s
  | .readTray l p => Sys2Proof.Machine.execReadTray l p s
  | .configureInduction l p => Sys2Proof.Machine.execConfigureInduction l p s
  | .inductionResume l p => Sys2Proof.Machine.execInductionResume l p s
  | .readInduction l p => Sys2Proof.Machine.execReadInduction l p s
  | .setWindow l p => Sys2Proof.Machine.execSetWindow l p s
  | .clearWindow l p => Sys2Proof.Machine.execClearWindow l p s
  | .readWindow l p => Sys2Proof.Machine.execReadWindow l p s
  | .addBag l p => Sys2Proof.Machine.execAddBag l p s
  | .withdrawBag l p => Sys2Proof.Machine.execWithdrawBag l p s
  | .changeCabin l p => Sys2Proof.Machine.execChangeCabin l p s
  | .readBag l p => Sys2Proof.Machine.execReadBag l p s
  | .setCabinRange l p => Sys2Proof.Machine.execSetCabinRange l p s
  | .clearCabinRange l p => Sys2Proof.Machine.execClearCabinRange l p s
  | .readCabinRange l p => Sys2Proof.Machine.execReadCabinRange l p s
  | .berth l p => Sys2Proof.Machine.execBerth l p s
  | .manifestFinal l p => Sys2Proof.Machine.execManifestFinal l p s
  | .manifestReopen l p => Sys2Proof.Machine.execManifestReopen l p s
  | .setQuota l p => Sys2Proof.Machine.execSetQuota l p s
  | .cutOff l p => Sys2Proof.Machine.execCutOff l p s
  | .unberth l p => Sys2Proof.Machine.execUnberth l p s
  | .shipStatus l p => Sys2Proof.Machine.execShipStatus l p s
  | .configureChute l p => Sys2Proof.Machine.execConfigureChute l p s
  | .assignChute l p => Sys2Proof.Machine.execAssignChute l p s
  | .releaseChute l p => Sys2Proof.Machine.execReleaseChute l p s
  | .swapBegin l p => Sys2Proof.Machine.execSwapBegin l p s
  | .swapEnd l p => Sys2Proof.Machine.execSwapEnd l p s
  | .setBlockedInterval l p => Sys2Proof.Machine.execSetBlockedInterval l p s
  | .readChute l p => Sys2Proof.Machine.execReadChute l p s
  | .resolveStray l p => Sys2Proof.Machine.execResolveStray l p s
  | .discardStray l p => Sys2Proof.Machine.execDiscardStray l p s
  | .readStrayList l p => Sys2Proof.Machine.execReadStrayList l p s
  | .readStray l p => Sys2Proof.Machine.execReadStray l p s
  | .fetchNotice l p => Sys2Proof.Machine.execFetchNotice l p s
  | .ackGroup l p => Sys2Proof.Machine.execAckGroup l p s
  | .clearNotice l p => Sys2Proof.Machine.execClearNotice l p s
  | .setNoticeEnables l p => Sys2Proof.Machine.execSetNoticeEnables l p s
  | .setClearMode l p => Sys2Proof.Machine.execSetClearMode l p s
  | .readResetCause l p => Sys2Proof.Machine.execReadResetCause l p s
  | .clearResetCause l p => Sys2Proof.Machine.execClearResetCause l p s
  | .inductionFrameOpened j kind => Sys2Proof.Machine.execInductionFrameOpened j kind s
  | .linkSelectAsserted l => Sys2Proof.Machine.execLinkSelectAsserted l s
  | .linkResponseSent l => Sys2Proof.Machine.execLinkResponseSent l s
  | .linkSelectReleased l => Sys2Proof.Machine.execLinkSelectReleased l s
  | .resetNReleased => Sys2Proof.Machine.execResetNReleased s

end Sys2Proof.Machine
end

