-- ==== Sys2Proof/Machine/Timing.lean ====
section
/-! DEFINITION. The part's own clock (R137), the byte clock of the links (R186) and the characters of the
induction lines (R30): what a step does on an empty queue (log 3, 4, 34, 38). The timed events due at the
present tick, and the requests that ports have complete, become commands first; then the byte times that
wait are clocked; then the characters that wait are received; then a tick passes. -/

namespace Sys2Proof.Machine

/-- The fires due at the present tick, in the order of the fire queue (R143, R146). -/
def State.dueFires (s : State) : List Instr :=
  (s.fireQueue.takeWhile fun r => r.due ≤ s.clock.tick).map fun _ => .fire

/-- Whether a chute's tilt pulse is at its end (R145). -/
def Chute.pulseDue (x : Chute) (tick : Nat) : Bool :=
  match x.pulseEnd with
  | some e => e ≤ tick
  | none => false

/-- The timed events of one chute due at the present tick, each a thread of its own: the pulse's end,
the ends of its confirm windows in list order, a jam (R145, R150, R128). -/
def State.dueAt (s : State) (c : ChuteId) : List (List Instr) :=
  let x := s.chute c
  [ if x.pulseDue s.clock.tick then [.tiltPulseEnd c] else [],
    (x.windows.filter fun w => w.endTick ≤ s.clock.tick).map fun _ => .confirmWindowEnd c,
    if x.jamDue s.clock.tick then [.chuteJam c] else [] ]

/-- Every timed event due at the present tick, and every request a port in TAKING holds (R186), as threads
that need no order among themselves (R191). -/
def State.due (s : State) : List (List Instr) :=
  s.dueFires :: (allChutes.flatMap s.dueAt)
    ++ [ if s.stallDue then [.stallTimeout] else [],
         if s.clock.secondAt + 10000 ≤ s.clock.tick then [.hallClockSecond] else [] ]
    ++ allLinks.map s.takenAt

/-- R137: the tick base counts. -/
def tickOn (s : State) : State := { s with clock := { s.clock with tick := s.clock.tick + 1 } }

/-- Some link's partner has a byte time to clock in. -/
def State.bytesWait (s : State) : Bool := allLinks.any fun l => !(s.incoming.get l).isEmpty

/-- The inductions whose station has a character to send, each a thread of its own. -/
def State.charThreads (s : State) : List (List IndId) :=
  (allInds.filter fun i => !(s.arriving.get i).isEmpty).map fun i => [i]

/-- One character received at every induction line that has one, in an order that the manual leaves open
(R191, log 38). -/
def receiveChars (s : State) : State :=
  (merged (Config.freeOrder s.freeCount) s.charThreads).foldl nextChar (drawOrder s)

/-- The block with no command waiting: what is due joins the queue in an order the manual leaves open
(log 2, 4); with nothing due the waiting byte times are clocked, one at each link (log 34), and with none of
those the waiting characters are received, one at each line (log 38); with none waiting a tick passes. While
RESET_N is low the tick base stands and the ports take no clock (R193). -/
def idle (s : State) : State :=
  if s.resetLow then s
  else
    match merged (Config.freeOrder s.freeCount) s.due with
    | c :: r => { drawOrder s with pending := c :: r }
    | [] =>
      if s.bytesWait then clockBytes s
      else if s.charThreads.isEmpty then tickOn s
      else receiveChars s

end Sys2Proof.Machine
end

