-- ==== Sys2Proof/Safety.lean ====
section
/-! DEFINITION. What counts as a sound state: the laws the manual says its tables keep, and the short
names the statements use. -/

namespace Sys2Proof.Machine

/-- The manual's laws of the bag entry pool: at most one entry a tag, each decoding to its own slot
(R57); no entry of a VACANT slot; no slot above its quota, and the two quotas within the pool (R56). -/
def State.manifestLaw (s : State) : Prop :=
  poolSorted s.pool = true ∧
  (∀ e ∈ s.pool, s.decodeSlot e.tag = some e.slot ∧ (s.slot e.slot).state ≠ .vacant) ∧
  (∀ sl, s.entryCount sl ≤ (s.slot sl).quota) ∧
  s.slots.a.quota + s.slots.b.quota ≤ 8192

/-- The units a tray holds committed at a chute: its bag's, while it is SELECTED or ARMED for it. -/
def Tray.heldFor (c : ChuteId) : Tray → Nat
  | .selected b c' _ _ => if c' = c then unitsOf b.size else 0
  | .armed b c' => if c' = c then unitsOf b.size else 0
  | .empty | .reserved _ | .loaded _ | .fired .. | .unconfirmed .. | .suspect => 0

/-- R116: a chute's committed units are the units of the trays SELECTED or ARMED for it. -/
def State.committedLaw (s : State) : Prop :=
  ∀ c, (s.chute c).committed = (s.loop.trays.map (·.heldFor c)).sum

/-- The bounds of the tables: T and P (Table 1-1, R10), home misses (R11), intervals (R138), read
queues (R34), empty in RESYNC (R29, R35), the stored characters of an open frame, all of them good (R30,
R31), confirm lists (R147), the fire queue (R143), blocked records (Table 6-4). -/
def State.boundsLaw (s : State) : Prop :=
  64 ≤ s.T ∧ s.T ≤ 512 ∧ s.loop.pos < s.T ∧ s.loop.homeMiss ≤ 2 ∧ s.loop.intervals.length ≤ 4 ∧
  (∀ i, (s.ind i).queue.length ≤ 4 ∧ ((s.ind i).resync = true → (s.ind i).queue = [])) ∧
  (∀ i k stored, (s.ind i).receiver = .inFrame k stored → stored.length < k.dataLength ∧
    ∀ n v, stored[n]? = some v → k.badAt n v = false) ∧
  (∀ c, (s.chute c).windows.length ≤ 4) ∧
  s.fireQueue.length ≤ 32 ∧ s.blocked.length ≤ 16

/-- R172, R179: a GENERIC source is never flagged, no enable is held for a GENERIC or unconditional
source, and a pending group never stands with its latch clear. -/
def State.noticeLaw (s : State) : Prop :=
  ∀ l g, ((s.notices.get l).flags.get g).getLsbD 0 = false ∧
    (s.notices.get l).enables.get g &&& ~~~ conditionalBits g = 0 ∧
    ((s.notices.get l).pending g = true → (s.notices.get l).latches.get g ≠ .clear)

/-- R153, R154: at most 128 stray entries, no id held by two of them, no tag on two of them. -/
def State.strayLaw (s : State) : Prop :=
  s.strays.length ≤ 128 ∧ (s.strays.map (·.id)).Nodup ∧
  s.strays.Pairwise fun x y => ∀ tag, x.carries tag = true → y.carries tag = false

/-- Table 10-1, R186, R187: a port whose select is released stands IDLE or is still TAKING; the buffer is
empty in IDLE, holds part of a request in RECEIVING and a whole one in TAKING; in ANSWERING a byte has still
to go out. -/
def State.portLaw (s : State) : Prop :=
  ∀ l, ((s.port l).selected = false → (s.port l).state = .idle ∨ (s.port l).state = .taking true) ∧
    ((s.port l).state = .idle → (s.port l).request = []) ∧
    ((s.port l).state = .receiving → wholeRequest (s.port l).request = false) ∧
    (∀ abandoned, (s.port l).state = .taking abandoned → wholeRequest (s.port l).request = true) ∧
    ∀ rest, (s.port l).state = .answering rest → rest ≠ []

/-- R103: the tray of a WAITING bag is LOADED; its record carries its tag and its slot, to which the tag
decodes and which is LOADING or FINAL, and neither an entry link nor a stray id. -/
def State.waitingLaw (s : State) : Prop :=
  ∀ t b, (s.tray t).bag = some b → b.isWaiting = true →
    s.tray t = .loaded b ∧ b.entryLink = none ∧ b.strayId = none ∧
    ∃ tag sl, b.tag = some tag ∧ b.slot = some sl ∧ s.decodeSlot tag = some sl ∧
      ((s.slot sl).state = .loading ∨ (s.slot sl).state = .final)

/-- The laws together. -/
def State.sound (s : State) : Prop :=
  s.manifestLaw ∧ s.committedLaw ∧ s.boundsLaw ∧ s.noticeLaw ∧ s.strayLaw ∧ s.portLaw ∧ s.waitingLaw

/-- A notice source flagged on a link. -/
def State.flagged (s : State) (l : LinkId) (n : Notice) : Bool :=
  ((s.notices.get l).flags.get n.group).getLsbD n.number

/-- A request frame comes whole at a port whose partner is there to hear the answer (R186): in RECEIVING,
or in TAKING with select not released since. -/
def State.hears (s : State) (l : LinkId) (frame : List Byte) : Bool :=
  s.completes l frame && decide ((s.port l).state ≠ .taking true)

/-- A request that its port takes and answers and that passes every check made before its owning block's
own rule (R186, R188, R76). -/
def State.admits (s : State) (k : Command) (l : LinkId) (p : Payload) : Bool :=
  s.hears l (frameBytes k.code p) && (s.linkRefusal k l p).isNone

/-- The rule of the block that owns a command (Table 10-3). -/
def Command.own (k : Command) (l : LinkId) (p : Payload) : State → Answer :=
  match k with
  | .configureLoop => configureLoop p
  | .startLoop => startLoop
  | .stopLoop => stopLoop
  | .resetLoop => resetLoop
  | .readTray => readTray p
  | .configureInduction => configureInduction p
  | .inductionResume => inductionResume p
  | .readInduction => readInduction p
  | .setWindow => setWindow p
  | .clearWindow => clearWindow p
  | .readWindow => readWindow p
  | .addBag => onOwnSlot l fun sl => addBag sl p
  | .withdrawBag => onOwnSlot l fun sl => withdrawBag sl p
  | .changeCabin => onOwnSlot l fun sl => changeCabin sl p
  | .readBag => readBag l p
  | .setCabinRange => onOwnSlot l fun sl => setCabinRange sl p
  | .clearCabinRange => onOwnSlot l fun sl => clearCabinRange sl p
  | .readCabinRange => readCabinRange l p
  | .berth => berth p
  | .manifestFinal => onOwnSlot l manifestFinal
  | .manifestReopen => onOwnSlot l manifestReopen
  | .setQuota => setQuota p
  | .cutOff => cutOff l p
  | .unberth => unberth p
  | .shipStatus => shipStatus l p
  | .configureChute => configureChute p
  | .assignChute => assignChute p
  | .releaseChute => releaseChute p
  | .swapBegin => swapBegin p
  | .swapEnd => swapEnd p
  | .setBlockedInterval => setBlockedInterval p
  | .readChute => readChute p
  | .resolveStray => resolveStray p
  | .discardStray => discardStray p
  | .readStrayList => readStrayList l p
  | .readStray => readStray l p
  | .fetchNotice => fetchNotice l
  | .ackGroup => ackGroup l p
  | .clearNotice => clearNotice l p
  | .setNoticeEnables => setNoticeEnables l p
  | .setClearMode => setClearMode l p
  | .readResetCause => readResetCause
  | .clearResetCause => clearResetCause

/-- A state that holds at the Stray List and the slots what recording a stray leaves there, with the id
recorded (R155 to R158, R90). -/
def recordedAs (q : StrayRequest) (s u : State) (id : Option (BitVec 16)) : Prop :=
  id = (recordStray q s).id ∧ u.strays = (recordStray q s).state.strays ∧
  u.unlisted = (recordStray q s).state.unlisted ∧
  u.nextStrayId = (recordStray q s).state.nextStrayId ∧ u.slots = (recordStray q s).state.slots

/-- A SORT chute in FULL whose group is not released: what a standby takes over (R124). -/
def State.fullGroup (s : State) (c : ChuteId) : Prop :=
  (s.chute c).cfg.role = .sort ∧ (s.chute c).state = .full ∧ (s.chute c).group.isSome = true ∧
  (s.chute c).released = false

/-- An idle standby that covers a chute and can take over (R123). -/
def State.idleCover (s : State) (k c : ChuteId) : Prop :=
  (s.chute k).cfg.role = .standby ∧ (s.chute k).state = .standbyIdle ∧ (s.chute k).jam = false ∧
  (s.chute k).fault = false ∧ c ∈ (s.chute k).cfg.cover

/-- A standby's record once it has taken over a chute with a group (R123). -/
def Chute.takesOver (x : Chute) (c : ChuteId) (g : Option Group) : Chute :=
  { x with group := g, released := false, tookOver := some c, state := .isOpen }

/-- R124: `u` is a state in which a standby, whose record was `x` as it came to be STANDBY_IDLE, has been
judged: it has taken over the lowest-numbered chute of its cover list that is FULL with a group not
released, or stands as it was where there is none, or where it is jammed or faulted. -/
def State.standbyJudged (u : State) (c : ChuteId) (x : Chute) : Prop :=
  (∀ k ∈ x.cfg.cover, x.jam = false → x.fault = false → u.fullGroup k →
    (∀ j ∈ x.cfg.cover, u.fullGroup j → k ≤ j) →
    u.chute c = x.takesOver k (u.chute k).group ∧ u.flagged .shore .standbyTakeover = true) ∧
  (x.jam = true ∨ x.fault = true ∨ (∀ k ∈ x.cfg.cover, ¬ u.fullGroup k) → u.chute c = x)

/-- A state in which nothing but one link's port has changed. -/
def portOnly (l : LinkId) (s t : State) : Prop :=
  t = { s with ports := t.ports } ∧ ∀ k, k ≠ l → t.port k = s.port k

/-- A request answered OK with nothing to return, over the state its effect leaves (R189). -/
def answeredOk (k : Command) (l : LinkId) (p : Payload) (t : State) : State :=
  answering l (frameBytes k.code p) [1, 0, 0, 0] t

/-- A request answered OK with returned bytes (R189). -/
def answeredWith (k : Command) (l : LinkId) (p : Payload) (data : List Byte) (t : State) : State :=
  answering l (frameBytes k.code p) ([1, 0, 0, BitVec.ofNat 8 data.length] ++ data) t

/-- A request refused with a reason, over the state as it was (R188, R189). -/
def refusedWith (k : Command) (l : LinkId) (p : Payload) (r : Reason) (s : State) : State :=
  answering l (frameBytes k.code p) [3, BitVec.ofNat 8 r.code, 0, 0] s

/-- A tray without its selection: SELECTED and ARMED fall back to LOADED (Table 1-3). -/
def Tray.unselected : Tray → Tray
  | .selected b _ _ _ => .loaded b
  | .armed b _ => .loaded b
  | .empty => .empty
  | .reserved i => .reserved i
  | .loaded b => .loaded b
  | .fired b c g => .fired b c g
  | .unconfirmed b c g => .unconfirmed b c g
  | .suspect => .suspect

/-- The induction, kind and read record of a command that is a read frame (R34, Table 2-3). -/
def readFrame : Instr → Option (IndId × FrameKind × ReadRecord)
  | .bagFrame i tag size => some (i, .bag, { reading := .bag tag, size := size })
  | .multiFrame i tag tag2 size => some (i, .multi, { reading := .multi tag tag2, size := size })
  | .noreadFrame i size => some (i, .noread, { reading := .noread, size := size })
  | _ => none

end Sys2Proof.Machine
end

