-- ==== Sys2Proof/Certificates/Slice0/Obligations.lean ====
section
/-! DEFINITION. The statements put to the provers. A statement is stated over every state unless it says
otherwise; a frame is written as an equation: the next state is the old one with only the named fields
replaced. -/

open Sys2Proof Sys2Proof.Machine

/-! ### The block as a machine -/

/-- What the host asks of a block: the command at the front of the queue is taken by `exec`, with the
queue's rest. The queue is the model's (log 25). -/
def Obligations.stepTakesFrontCommand : Prop :=
  ∀ (c : Instr) (r : List Instr) (s : State), s.pending = c :: r →
    step s = exec c { s with pending := r }

/-- THE MODEL'S CHOICE (log 2, 3, 4, 34, 38): the step of an empty queue is the part's own clock (R137), the
byte clock of its links and the characters of its induction lines. The timed events due at the present tick,
and the requests that ports in TAKING have complete, become commands before the tick base moves, all of them,
each thread in its own order, the order among threads free; with none due every partner that has a byte time to clock in clocks one; with none of those
every station that has a character to send sends one, and its receiver takes it, in a free order; with none
waiting the tick base counts one tick; while RESET_N is low it stands (R193). -/
def Obligations.idleStepIsTheClock : Prop :=
  ∀ s : State, s.pending = [] →
    (s.resetLow = true → step s = .next s) ∧
    (s.resetLow = false → s.due.flatten = [] → (∀ l, s.incoming.get l = []) →
      (∀ i, s.arriving.get i = []) →
      step s = .next { s with clock := { s.clock with tick := s.clock.tick + 1 } }) ∧
    (s.resetLow = false → s.due.flatten = [] → ∀ k, s.incoming.get k ≠ [] →
      ∃ t, step s = .next t ∧ t = { s with ports := t.ports, incoming := t.incoming } ∧
        ∀ l, (s.incoming.get l = [] → t.incoming.get l = [] ∧ t.port l = s.port l) ∧
          ∀ v rest, s.incoming.get l = v :: rest →
            t.incoming.get l = rest ∧ t.port l = (s.port l).clockIn (byteOfLevels v)) ∧
    (s.resetLow = false → s.due.flatten = [] → (∀ l, s.incoming.get l = []) →
      ∀ k, s.arriving.get k ≠ [] → ∃ order : List IndId, order.Nodup ∧
        (∀ i, i ∈ order ↔ s.arriving.get i ≠ []) ∧
        step s = .next (order.foldl nextChar { s with freeCount := s.freeCount + 1 })) ∧
    (∀ i, (s.arriving.get i = [] → nextChar s i = s) ∧ ∀ c rest, s.arriving.get i = c :: rest →
      nextChar s i = receiveChar i c { s with arriving := s.arriving.set i rest }) ∧
    (s.resetLow = false → s.due.flatten ≠ [] →
      ∃ q, step s = .next { s with freeCount := s.freeCount + 1, pending := q } ∧
        q.Perm s.due.flatten ∧ ∀ thread ∈ s.due, thread.Sublist q) ∧
    ∀ l abandoned c, (s.port l).state = .taking abandoned →
      decodeRequest l (s.port l).request = some c → [c] ∈ s.due

/-! ### Encodings -/

/-- Every well-formed request, written as its code, length and payload bytes and read back, is itself
(R186, R196, Table 11-2). -/
def Obligations.requestFramesReadBack : Prop :=
  ∀ (i : Instr) (l : LinkId) (bs : List Byte), i.wf = true → encodeRequest i = some (l, bs) →
    decodeRequest l bs = some i

/-- Every induction line frame, written as its kind code and data characters and read back, is itself,
with every tag, size class and tray number (R197, Table 11-9). -/
def Obligations.lineFramesReadBack : Prop :=
  ∀ (i : Instr) (j : IndId) (kind : Byte) (data : List Byte), encodeLineFrame i = some (j, kind, data) →
    decodeLineFrame j kind data = some i

/-- Every record a link returns has the size chapter 11 gives it. -/
def Obligations.returnedRecordsHaveTheirSizes : Prop :=
  ∀ (s : State),
    (∀ w, w.digits.length ≤ 10 → (windowBytes s w).length = 9) ∧
    (∀ r, (rangeBytes r).length = 7) ∧ (causeBytes s).length = 5 ∧
    (∀ r : NoticeRecord, r.fetchNotice.2.length = 5) ∧
    (∀ e, (entryBytes e).length = 18) ∧ (∀ e, (strayBytes e).length = 26) ∧
    (∀ e n, (strayBytes e ++ b1 n).length = 27) ∧
    (∀ v n, (strayListBytes s v n).length = 59) ∧ (∀ t x, (loopHeader s ++ trayBytes t x).length = 61) ∧
    (∀ c, (chuteBytes s c).length = 149) ∧ (∀ sl, (statusBytes s sl).length = 28) ∧
    (∀ i, (inductionBytes s i).length = 68)

/-! ### Resets (R192, R193) -/

/-- R26, R51, R75, R136 in whole, over both resets that bring the power-on values; the reset cause flags
follow each. -/
def Obligations.resetsLeavePowerOnValues : Prop :=
  ∀ s : State, ∃ t u, exec .powerOnReset s = .next t ∧ exec .pinReset s = .next u ∧
    t.cause = { powerOn := true, pin := false } ∧
    u.cause = { powerOn := s.cause.powerOn, pin := true } ∧ u.resetLow = true ∧
    ∀ v, v = t ∨ v = u →
      (v.loop.state = .stopped ∧ v.loop.pos = 0 ∧ v.loop.trays = List.replicate 256 .empty ∧
        v.loop.cfg = ⟨3750, 20000, 224, 192, 3, 2, 0, 200, 400, 600⟩ ∧
        v.period = 3750 ∧ v.periodMark = 0 ∧ v.loop.measured = 0 ∧ v.loop.homeMiss = 0 ∧ v.occupancy = 0 ∧
        (∀ sl, v.onLoop sl = 0 ∧ v.waiting sl = 0) ∧ v.loop.hold = false ∧ v.loop.stallFrom = none) ∧
      (∀ i, (v.ind i).offset = 0 ∧ (v.ind i).n = 4 ∧ (v.ind i).w = 16 ∧ (v.ind i).enabled = false ∧
        (v.ind i).queue = [] ∧ (v.ind i).queueHold = false ∧ (v.ind i).resync = false ∧
        (v.ind i).reservation = .none ∧ (v.ind i).waitCount = 0 ∧ (v.ind i).resendCount = 0 ∧
        (v.ind i).windows = [] ∧ (v.ind i).receiver = .idle ∧ (v.ind i).sending = none ∧
        (v.ind i).waiting = [] ∧ v.heldCauses i = [false, false, false, true, true] ∧ v.barred i = true) ∧
      ((∀ tag, v.decode tag = none) ∧
        (∀ n, v.tagWindows.get n = { digits := [], target := .slotA } ∧
          v.windowServes (v.tagWindows.get n) = false ∧
          v.windowInUse (v.tagWindows.get n) = false) ∧
        v.pool = [] ∧ (∀ sl, v.entryCount sl = 0 ∧ (v.slot sl).quota = 0 ∧ (v.slot sl).state = .vacant) ∧
        v.freeEntries = 8192 ∧
        (∀ sl n, (v.maps.get sl).get n = { valid := false, first := 0, last := 0, deck := 0, zone := 0 }) ∧
        ∀ sl cabin, v.lookup sl cabin = none) ∧
      ((∀ c, (v.chute c).state = .disabled ∧
        (v.chute c).cfg = ⟨.sort, 0, .left, 1000, 300, 3000, 30000, 40, 32, []⟩ ∧
        (v.chute c).group = none ∧ (v.chute c).released = false ∧ (v.chute c).tookOver = none ∧
        (v.chute c).fill = 0 ∧ (v.chute c).committed = 0 ∧ (v.chute c).jam = false ∧
        (v.chute c).fault = false ∧ (v.chute c).failures = 0 ∧ (v.chute c).gen = 0 ∧
        (v.chute c).windows = [] ∧ (v.chute c).occludedFrom = none) ∧
        v.blocked = [] ∧ v.blockedN = 4 ∧ v.strayArmed = true)

/-- What else R152, R170, R184 and R193 give both resets: no fire, no pulse, clocks at 0, no stray, every
notice record clear and its line released, every port IDLE with an empty buffer; the levels of the input
pins stand (log 11), and so do the waiting commands. -/
def Obligations.resetsEndTransactionsAndClearLists : Prop :=
  ∀ (s : State) (c : Instr), c = .powerOnReset ∨ c = .pinReset → ∃ t, exec c s = .next t ∧
    t.fireQueue = [] ∧ (∀ k, t.tiltOutput k = false ∧ (t.chute k).eye = (s.chute k).eye) ∧
    t.loop.intervals = [] ∧ t.clock = { tick := 0, secondAt := 0, seconds := 0 } ∧
    t.strays = [] ∧ t.unlisted = 0 ∧ t.nextStrayId = 0 ∧
    (∀ sl, (t.slot sl).call = 0 ∧ (t.slot sl).strayCount = 0 ∧ (t.slot sl).quotaArmed = true) ∧
    (∀ l, t.notices.get l = NoticeRecord.reset ∧ t.attention l = false ∧
      t.port l = { state := .idle, selected := (s.port l).selected, request := [] }) ∧
    t.pending = s.pending

/-! ### The link ports (chapter 10) -/

/-- R186, R187, R194: select opens a transaction on an IDLE port; the bytes clocked in are stored until the
request is whole, most significant bit first; a request whose select was released in TAKING is taken and its
response discarded, and the port is IDLE then, or RECEIVING if select stands asserted again; the response goes
out byte by byte, and the last byte ends it; the release of select closes the transaction, in ENDED or early,
and nothing else changes. R193: a select asserted while RESET_N is low opens no transaction, then or at the
release of RESET_N; the partner releases it and asserts it again. -/
def Obligations.portEventsMoveOnePort : Prop :=
  (∀ (l : LinkId) (s : State),
    (s.resetLow = false → s.port l = { state := .idle, selected := false, request := (s.port l).request } →
      ∃ t, exec (.linkSelectAsserted l) s = .next t ∧ portOnly l s t ∧
        t.port l = { state := .receiving, selected := true, request := [] }) ∧
    (∀ rsp, (s.port l).state = .answering rsp → ∃ t, exec (.linkResponseSent l) s = .next t ∧
      portOnly l s t ∧ t.port l = { s.port l with state := .ended }) ∧
    ((s.port l).selected = true → (s.port l).state = .ended → ∃ t,
      exec (.linkSelectReleased l) s = .next t ∧ portOnly l s t ∧
        t.port l = { state := .idle, selected := false, request := [] }) ∧
    ((s.port l).selected = true → (s.port l).state ≠ .ended → (∀ a, (s.port l).state ≠ .taking a) → ∃ t,
      exec (.linkSelectReleasedEarly l) s = .next t ∧ portOnly l s t ∧
        t.port l = { state := .idle, selected := false, request := [] }) ∧
    (∀ a, (s.port l).state = .taking a →
      ((s.port l).selected = true → ∃ t, exec (.linkSelectReleasedEarly l) s = .next t ∧
        portOnly l s t ∧ t.port l = { s.port l with state := .taking true, selected := false }) ∧
      ((s.port l).selected = false → ∃ t, exec (.linkSelectAsserted l) s = .next t ∧
        portOnly l s t ∧ t.port l = { s.port l with selected := true })) ∧
    (s.resetLow = false → (s.port l).state = .taking true →
      let reopened : Port :=
        { state := if (s.port l).selected then .receiving else .idle
          selected := (s.port l).selected, request := [] }
      (∀ (k : Command) p, (s.port l).request = frameBytes k.code p →
        exec (Instr.ofRequest l k p) s = .next (setPort l reopened
          (match s.answerTo k l p (Command.own k l p) with
            | .ok (t, _) => t
            | .error _ => s))) ∧
      ∀ code p, unknownCode code = true → (s.port l).request = frameBytes code p →
        exec (.badCommand l code p) s = .next (setPort l reopened s)) ∧
    ∃ t u v w, exec .pinReset s = .next t ∧ exec (.linkSelectAsserted l) t = .next u ∧
      (u.port l).state = .idle ∧ exec .resetNReleased u = .next v ∧ v = { u with resetLow := false } ∧
      exec (.linkSelectAsserted l) v = .next v ∧ exec (.linkSelectReleased l) v = .next w ∧
      w.port l = { state := .idle, selected := false, request := [] }) ∧
  (∀ (selected : Bool) (code : Byte) (p : Payload), p.length ≤ 255 →
    let clocked := fun (bytes : List Byte) =>
      bytes.foldl (fun (x : Port) b => x.clockIn b) ⟨.receiving, selected, []⟩
    clocked (frameBytes code p) = ⟨.taking false, selected, frameBytes code p⟩ ∧
    ∀ bytes rest, frameBytes code p = bytes ++ rest → rest ≠ [] →
      clocked bytes = ⟨.receiving, selected, bytes⟩) ∧
  (∀ (x : Port) (b : Byte),
    (x.state = .idle ∨ x.state = .ended ∨ (∃ a, x.state = .taking a) → x.clockIn b = x) ∧
    (∀ c d rest, x.state = .answering (c :: d :: rest) →
      x.byteOut = some c ∧ x.clockIn b = { x with state := .answering (d :: rest) }) ∧
    (∀ c, x.state = .answering [c] → x.byteOut = some c ∧ x.clockIn b = { x with state := .ended }) ∧
    (x.state = .idle → x.byteOut = none) ∧
    (x.state = .receiving ∨ (∃ a, x.state = .taking a) → x.byteOut = some 0) ∧
    (x.state = .ended → x.byteOut = some 255)) ∧
  ∀ (v : ByteTime) (b : Byte) (k : Fin 8), (byteOfLevels v).getLsbD (7 - k.val) = v.get k ∧
    (levelsOfByte b).get k = b.getLsbD (7 - k.val)

/-- R188, R76: the checks before the owning block's rule, in their order, for every command on every
link: an unknown code, a wrong length, a role that may not send it, a vessel link whose slot is VACANT.
Each refusal leaves everything but the port as it was. -/
def Obligations.linkChecksRefuseInOrder : Prop :=
  ∀ (l : LinkId) (p : Payload) (s : State),
    (∀ code, s.hears l (frameBytes code p) = true → unknownCode code = true →
      exec (.badCommand l code p) s = .next (answering l (frameBytes code p) [3, 1, 0, 0] s)) ∧
    ∀ k : Command, s.hears l (frameBytes k.code p) = true →
      (p.length ≠ Command.length k l →
        exec (Instr.ofRequest l k p) s = .next (answering l (frameBytes k.code p) [3, 2, 0, 0] s)) ∧
      (p.length = Command.length k l → permitted k l = false →
        exec (Instr.ofRequest l k p) s = .next (answering l (frameBytes k.code p) [3, 3, 0, 0] s)) ∧
      (p.length = Command.length k l → permitted k l = true → takenVacant k = false →
        (∃ sl, linkSlot l = some sl ∧ (s.slot sl).state = .vacant) →
        exec (Instr.ofRequest l k p) s = .next (answering l (frameBytes k.code p) [3, 6, 0, 0] s))

/-- R186, R188, R189: every request that comes whole at a port whose partner is there is answered
in its own step; ACCEPTED is the answer of CUT OFF alone, and every other accepted command is answered OK; a
request answered REFUSED leaves everything but its port as it was. -/
def Obligations.everyRequestIsAnswered : Prop :=
  ∀ (k : Command) (l : LinkId) (p : Payload) (s : State), s.hears l (frameBytes k.code p) = true →
    ∃ t status rest, exec (Instr.ofRequest l k p) s = .next t ∧
      (t.port l).state = .answering (status :: rest) ∧
      (status = 3 ∨ (k = .cutOff ∧ status = 2) ∨ (k ≠ .cutOff ∧ status = 1)) ∧
      (status = 3 → t = { s with ports := t.ports } ∧ (∀ m, m ≠ l → t.port m = s.port m) ∧
        t.port l = { s.port l with
          state := .answering (3 :: rest), request := frameBytes k.code p })

/-! ### The laws of the tables (R56, R57, R116, R143, R153, R154, R172, R186) -/

/-- The laws of the tables hold right after reset. -/
def Obligations.lawsHoldAtReset : Prop := State.reset.sound

/-- R56, R57: every step keeps the manifest law: one entry a tag, each entry decoding to its own slot, no
entry of a VACANT slot, no slot above its quota, and the quotas within the pool. That the decodes stay is
what the window tests of R53 and R54 are for. -/
def Obligations.everyStepKeepsTheManifestLaw : Prop :=
  ∀ s t : State, s.manifestLaw → step s = .next t → t.manifestLaw

/-- R116: every step keeps a chute's committed units equal to the units of the trays SELECTED or ARMED for
it. -/
def Obligations.everyStepKeepsCommittedUnits : Prop :=
  ∀ s t : State, s.committedLaw → step s = .next t → t.committedLaw

/-- Every step keeps the sizes and bounds of the tables; R30, R31: an open frame has a data character still to
come, and those stored are good at their places. -/
def Obligations.everyStepKeepsTheBounds : Prop :=
  ∀ s t : State, s.boundsLaw → step s = .next t → t.boundsLaw

/-- R172, R175, R186, R187: every step keeps GENERIC unflagged, the enables of GENERIC and unconditional
sources off, and no pending group with a clear latch; and every port whose select is released IDLE or still
TAKING, its buffer empty in IDLE, part of a request in RECEIVING and a whole one in TAKING. -/
def Obligations.everyStepKeepsTheNoticeAndPortLaws : Prop :=
  ∀ s t : State, step s = .next t →
    (s.noticeLaw → t.noticeLaw) ∧ (s.portLaw → t.portLaw)

/-- R153, R154: every step keeps at most 128 stray entries, no id on two of them, no tag on two of them. -/
def Obligations.everyStepKeepsTheStrayLaw : Prop :=
  ∀ s t : State, s.strayLaw → step s = .next t → t.strayLaw

/-- R103, R85: every step keeps a WAITING bag on a LOADED tray, with its tag and the slot it decodes to, the
slot in LOADING or FINAL. -/
def Obligations.everyStepKeepsTheWaitingLaw : Prop :=
  ∀ s t : State, s.waitingLaw → step s = .next t → t.waitingLaw

/-! ### The loop (chapter 1) -/

/-- R5, R7, R8, R10, R11, R138: what a pitch event does to the loop itself when home and P agree, and what
it leaves alone. In STOPPED the edge is ignored. R9, R17, R37, R40, R41, R46, R141: launch windows count down,
then come the acts of the other blocks, each once: the claim check of each induction, the grant, the
reconciliation of tray P, the arm event of each tray SELECTED with its arm position at its offset, and at a
first pitch event the re-selection of the other LOADED trays that do not wait, from the highest offset to the
lowest; HOLD and RESUME follow each change of a hold cause. THE MODEL'S CHOICES: the windows that end close
before the acts (log 35); the trays selected anew are those LOADED before any act (log 15); HOLD and RESUME
join behind an act's LAUNCH (log 13). The order of the acts is free (log 1). -/
def Obligations.pitchEventMovesTheLoop : Prop :=
  (∀ (home check : Bool) (s : State),
    (s.loop.state = .stopped →
      exec (.pitchEvent home check) s = .next { s with freeCount := s.freeCount + 1 }) ∧
    (s.loop.state ≠ .stopped → home = false ∨ (s.loop.pos + 1) % s.T = 0 →
      ∃ t, exec (.pitchEvent home check) s = .next t ∧
        t.loop.pos = (s.loop.pos + 1) % s.T ∧ t.T = s.T ∧ t.loop.cfg = s.loop.cfg ∧
        t.loop.pitchTime = some s.clock.tick ∧ t.loop.stallFrom = some s.clock.tick ∧
        (s.loop.state = .stalled →
          t.loop.state = .starting ∧ t.loop.measured = 0 ∧ t.loop.intervals = []) ∧
        (s.loop.state ≠ .stalled → s.loop.pitchTime = none →
          t.loop.state = s.loop.state ∧ t.loop.measured = s.loop.measured ∧
          t.loop.intervals = s.loop.intervals) ∧
        (∀ earlier, s.loop.state ≠ .stalled → s.loop.pitchTime = some earlier →
          t.loop.intervals =
            (if s.loop.intervals.length < 4 then s.loop.intervals else s.loop.intervals.tail)
              ++ [max 1 (min 65535 (s.clock.tick - earlier))] ∧
          (s.loop.state = .running → t.loop.state = .running) ∧
          (s.loop.state = .starting → t.loop.measured = s.loop.measured + 1 ∧
            t.loop.state = if 4 ≤ s.loop.measured + 1 then .running else .starting)) ∧
        ((s.loop.pos + 1) % s.T ≠ 0 → t.loop.homeMiss = s.loop.homeMiss) ∧
        ((s.loop.pos + 1) % s.T = 0 → home = true → t.loop.homeMiss = 0) ∧
        ((s.loop.pos + 1) % s.T = 0 → home = false →
          (s.loop.homeMiss < 2 → t.loop.homeMiss = s.loop.homeMiss + 1) ∧
          (s.loop.homeMiss = 1 → t.flagged .shore .homeMissing = true)) ∧
        t.clock = s.clock ∧ t.tagWindows = s.tagWindows ∧ t.maps = s.maps ∧ t.ports = s.ports ∧
        t.cause = s.cause ∧ t.blockedN = s.blockedN ∧ t.resetLow = s.resetLow ∧ t.pending = s.pending ∧
        t.incoming = s.incoming ∧ t.arriving = s.arriving ∧ t.freeCount = s.freeCount + 1 ∧
        (∀ sl, (t.slot sl).quota = (s.slot sl).quota ∧ (t.slot sl).call = (s.slot sl).call) ∧
        (∀ i, (t.ind i).offset = (s.ind i).offset ∧ (t.ind i).enabled = (s.ind i).enabled ∧
          (t.ind i).receiver = (s.ind i).receiver) ∧
        (∀ c, (t.chute c).cfg = (s.chute c).cfg ∧ (t.chute c).eye = (s.chute c).eye) ∧
        ∃ (s1 : State) (acts : List PitchAct),
          t = acts.foldl (fun u act => settleHolds u (match act with
            | .claim i => claimCheck s.loop.hold i u
            | .grant => grantReservation u
            | .reconcile => reconcile ((s.loop.pos + 1) % s.T) check u
            | .arm k => armTray k u
            | .reselect k => passToSelection k u)) s1 ∧
          s1 = { s with
            freeCount := s.freeCount + 1, loop := s1.loop, inds := s1.inds, notices := s1.notices } ∧
          s1.loop = { t.loop with trays := s1.loop.trays, hold := s.loop.hold } ∧ s1.T = s.T ∧
          (∀ i, (s1.ind i).windows =
            ((s.ind i).windows.map fun w => { w with left := w.left - 1 }).filter fun w => w.left ≠ 0) ∧
          (∀ k, ((∃ i, ∃ w ∈ (s.ind i).windows, w.tray = k ∧ w.left ≤ 1) →
              s1.tray k = (s.tray k).mapBag fun b => { b with launchConfirmed := true }) ∧
            ((∀ i, ∀ w ∈ (s.ind i).windows, w.tray = k → 1 < w.left) → s1.tray k = s.tray k)) ∧
          acts.Nodup ∧ (∀ i, .claim i ∈ acts) ∧ .grant ∈ acts ∧ .reconcile ∈ acts ∧
          (∀ k, .arm k ∈ acts ↔ k < s.T ∧ ∃ b c d, s.tray k = .selected b c (t.offsetOf k) d) ∧
          (∀ k, .reselect k ∈ acts ↔ (s.loop.state = .stalled ∨ s.loop.pitchTime = none) ∧ k < s.T ∧
            k ≠ t.loop.pos ∧ ∃ b, s.tray k = .loaded b ∧ b.isWaiting = false) ∧
          ∀ pre mid post j k, acts = pre ++ .reselect j :: mid ++ .reselect k :: post →
            t.offsetOf k < t.offsetOf j)) ∧
  ∀ (v u : State), settleHolds v u = { u with inds := (settleHolds v u).inds } ∧
    ∀ i, (settleHolds v u).ind i =
      if v.held i = u.held i then u.ind i
      else if u.held i = true then { (u.ind i).send .hold with resendCount := 0 }
      else (u.ind i).send .resume

/-- R12, R41, R18, R23: a track slip, where home is high and the advanced P is not 0. Every tray with a bag
becomes SUSPECT and its ON_LOOP entry UNTRACKED, the fire queue and every launch window go, and tray 0 is
settled by the check eye. -/
def Obligations.trackSlipSuspectsEveryBag : Prop :=
  ∀ (check : Bool) (s : State), s.loop.state ≠ .stopped → 0 < s.T → (s.loop.pos + 1) % s.T ≠ 0 →
    ∃ t, exec (.pitchEvent true check) s = .next t ∧
      t.loop.pos = 0 ∧ t.loop.homeMiss = 0 ∧ t.T = s.T ∧ t.fireQueue = [] ∧
      (∀ i, (t.ind i).windows = []) ∧
      (∀ k, 0 < k → t.tray k = if (s.tray k).bag.isSome then .suspect else s.tray k) ∧
      (check = false → t.tray 0 = match s.tray 0 with
        | .reserved i => .reserved i
        | _ => .empty) ∧
      (check = true → ∃ id, t.tray 0 = .loaded { orphanBag with strayId := id } ∨
        ∃ c a d, t.tray 0 = .selected { orphanBag with strayId := id } c a d) ∧
      (∀ k b tag e, (s.tray k).bag = some b → b.entryLink = some tag → s.entry tag = some e →
        e.status.isOnLoop = true → t.entry tag = some { e with status := .untracked }) ∧
      t.flagged .shore .trackSlip = true ∧
      (∀ sl, 0 < s.onLoop sl → t.flagged (slotLink sl) .bagUntracked = true)

/-- R6, R37: a stall. Every SELECTED and ARMED tray falls back to LOADED, the fire queue goes, STALL is
raised, and an induction that was not held sends HOLD. -/
def Obligations.stallTimeoutEntersStalled : Prop :=
  ∀ (s : State) (t0 : Nat), s.loop.state = .starting ∨ s.loop.state = .running →
    s.loop.stallFrom = some t0 → t0 + s.loop.cfg.stallTimeout ≤ s.clock.tick →
    ∃ t, exec .stallTimeout s = .next t ∧
      t = { s with
        loop := t.loop, inds := t.inds, chutes := t.chutes, blocked := t.blocked
        strayArmed := t.strayArmed, fireQueue := [], notices := t.notices } ∧
      t.loop = { s.loop with state := .stalled, stallFrom := none, trays := t.loop.trays } ∧
      t.T = s.T ∧ (∀ k, t.tray k = (s.tray k).unselected) ∧ t.flagged .shore .stall = true ∧
      ∀ i, t.ind i =
        if s.held i then s.ind i else { (s.ind i).send .hold with resendCount := 0 }

/-- R17 to R23, Table 1-5: how the check eye settles a tray, row by row; R102, R105: a bag beyond the
recirculation limit becomes a stray, and the wait of a WAITING bag is judged. A tray with an open launch window
has it closed first, its launch confirmed, and is then settled by its row as one without. THE MODEL'S CHOICES:
of several windows of the chute that name a FIRED tray the last is its own (log 17); units returned from a fill
below them leave 0 (log 37). -/
def Obligations.checkEyeSettlesEachRow : Prop :=
  (∀ (t : Nat) (eye : Bool) (s : State), t < s.T → (∃ i, ∃ w ∈ (s.ind i).windows, w.tray = t) →
    ∃ u, reconcile t eye s = reconcile t eye u ∧
      u = { s with
        inds := u.inds
        loop := { s.loop with trays := s.loop.trays.set t ((s.tray t).mapBag fun b =>
          { b with launchConfirmed := true }) } } ∧
      ∀ i, u.ind i = { s.ind i with windows := (s.ind i).windows.filter fun w => w.tray ≠ t }) ∧
  ∀ (t : Nat) (s : State), t < s.T → (∀ i, ∀ w ∈ (s.ind i).windows, w.tray ≠ t) →
    ((s.tray t = .empty ∨ ∃ i, s.tray t = .reserved i) →
      reconcile t false s = s ∧
      (reconcile t true s).flagged .shore .orphanBag = true) ∧
    ((s.tray t = .empty ∨ (∃ i, s.tray t = .reserved i) ∨ s.tray t = .suspect) →
      ∃ id, (reconcile t true s).tray t = .loaded { orphanBag with strayId := id } ∨
        ∃ c a d, (reconcile t true s).tray t = .selected { orphanBag with strayId := id } c a d) ∧
    (s.tray t = .suspect → (reconcile t false s).tray t = .empty) ∧
    (∀ b, s.tray t = .loaded b →
      (∃ b', ((reconcile t true s).tray t).bag = some b' ∧ b'.passes = min 8 (b.passes + 1) ∧
        b'.source = b.source ∧ b'.size = b.size ∧ b'.tag = b.tag ∧
        (s.loop.cfg.limit < b'.passes → b'.isStray = true)) ∧
      (reconcile t false s).tray t = .empty ∧ (reconcile t false s).flagged .shore .lostBag = true ∧
      (∀ tag e, b.entryLink = some tag → s.entry tag = some e → e.status.isOnLoop = true →
        (reconcile t false s).entry tag = some { e with status := .untracked })) ∧
    (∀ b tag sl, s.tray t = .loaded b → b.cls = .waiting .unknownTag → b.tag = some tag →
      b.tag2 = none → b.slot = some sl → s.decodeSlot tag = some sl → (s.slot sl).state = .loading →
      s.entryIn sl tag = none →
      (s.loop.cfg.matchWait < min 8 (b.passes + 1) →
        (∃ b', ((reconcile t true s).tray t).bag = some b' ∧ b'.cls = .stray .unknownTag) ∧
        (reconcile t true s).flagged (slotLink sl) .waitExpired = true) ∧
      (min 8 (b.passes + 1) ≤ s.loop.cfg.matchWait → min 8 (b.passes + 1) ≤ s.loop.cfg.limit →
        (reconcile t true s).tray t =
          .loaded { b with passes := min 8 (b.passes + 1), strayId := none, entryLink := none })) ∧
    (∀ b c g, s.tray t = .unconfirmed b c g →
      (∃ b', ((reconcile t true s).tray t).bag = some b' ∧ b'.passes = min 8 (b.passes + 1)) ∧
      ((reconcile t true s).chute c).failures =
        (if 3 ≤ (s.chute c).failures then (s.chute c).failures else (s.chute c).failures + 1) ∧
      ((s.chute c).failures = 2 → ((reconcile t true s).chute c).fault = true) ∧
      ((reconcile t true s).chute c).fill =
        (if (s.chute c).gen = g then (s.chute c).fill - unitsOf b.size else (s.chute c).fill) ∧
      (reconcile t false s).tray t = .empty ∧ (reconcile t false s).chutes = s.chutes ∧
      (reconcile t false s).flagged .shore .unconfirmedSort = true ∧
      ∀ tag e, b.entryLink = some tag → s.entry tag = some e → e.status.isOnLoop = true →
        ((reconcile t false s).entry tag).map (·.status) =
          some (.sorted c s.clock.seconds true)) ∧
    (∀ b c g eye pre w post, s.tray t = .fired b c g → (s.chute c).windows = pre ++ w :: post →
      w.tray = t → (∀ v ∈ post, v.tray ≠ t) →
      reconcile t eye s = reconcile t eye { s with
        chutes := s.chutes.set c { s.chute c with windows := pre ++ post }
        loop := { s.loop with trays := s.loop.trays.set t (.unconfirmed b c g) } }) ∧
    ∀ b c eye, s.tray t = .armed b c → ∃ u, reconcile t eye s = reconcile t eye u ∧
      u = { s with
        chutes := s.chutes.set c { s.chute c with committed := (s.chute c).committed - unitsOf b.size }
        loop := { s.loop with trays := s.loop.trays.set t (.loaded b) }
        fireQueue := s.fireQueue.filter fun r => r.tray ≠ t
        blocked := u.blocked, strayArmed := u.strayArmed, notices := u.notices } ∧
      u.flagged .shore .armDropped = true ∧ (reconcile t eye s).flagged .shore .armDropped = true

/-! ### Classification and selection (chapters 5 and 6) -/

/-- R52, R69: the decode takes the longest matching window, and the lookup the range that holds the cabin;
with no match the answers are NONE and UNMAPPED. -/
def Obligations.decodeTakesTheLongestMatch : Prop :=
  ∀ (s : State) (tag : Tag) (sl : Slot) (cabin : Nat),
    (∀ n, (s.tagWindows.get n).isMatch tag = true →
      (∀ m, m ≠ n → (s.tagWindows.get m).isMatch tag = true →
        (s.tagWindows.get m).digits.length < (s.tagWindows.get n).digits.length) →
      s.decode tag = some (s.tagWindows.get n).target) ∧
    (s.decode tag = none ↔ ∀ n, (s.tagWindows.get n).isMatch tag = false) ∧
    (∀ n, ((s.maps.get sl).get n).valid = true → ((s.maps.get sl).get n).first ≤ cabin →
      cabin ≤ ((s.maps.get sl).get n).last →
      (∀ m, m ≠ n → ¬ (((s.maps.get sl).get m).valid = true ∧ ((s.maps.get sl).get m).first ≤ cabin ∧
        cabin ≤ ((s.maps.get sl).get m).last)) →
      s.lookup sl cabin =
        some ⟨sl, ((s.maps.get sl).get n).deck, ((s.maps.get sl).get n).zone⟩) ∧
    (s.lookup sl cabin = none ↔ ∀ n, ¬ (((s.maps.get sl).get n).valid = true ∧
      ((s.maps.get sl).get n).first ≤ cabin ∧ cabin ≤ ((s.maps.get sl).get n).last))

/-- R94 to R100, Table 5-1: the seven steps for a LOADED tray whose record carries no slot yet: the class
each gives, the slot the record takes, the entry that a routed bag links, and what the Stray List records:
of a stray its cause, tags, slot and cabin (Table 8-1), of a routed bag its earlier stray entry, REINDUCTED
(R162). R90, R154 to R158: recording a stray counts it for its slot; it re-strays the entry that carries its
first tag, or else its second; it appends an entry with the next free id, with NEW_STRAY; on a full list it
counts the bag unlisted, with STRAY_LIST_FULL. -/
def Obligations.classificationFollowsTheSteps : Prop :=
  (∀ (t : Nat) (b : BagRecord) (s : State), s.tray t = .loaded b → b.slot = none →
    ∃ b' id, (classify t s).state.tray t = .loaded b' ∧
      (b.tag = none → b' = { b with cls := .stray .noRead, strayId := id, entryLink := none } ∧
        recordedAs ⟨.noRead, none, none, none, none⟩ s (classify t s).state id) ∧
      (∀ tag tag2, b.tag = some tag → b.tag2 = some tag2 → tag2 ≠ tag →
        b' = { b with cls := .stray .multiRead, strayId := id, entryLink := none } ∧
        recordedAs ⟨.multiRead, some tag, some tag2, none, none⟩ s (classify t s).state id) ∧
      ∀ tag, b.tag = some tag → b.tag2 = none ∨ b.tag2 = some tag →
        (s.decodeSlot tag = none →
          b' = { b with tag2 := none, cls := .stray .foreignTag, strayId := id, entryLink := none } ∧
          recordedAs ⟨.foreignTag, some tag, none, none, none⟩ s (classify t s).state id) ∧
        ∀ sl, s.decodeSlot tag = some sl →
          ((s.slot sl).state = .vacant →
            b' = { b with tag2 := none, cls := .stray .noShip, strayId := id, entryLink := none } ∧
            recordedAs ⟨.noShip, some tag, none, some sl, none⟩ s (classify t s).state id) ∧
          ((s.slot sl).state = .closed →
            b' = { b with tag2 := none, cls := .stray .shipClosed, strayId := id, entryLink := none } ∧
            recordedAs ⟨.shipClosed, some tag, none, some sl, (s.entryIn sl tag).map (·.cabin)⟩ s
              (classify t s).state id) ∧
          ((s.slot sl).state = .closing →
            b' = { b with
              tag2 := none, slot := some sl, cls := .stray .shipClosed, strayId := id
              entryLink := none } ∧
            recordedAs ⟨.shipClosed, some tag, none, some sl, (s.entryIn sl tag).map (·.cabin)⟩ s
              (classify t s).state id) ∧
          ((s.slot sl).state = .loading → s.entryIn sl tag = none →
            b' = { b with
              tag2 := none, slot := some sl, cls := .waiting .unknownTag, strayId := none
              entryLink := none } ∧
            (classify t s).state = { s with loop := (classify t s).state.loop }) ∧
          ((s.slot sl).state = .final → s.entryIn sl tag = none →
            b' = { b with
              tag2 := none, slot := some sl, cls := .stray .unknownTag, strayId := id
              entryLink := none } ∧
            recordedAs ⟨.unknownTag, some tag, none, some sl, none⟩ s (classify t s).state id) ∧
          ∀ e, (s.slot sl).state = .loading ∨ (s.slot sl).state = .final → s.entryIn sl tag = some e →
            (e.status.code = 1 ∨ e.status.code = 2 →
              b' = { b with
                tag2 := none, slot := some sl, cls := .stray .duplicateTag, strayId := id
                entryLink := none } ∧
              recordedAs ⟨.duplicateTag, some tag, none, some sl, none⟩ s (classify t s).state id ∧
              (classify t s).state.flagged .shore .duplicateTag = true) ∧
            (e.status.code ≠ 1 → e.status.code ≠ 2 → s.lookup sl e.cabin = none →
              ((s.slot sl).state = .loading →
                b' = { b with
                  tag2 := none, slot := some sl, cls := .waiting .cabinUnmapped, strayId := none
                  entryLink := none } ∧
                (classify t s).state = { s with loop := (classify t s).state.loop }) ∧
              ((s.slot sl).state = .final →
                b' = { b with
                  tag2 := none, slot := some sl, cls := .stray .cabinUnmapped, strayId := id
                  entryLink := none } ∧
                recordedAs ⟨.cabinUnmapped, some tag, none, some sl, some e.cabin⟩ s
                  (classify t s).state id)) ∧
            (e.status.code ≠ 1 → e.status.code ≠ 2 → (s.lookup sl e.cabin).isSome = true →
              b' = { b with
                tag2 := none, slot := some sl, cls := .routed, strayId := id
                entryLink := some tag } ∧
              (classify t s).state.entry tag = some { e with status := .onLoop false } ∧
              (∀ x, s.strayOfTag tag = some x → x.slot = some (sl, (s.slot sl).call) →
                id = some x.id ∧ (classify t s).state.strays = s.strays.map fun y =>
                  if y.id = x.id then { y with state := .reinducted, untracked := false } else y) ∧
              ((∀ x, s.strayOfTag tag = some x → x.slot ≠ some (sl, (s.slot sl).call)) →
                id = none ∧ (classify t s).state.strays = s.strays))) ∧
  ∀ (q : StrayRequest) (s u : State) (id : Option (BitVec 16)),
    u = (recordStray q s).state → id = (recordStray q s).id →
    u = { s with
      slots := u.slots, strays := u.strays, unlisted := u.unlisted, nextStrayId := u.nextStrayId
      notices := u.notices } ∧
    (q.slot = none → u.slots = s.slots) ∧
    (∀ sl, q.slot = some sl → u.slots = s.slots.set sl { s.slot sl with
      strayCount := min 65535 ((s.slot sl).strayCount + 1) }) ∧
    (∀ e, (∃ tag, q.tag = some tag ∧ s.strayOfTag tag = some e) ∨
        ((∀ tag, q.tag = some tag → s.strayOfTag tag = none) ∧
          ∃ tag2, q.tag2 = some tag2 ∧ s.strayOfTag tag2 = some e) →
      id = some e.id ∧ u.unlisted = s.unlisted ∧ u.nextStrayId = s.nextStrayId ∧
      u.notices = s.notices ∧ u.strays = s.strays.map fun x => if x.id = e.id then
        { x with cause := q.cause, times := min 255 (x.times + 1), untracked := false, state := .routing }
        else x) ∧
    ((∀ tag, q.tag = some tag ∨ q.tag2 = some tag → s.strayOfTag tag = none) →
      (s.strays.length < 128 → ∃ k : Nat,
        let n := s.nextStrayId + BitVec.ofNat 16 k
        id = some n ∧ (∀ x ∈ s.strays, x.id ≠ n) ∧
        (∀ j < k, ∃ x ∈ s.strays, x.id = s.nextStrayId + BitVec.ofNat 16 j) ∧
        u.strays = s.strays ++ [⟨n, q.cause, q.tag, q.tag2,
          q.slot.map fun sl => (sl, (s.slot sl).call), q.cabin, s.clock.seconds, none, false, 1,
          .routing⟩] ∧
        u.nextStrayId = n + 1 ∧ u.unlisted = s.unlisted ∧ u.flagged .shore .newStray = true ∧
        ∀ sl, q.slot = some sl → (s.slot sl).state ≠ .vacant →
          u.flagged (slotLink sl) .newStray = true) ∧
      (128 ≤ s.strays.length → id = none ∧ u.strays = s.strays ∧ u.nextStrayId = s.nextStrayId ∧
        u.unlisted = min 65535 (s.unlisted + 1) ∧ u.flagged .shore .strayListFull = true ∧
        ∀ sl, q.slot = some sl → (s.slot sl).state ≠ .vacant →
          u.flagged (slotLink sl) .strayListFull = true))

/-- R120, R140: selection takes the eligible chute reachable in the present pass with the smallest arm
position, the lowest number among equals; the arm distance is the lead over the period estimate, whole
pitches, plus one. It takes none exactly when no eligible chute is reachable. R141 to R144: the arm event of a
tray SELECTED at its arm position, as d whole periods of travel less the lead are left: its fire record joins
the queue behind those due no later, at once with LATE_FIRE where the travel is shorter than the lead; with 32
records queued the selection is dropped with ARM_DROPPED. -/
def Obligations.selectionTakesTheFirstChuteAhead : Prop :=
  (∀ (s : State) (dest : Dest) (size : SizeClass) (x : Nat),
    let lead := fun c => (s.chute c).cfg.latency + s.loop.cfg.throwTime size
    let d := fun c => lead c / s.period + 1
    let a := fun c => (s.chute c).cfg.offset - d c
    let candidate := fun c => (s.chute c).eligible dest (unitsOf size) = true ∧
      d c + 1 ≤ (s.chute c).cfg.offset ∧ x < a c
    (∀ k, s.choose dest size x = some k → candidate k.chute ∧ k.arm = a k.chute ∧ k.d = d k.chute ∧
      ∀ c, candidate c → k.arm < a c ∨ (k.arm = a c ∧ k.chute ≤ c)) ∧
    (s.choose dest size x = none ↔ ∀ c, ¬ candidate c)) ∧
  ∀ (s : State) (t : Nat),
    ((∀ b c d, s.tray t ≠ .selected b c (s.offsetOf t) d) → armTray t s = s) ∧
    ∀ b c d, s.tray t = .selected b c (s.offsetOf t) d →
      let u := armTray t s
      let lead := (s.chute c).cfg.latency + s.loop.cfg.throwTime b.size
      let due := s.clock.tick + (d * s.period - lead)
      (32 ≤ s.fireQueue.length →
        u = { s with
          loop := { s.loop with trays := s.loop.trays.set t (.loaded b) }
          chutes := s.chutes.set c
            { s.chute c with committed := (s.chute c).committed - unitsOf b.size }
          blocked := u.blocked, strayArmed := u.strayArmed, notices := u.notices } ∧
        u.flagged .shore .armDropped = true) ∧
      (s.fireQueue.length < 32 → ∃ pre post, s.fireQueue = pre ++ post ∧
        u = { s with
          loop := { s.loop with trays := s.loop.trays.set t (.armed b c) }
          fireQueue := pre ++ ⟨t, c, due⟩ :: post, notices := u.notices } ∧
        (∀ r ∈ pre, r.due ≤ due) ∧ (∀ r, post.head? = some r → due < r.due) ∧
        (s.fireQueue.Pairwise (fun x y => x.due ≤ y.due) →
          u.fireQueue.Pairwise fun x y => x.due ≤ y.due) ∧
        (d * s.period < lead → u.flagged .shore .lateFire = true) ∧
        (lead ≤ d * s.period → u.notices = s.notices))

/-- R117, R119, R121: what passing a LOADED tray to selection does: a chosen chute takes the bag's units as
committed, within its capacity; a WAITING bag and a ROUTED bag without a mapped cabin are left as they
are; no other tray changes. R130, R132: where no chute is eligible, the group's record is made or counted,
with GROUP_BLOCKED at its making and at each N-th count, and STRAY_CHUTES_FULL is raised once while armed. -/
def Obligations.selectionCommitsOrCounts : Prop :=
  ∀ (t : Nat) (b : BagRecord) (s : State), s.tray t = .loaded b →
    let u := passToSelection t s
    (∀ dest k, s.bagDest b = some dest → s.choose dest b.size (s.offsetOf t) = some k →
      u.tray t = .selected b k.chute k.arm k.d ∧
      (u.chute k.chute).committed = (s.chute k.chute).committed + unitsOf b.size ∧
      (u.chute k.chute).fill + (u.chute k.chute).committed ≤ (u.chute k.chute).cfg.capacity) ∧
    (∀ dest, s.bagDest b = some dest → s.choose dest b.size (s.offsetOf t) = none →
      u = { s with blocked := u.blocked, strayArmed := u.strayArmed, notices := u.notices } ∧
      (s.someEligible dest (unitsOf b.size) = true → u = s)) ∧
    (b.isWaiting = true ∨ s.bagDest b = none → u = s) ∧
    (∀ k, k ≠ t → u.tray k = s.tray k) ∧
    (∀ g, s.bagDest b = some (.group g) → s.someEligible (.group g) (unitsOf b.size) = false →
      ((∀ r ∈ s.blocked, r.group ≠ g) → u.flagged .shore .groupBlocked = true ∧
        u.blocked = if s.blocked.length < 16 then s.blocked ++ [⟨g, 1, 0⟩] else s.blocked) ∧
      ∀ pre r post, s.blocked = pre ++ r :: post → r.group = g →
        (∀ q ∈ pre, q.group ≠ g) → (∀ q ∈ post, q.group ≠ g) →
        u.blocked = pre ++ ⟨g, min 65535 (r.count + 1),
          if s.blockedN ≤ r.reraise + 1 then 0 else r.reraise + 1⟩ :: post ∧
        (s.blockedN ≤ r.reraise + 1 → u.flagged .shore .groupBlocked = true) ∧
        (r.reraise + 1 < s.blockedN → u.notices = s.notices)) ∧
    (s.bagDest b = some .stray → s.someEligible .stray (unitsOf b.size) = false →
      (s.strayArmed = true → u.strayArmed = false ∧ u.flagged .shore .strayChutesFull = true) ∧
      (s.strayArmed = false → u = s))

/-! ### Induction stations (chapter 2) -/

/-- R40, R45, R46, R47: the claim check. An induction that is not barred and has a head record claims the
EMPTY tray at its offset, or the tray RESERVED for it: the record leaves the queue, the tray carries the bag, a
window of 2 pitch events opens and LAUNCH joins the line (on an idle line it is the frame being sent: THE
MODEL'S CHOICE, log 14). At a tray in another state the head wait count rises, and from W on the reservation is
requested. A barred induction, or one without a record, claims nothing, and the tray GRANTED to it becomes
EMPTY; while barred its count stands. The grant takes the EMPTY tray at the reference: I3 first, else the
requesting induction with the lowest offset. -/
def Obligations.claimsAndGrantsTakeTheirTrays : Prop :=
  (∀ (i : IndId) (s : State), (s.ind i).offset ≠ 0 → s.trayAt (s.ind i).offset < s.T →
     (∀ rec rest, (s.ind i).queue = rec :: rest → s.barred i = false →
       (s.tray (s.trayAt (s.ind i).offset) = .empty ∨
         s.tray (s.trayAt (s.ind i).offset) = .reserved i) →
       ∃ b, ((claimCheck s.loop.hold i s).tray (s.trayAt (s.ind i).offset)).bag = some b ∧
         b.source = some i ∧ b.size = rec.size ∧ b.tag = rec.reading.tags.1 ∧ b.passes = 0 ∧
         b.launchConfirmed = false ∧
         ((claimCheck s.loop.hold i s).ind i).queue = rest ∧
         ((claimCheck s.loop.hold i s).ind i).waitCount = 0 ∧
         (∃ note, ((claimCheck s.loop.hold i s).ind i).windows =
           (s.ind i).windows ++ [⟨s.trayAt (s.ind i).offset, 2, rec, note⟩]) ∧
         ((s.ind i).sending = none → (s.ind i).waiting = [] →
           ((claimCheck s.loop.hold i s).ind i).sending =
             some (.launch (s.trayAt (s.ind i).offset)))) ∧
     ((s.ind i).queue ≠ [] → s.barred i = false → s.tray (s.trayAt (s.ind i).offset) ≠ .empty →
       s.tray (s.trayAt (s.ind i).offset) ≠ .reserved i →
       claimCheck s.loop.hold i s = { s with inds := s.inds.set i { s.ind i with
         waitCount := min 64 ((s.ind i).waitCount + 1), wInUse := (s.ind i).w
         reservation := if (s.ind i).w ≤ min 64 ((s.ind i).waitCount + 1) ∧
             (s.ind i).reservation = .none then .requested else (s.ind i).reservation } }) ∧
     (s.barred i = true ∨ (s.ind i).queue = [] →
       ((claimCheck s.loop.hold i s).ind i).queue = (s.ind i).queue ∧
       ((claimCheck s.loop.hold i s).ind i).windows = (s.ind i).windows ∧
       ((s.ind i).queue = [] → ((claimCheck s.loop.hold i s).ind i).waitCount = 0) ∧
       ((s.ind i).queue ≠ [] → (s.ind i).reservation ≠ .granted (s.trayAt (s.ind i).offset) →
         ((claimCheck s.loop.hold i s).ind i).waitCount = (s.ind i).waitCount) ∧
       ((s.ind i).reservation = .granted (s.trayAt (s.ind i).offset) →
         ((claimCheck s.loop.hold i s).ind i).waitCount = 0 ∧
         (s.tray (s.trayAt (s.ind i).offset) = .reserved i →
           (claimCheck s.loop.hold i s).tray (s.trayAt (s.ind i).offset) = .empty)))) ∧
  ∀ s : State, s.loop.pos < s.T →
    (s.tray s.loop.pos = .empty → ∀ i, (s.ind i).reservation = .requested →
      (i = .i3 ∨ ((s.ind .i3).reservation ≠ .requested ∧
        ∀ k, k ≠ i → (s.ind k).reservation = .requested → (s.ind i).offset < (s.ind k).offset)) →
      grantReservation s = { s with
        inds := s.inds.set i { s.ind i with reservation := .granted s.loop.pos }
        loop := { s.loop with trays := s.loop.trays.set s.loop.pos (.reserved i) } }) ∧
    (s.tray s.loop.pos ≠ .empty ∨ (∀ i, (s.ind i).reservation ≠ .requested) →
      grantReservation s = s)

/-- R45, R41, R39: the three events that a pitch event or a read frame brings about, on their own rows
(THE MODEL'S CHOICE, log 5: each also happens inside the step that brings it). The W that the head wait count
is compared with is the one in use (R28). -/
def Obligations.inductionCountEventsHappen : Prop :=
  ∀ (i : IndId) (s : State),
    ((s.ind i).wInUse ≤ (s.ind i).waitCount → (s.ind i).reservation = .none →
      exec (.reservationRequest i) s =
        .next { s with inds := s.inds.set i { s.ind i with reservation := .requested } }) ∧
    ((∃ w ∈ (s.ind i).windows, w.left = 0) → ∃ t, exec (.launchWindowExpiry i) s = .next t ∧
      t = { s with
        inds := s.inds.set i
          { s.ind i with windows := (s.ind i).windows.filter fun w => w.left != 0 }
        loop := { s.loop with trays := t.loop.trays } } ∧
      t.T = s.T ∧
      ∀ k, t.tray k = if (s.ind i).windows.any fun w => w.left = 0 && w.tray = k then
        (s.tray k).mapBag fun b => { b with launchConfirmed := true } else s.tray k) ∧
    (s.held i = true → (s.ind i).n ≤ (s.ind i).resendCount →
      exec (.holdResend i) s =
        .next { s with inds := s.inds.set i { (s.ind i).send .hold with resendCount := 0 } })

/-- R32: the transmit list. A frame on an idle line begins at once (THE MODEL'S CHOICE, log 14); else it
waits in order of joining, a hold change replacing a waiting hold change that is last; the end of a frame
begins the next. -/
def Obligations.transmitListKeepsItsOrder : Prop :=
  (∀ (i : IndId) (s : State) (f : TxFrame), (s.ind i).sending = some f →
    (∀ g rest, (s.ind i).waiting = g :: rest → exec (.transmitFrameSent i) s =
      .next { s with inds := s.inds.set i { s.ind i with sending := some g, waiting := rest } }) ∧
    ((s.ind i).waiting = [] → exec (.transmitFrameSent i) s =
      .next { s with inds := s.inds.set i { s.ind i with sending := none, waiting := [] } })) ∧
  ∀ (r : Induction) (f g : TxFrame) (rest : List TxFrame),
    (r.sending = none → r.waiting = [] → r.send f = { r with sending := some f }) ∧
    (r.sending ≠ none → r.waiting = [] → r.send f = { r with waiting := [f] }) ∧
    (r.sending ≠ none → r.waiting = rest ++ [g] →
      r.send f = if f.isHold = true ∧ g.isHold = true then { r with waiting := rest ++ [f] }
        else { r with waiting := rest ++ [g, f] })

/-- R33, R34, R36, R39: a BAG, MULTI or NOREAD frame at an enabled induction that is not in RESYNC and holds
3 records or fewer. The record joins the tail; the queue hold is judged; HOLD goes out at the change to
held, and again at every N-th read frame taken while held (a frame that brings the hold is not counted:
THE MODEL'S CHOICE, log 12). -/
def Obligations.readFramesJoinTheQueue : Prop :=
  ∀ (c : Instr) (i : IndId) (k : FrameKind) (rec : ReadRecord) (data : List Byte) (s : State),
    readFrame c = some (i, k, rec) → encodeLineFrame c = some (i, k.code, data) →
    s.framing i k data = true → (s.ind i).enabled = true →
    (s.ind i).resync = false → (s.ind i).queue.length ≤ 3 →
    ((s.ind i).queueHold = true → (s.ind i).queue ≠ []) →
    let q := (s.ind i).queue ++ [rec]
    let hold := decide (3 ≤ q.length) || (s.ind i).queueHold
    let r : Induction := { s.ind i with
      receiver := .idle, queue := q, queueHold := hold
      waitCount := if (s.ind i).queue = [] then 0 else (s.ind i).waitCount }
    (s.held i = false → hold = false → exec c s = .next { s with inds := s.inds.set i r }) ∧
    (s.held i = false → hold = true →
      exec c s = .next { s with inds := s.inds.set i { r.send .hold with resendCount := 0 } }) ∧
    (s.held i = true → (s.ind i).resendCount + 1 < (s.ind i).n → exec c s =
      .next { s with inds := s.inds.set i { r with resendCount := (s.ind i).resendCount + 1 } }) ∧
    (s.held i = true → (s.ind i).n ≤ (s.ind i).resendCount + 1 →
      exec c s = .next { s with inds := s.inds.set i { r.send .hold with resendCount := 0 } })

/-- R33, R35: a read frame on a full queue is an overrun: the frame is dropped, INDUCTION_OVERRUN is raised,
the queue emptied and RESYNC entered; in RESYNC a read frame leaves the queue as it is; a frame that the receiver
does not have open with characters that the frame begins with, or whose induction is disabled, is no complete
frame (log 8). -/
def Obligations.readFramesThatAreNotQueued : Prop :=
  ∀ (c : Instr) (i : IndId) (k : FrameKind) (rec : ReadRecord) (data : List Byte) (s : State),
    readFrame c = some (i, k, rec) → encodeLineFrame c = some (i, k.code, data) →
    (s.framing i k data = false ∨ (s.ind i).enabled = false → exec c s = .next s) ∧
    (s.framing i k data = true → (s.ind i).enabled = true → ∃ t, exec c s = .next t ∧
      t = { s with inds := t.inds, notices := t.notices } ∧ (∀ j, j ≠ i → t.ind j = s.ind j) ∧
      (t.ind i).receiver = .idle ∧ (t.ind i).windows = (s.ind i).windows ∧
      ((s.ind i).resync = true → t.notices = s.notices ∧ (t.ind i).queue = (s.ind i).queue ∧
        (t.ind i).resync = true ∧ (t.ind i).reservation = (s.ind i).reservation) ∧
      ((s.ind i).resync = false → 4 ≤ (s.ind i).queue.length →
        (t.ind i).queue = [] ∧ (t.ind i).queueHold = false ∧ (t.ind i).resync = true ∧
        (t.ind i).waitCount = 0 ∧ (t.ind i).reservation = (s.ind i).reservation.withdraw ∧
        t.flagged .shore .inductionOverrun = true))

/-- R42, R44: DONE for an open window closes it and confirms the tray's launch; an answer that names a tray
without an open window of this induction is ignored with LINE_ERROR. -/
def Obligations.launchAnswersCloseWindows : Prop :=
  ∀ (i : IndId) (tray : BitVec 16) (s : State), (s.ind i).enabled = true →
    (s.framing i .done (trayChars tray) = true → (∃ w ∈ (s.ind i).windows, w.tray = tray.toNat) →
      exec (.doneFrame i tray) s = .next { s with
        inds := s.inds.set i { s.ind i with
          receiver := .idle
          windows := (s.ind i).windows.eraseP fun w => w.tray = tray.toNat }
        loop := { s.loop with
          trays := s.loop.trays.set tray.toNat ((s.tray tray.toNat).mapBag fun b =>
            { b with launchConfirmed := true }) } }) ∧
    ((∀ w ∈ (s.ind i).windows, w.tray ≠ tray.toNat) →
      (s.framing i .done (trayChars tray) = true →
        exec (.lateAnswer i .done tray) s = .next (raise .lineError .hall
          { s with inds := s.inds.set i { s.ind i with receiver := .idle } }) ∧
        exec (.doneFrame i tray) s = exec (.lateAnswer i .done tray) s) ∧
      (s.framing i .fail (trayChars tray) = true →
        exec (.lateAnswer i .fail tray) s = .next (raise .lineError .hall
          { s with inds := s.inds.set i { s.ind i with receiver := .idle } }) ∧
        exec (.failFrame i tray) s = exec (.lateAnswer i .fail tray) s))

/-- R43, R108, R116, R117, R167: FAIL for an open window. The tray becomes EMPTY and gives back what it
holds: committed units of a SELECTED or ARMED one, fill units of a FIRED or UNCONFIRMED one of the chute's
present generation, the fire record, the confirm window; the entry that the launch linked, and that the bag
links still, gets its status back, and no other does (R58), and the stray entry that it made or moved is undone while it stands as the launch left it; the read
record returns to the head of the queue, is discarded in RESYNC, or overruns a queue of 4. A tray that can take
no failure stays as it is. THE MODEL'S CHOICES: of several windows of the chute that name a FIRED tray the last
is its own (log 17); units returned from a fill below them leave 0 (log 37). -/
def Obligations.failedLaunchIsTakenBack : Prop :=
  ∀ (i : IndId) (tray : BitVec 16) (w : LaunchWindow) (s : State),
    (s.ind i).enabled = true → s.framing i .fail (trayChars tray) = true →
    (s.ind i).windows.find? (fun v => v.tray = tray.toNat) = some w →
    ∃ t, exec (.failFrame i tray) s = .next t ∧
      t = { s with
        loop := t.loop, inds := t.inds, pool := t.pool, slots := t.slots, chutes := t.chutes
        blocked := t.blocked, strayArmed := t.strayArmed, fireQueue := t.fireQueue
        strays := t.strays, notices := t.notices } ∧
      (t.ind i).windows = ((s.ind i).windows.eraseP fun v => v.tray = tray.toNat) ∧
      (t.ind i).receiver = .idle ∧
      ((s.tray tray.toNat).bag = none →
        t = { s with inds := s.inds.set i { s.ind i with
          receiver := .idle
          windows := (s.ind i).windows.eraseP fun v => v.tray = tray.toNat } }) ∧
      ((s.tray tray.toNat).bag.isSome = true →
        t.tray tray.toNat = .empty ∧ (∀ k, k ≠ tray.toNat → (∀ b, (t.tray k).bag = some b →
          ∃ b0, (s.tray k).bag = some b0 ∧ b = { b0 with strayId := b.strayId }) ∧
          (t.tray k).code = (s.tray k).code) ∧
        (∀ u e, w.note.entry = some u → (s.tray tray.toNat).bag.bind (·.entryLink) = some u.tag →
          s.entry u.tag = some e → e.status.isOnLoop = true →
          (t.entry u.tag).map (·.status) = some u.status) ∧
        (∀ tag, (∀ u, w.note.entry = some u → u.tag = tag →
            (s.tray tray.toNat).bag.bind (·.entryLink) ≠ some tag) →
          (t.entry tag).map (·.status) = (s.entry tag).map (·.status)) ∧
        (w.note.stray = none → t.strays = s.strays) ∧
        (∀ id e, w.note.stray = some (.appended id) → s.strayOfId id = some e →
          t.strays =
            if e.state = .routing ∧ e.times = 1 then s.strays.filter fun x => x.id ≠ id
            else if 1 < e.times ∧ e.times < 255 then
              s.strays.map fun x => if x.id = id then { x with times := x.times - 1 } else x
            else s.strays) ∧
        (∀ id state cause mark times leftState leftTimes e,
          w.note.stray = some (.moved id state cause mark times leftState leftTimes) →
          s.strayOfId id = some e →
          t.strays =
            if e.state = leftState ∧ e.times = leftTimes then
              s.strays.map fun x => if x.id = id then
                { x with state := state, cause := cause, untracked := mark, times := times } else x
            else s.strays) ∧
        ((s.ind i).resync = true → (t.ind i).queue = (s.ind i).queue) ∧
        ((s.ind i).resync = false → (s.ind i).queue.length ≤ 3 →
          (t.ind i).queue = w.record :: (s.ind i).queue ∧ (t.ind i).waitCount = 0) ∧
        ((s.ind i).resync = false → 4 ≤ (s.ind i).queue.length →
          (t.ind i).queue = [] ∧ (t.ind i).resync = true ∧
          t.flagged .shore .inductionOverrun = true)) ∧
      (∀ b, s.tray tray.toNat = .loaded b → t.chutes = s.chutes ∧ t.fireQueue = s.fireQueue) ∧
      (∀ b c, (∃ a d, s.tray tray.toNat = .selected b c a d) ∨ s.tray tray.toNat = .armed b c →
        t.chutes = s.chutes.set c
          { s.chute c with committed := (s.chute c).committed - unitsOf b.size }) ∧
      (∀ b c, s.tray tray.toNat = .armed b c →
        t.fireQueue = s.fireQueue.filter fun r => r.tray ≠ tray.toNat) ∧
      (∀ b c g, s.tray tray.toNat = .fired b c g ∨ s.tray tray.toNat = .unconfirmed b c g →
        (t.chute c).fill =
          (if (s.chute c).gen = g then (s.chute c).fill - unitsOf b.size else (s.chute c).fill) ∧
        (t.chute c).committed = (s.chute c).committed) ∧
      ∀ b c g pre v post, s.tray tray.toNat = .fired b c g →
        (s.chute c).windows = pre ++ v :: post → v.tray = tray.toNat →
        (∀ x ∈ post, x.tray ≠ tray.toNat) → (t.chute c).windows = pre ++ post

/-- R30, R31, R197: the line receiver. What a marked character, a faulty one, a data character and silence do
in each state: a data character is checked at its place and stored, and the last one completes the frame, so
that the characters still to come of a whole frame, taken one at a time, do what the frame's row does. The
receiver of a disabled induction takes no character. (A row of a faulty or bad character stands for the good
characters before it too: THE MODEL'S CHOICE, log 8.) -/
def Obligations.lineReceiverMoves : Prop :=
  ∀ (i : IndId) (s : State),
    let goes := fun (r : Receiver) => { s with inds := s.inds.set i { s.ind i with receiver := r } }
    let data := fun (v : Byte) (u : State) => receiveChar i ⟨false, v, true⟩ u
    ((s.ind i).enabled = true →
      (∀ k, (s.ind i).receiver = .idle ∨ (s.ind i).receiver = .skipping →
        exec (.inductionFrameOpened i k) s = .next (goes (.inFrame k []))) ∧
      (∀ k open_ stored, (s.ind i).receiver = .inFrame open_ stored →
        exec (.inductionFrameOpened i k) s = .next (raise .lineError .hall (goes (.inFrame k []))) ∧
        exec (.inductionCharacterFault i (.interrupt k)) s =
          .next (raise .lineError .hall (goes (.inFrame k [])))) ∧
      (∀ code, (s.ind i).receiver ≠ .skipping →
        exec (.inductionCharacterFault i (.unknownKind code)) s =
          .next (raise .lineError .hall (goes .skipping))) ∧
      (∀ code, (s.ind i).receiver = .skipping →
        exec (.inductionCharacterFault i (.unknownKind code)) s = .next s) ∧
      (∀ open_ stored, (s.ind i).receiver = .inFrame open_ stored →
        exec (.inductionCharacterFault i .badStop) s =
          .next (raise .lineError .hall (goes .skipping))) ∧
      ((s.ind i).receiver = .idle ∨ (s.ind i).receiver = .skipping →
        exec (.inductionCharacterFault i .badStop) s = .next s) ∧
      (∀ k stored, (s.ind i).receiver = .inFrame k stored →
        (∀ v : Byte, 10 ≤ v.toNat → stored.length < k.tagLength →
          exec (.badDataCharacter i .tagDigit v) s = .next (raise .lineError .hall (goes .skipping))) ∧
        (∀ v : Byte, 4 ≤ v.toNat → k = .bag ∨ k = .multi ∨ k = .noread → stored.length < k.dataLength →
          exec (.badDataCharacter i .sizeClass v) s =
            .next (raise .lineError .hall (goes .skipping))))) ∧
    (∀ marked v, exec (.inductionCharacterFault i .badStop) s = .next (receiveChar i ⟨marked, v, false⟩ s)) ∧
    (∀ k : FrameKind, exec (.inductionFrameOpened i k) s = .next (receiveChar i ⟨true, k.code, true⟩ s)) ∧
    (∀ code : Byte, code.toNat = 0 ∨ 6 ≤ code.toNat →
      exec (.inductionCharacterFault i (.unknownKind code)) s =
        .next (receiveChar i ⟨true, code, true⟩ s)) ∧
    (∀ v, (s.ind i).receiver = .idle ∨ (s.ind i).receiver = .skipping → data v s = s) ∧
    ((s.ind i).enabled = true → ∀ k stored, (s.ind i).receiver = .inFrame k stored →
      (∀ v, k.badAt stored.length v = true → data v s = raise .lineError .hall (goes .skipping)) ∧
      (∀ v, k.badAt stored.length v = false → stored.length + 1 < k.dataLength →
        data v s = goes (.inFrame k (stored ++ [v]))) ∧
      ∀ c rest, encodeLineFrame c = some (i, k.code, stored ++ rest) → rest ≠ [] →
        exec c s = .next (rest.foldl (fun u v => data v u) s)) ∧
    (∀ (k : FrameKind) (n : Nat) (v : Byte), k.badAt n v = true ↔
      (n < k.tagLength ∧ 10 ≤ v.toNat) ∨
        ((k = .bag ∨ k = .multi ∨ k = .noread) ∧ n + 1 = k.dataLength ∧ 4 ≤ v.toNat)) ∧
    (∀ open_ stored, (s.ind i).receiver = .inFrame open_ stored →
      exec (.inductionSilenceTimeout i) s = .next (raise .lineError .hall (goes .idle))) ∧
    ((s.ind i).enabled = false → ∀ k bad field v c, exec (.inductionFrameOpened i k) s = .next s ∧
      exec (.inductionCharacterFault i bad) s = .next s ∧
      exec (.badDataCharacter i field v) s = .next s ∧ receiveChar i c s = s)

/-! ### Divert timing and chute eyes (chapter 7, R128) -/

/-- R137, R145: the hall clock counts a second of 10000 ticks, wrapping; a tilt pulse at its end tick is
released. Nothing else changes. -/
def Obligations.hallClockAndTiltPulse : Prop :=
  ∀ s : State,
    (s.clock.secondAt + 10000 ≤ s.clock.tick → exec .hallClockSecond s = .next { s with
      clock := ⟨s.clock.tick, s.clock.secondAt + 10000, s.clock.seconds + 1⟩ }) ∧
    ∀ c e, (s.chute c).pulseEnd = some e → e ≤ s.clock.tick → exec (.tiltPulseEnd c) s =
      .next { s with chutes := s.chutes.set c { s.chute c with pulseEnd := none } }

/-- R143, R145, R146, R147: the fire of the record at the head of the queue, due. A tray that is not ARMED
with it keeps its state; an ARMED one becomes FIRED: its units move from committed to fill, the tilt output
is driven for the pulse length, and a confirm window opens, the oldest of 4 making room. R118: the chute's
state follows its fill units, with CHUTE_FULL and CHUTE_NEAR_FULL at its rises. R123: at a SORT chute's entry
to FULL with a group not released, each idle standby that covers it takes the group over. -/
def Obligations.fireTakesTheArmedTray : Prop :=
  ∀ (s : State) (r : FireRecord) (q : List FireRecord), s.fireQueue = r :: q → r.due ≤ s.clock.tick →
    ((∀ b, s.tray r.tray ≠ .armed b r.chute) → exec .fire s = .next { s with fireQueue := q }) ∧
    ∀ b, s.tray r.tray = .armed b r.chute →
      let x := s.chute r.chute
      let w : ConfirmWindow := ⟨r.tray, s.clock.tick + x.cfg.window⟩
      ∃ t, exec .fire s = .next t ∧
        t = { s with
          loop := { s.loop with trays := t.loop.trays }, fireQueue := q, chutes := t.chutes
          blocked := t.blocked, strayArmed := t.strayArmed, notices := t.notices } ∧
        t.T = s.T ∧ t.tray r.tray = .fired b r.chute x.gen ∧
        (t.chute r.chute).fill = x.fill + unitsOf b.size ∧
        (t.chute r.chute).committed = x.committed - unitsOf b.size ∧
        (t.chute r.chute).pulseEnd = some (s.clock.tick + x.cfg.pulse) ∧
        t.tiltOutput r.chute = true ∧
        (x.filling = false → (t.chute r.chute).state = x.state) ∧
        (x.filling = true → (t.chute r.chute).state =
          if x.cfg.capacity ≤ x.fill + unitsOf b.size then .full
          else if x.cfg.nearFull ≤ x.fill + unitsOf b.size then .nearFull else .isOpen) ∧
        (x.filling = true → x.state ≠ .full → x.cfg.capacity ≤ x.fill + unitsOf b.size →
          t.flagged .shore .chuteFull = true) ∧
        (x.state = .isOpen → x.cfg.nearFull ≤ x.fill + unitsOf b.size →
          x.fill + unitsOf b.size < x.cfg.capacity → t.flagged .shore .chuteNearFull = true) ∧
        (∀ k, k ≠ r.chute →
          (x.filling = true → x.state ≠ .full → x.cfg.capacity ≤ x.fill + unitsOf b.size →
            x.cfg.role = .sort → x.group.isSome = true → x.released = false → s.idleCover k r.chute →
            t.chute k = (s.chute k).takesOver r.chute x.group ∧
            t.flagged .shore .standbyTakeover = true) ∧
          (x.filling = false ∨ x.state = .full ∨ x.fill + unitsOf b.size < x.cfg.capacity ∨
            x.cfg.role ≠ .sort ∨ x.group = none ∨ x.released = true ∨ ¬ s.idleCover k r.chute →
            t.chute k = s.chute k)) ∧
        (x.windows.length < 4 → (t.chute r.chute).windows = x.windows ++ [w] ∧
          ∀ k, k ≠ r.tray → t.tray k = s.tray k) ∧
        (∀ o rest, x.windows = o :: rest → x.windows.length = 4 →
          (t.chute r.chute).windows = rest ++ [w] ∧
          ∀ k, k ≠ r.tray → k ≠ o.tray → t.tray k = s.tray k)

/-- R148, R149, R150: a detection confirms the oldest open window, and the end of a window's time leaves its
tray UNCONFIRMED. R58, R160, R163: the confirmed bag's entry is SORTED, and its stray entry, REINDUCTED, is
removed; a stray's entry is in the chute. (Where two windows of a chute name one tray the later is its own: THE
MODEL'S CHOICE, log 17.) -/
def Obligations.confirmWindowsSettleTheirTrays : Prop :=
  ∀ (c : ChuteId) (s : State),
    ((s.chute c).eye = false → (s.chute c).windows = [] → exec (.chuteEyeDetection c) s =
      .next { s with chutes := s.chutes.set c { s.chute c with
        eye := true
        occludedFrom := if (s.chute c).cfg.offset = 0 then none else some s.clock.tick } }) ∧
    (∀ w rest, (s.chute c).eye = false → (s.chute c).windows = w :: rest →
      ∃ t, exec (.chuteEyeDetection c) s = .next t ∧
        t.chute c = { s.chute c with
          eye := true, windows := rest, failures := 0
          occludedFrom := if (s.chute c).cfg.offset = 0 then none else some s.clock.tick } ∧
        (∀ k, k ≠ c → t.chute k = s.chute k) ∧ t.fireQueue = s.fireQueue ∧
        (∀ b g, s.tray w.tray = .fired b c g → (∀ v ∈ rest, v.tray ≠ w.tray) →
          t.tray w.tray = .empty ∧
          (∀ tag e, b.entryLink = some tag → s.entry tag = some e → e.status.isOnLoop = true →
            (t.entry tag).map (·.status) = some (.sorted c s.clock.seconds false)) ∧
          (∀ tag id x, b.entryLink = some tag →
            b.strayId.or ((s.entry tag).bind (·.strayLink)) = some id → s.strayOfId id = some x →
            (x.state = .reinducted → t.strays = s.strays.filter (fun y => y.id ≠ id) ∧
              (∀ e ∈ t.pool, e.strayLink ≠ some id) ∧
              ∀ k b', (t.tray k).bag = some b' → b'.strayId ≠ some id) ∧
            (x.state ≠ .reinducted → t.strays = s.strays)) ∧
          (∀ id, b.entryLink = none → b.isStray = true → b.strayId = some id →
            t.pool = s.pool ∧ t.strays = s.strays.map fun x => if x.id = id then
              { x with
                state := if x.state = .routing then .inChute else x.state
                chute := some c, untracked := false }
              else x) ∧
          (b.entryLink = none → b.strayId = none → t.pool = s.pool ∧ t.strays = s.strays)) ∧
        ((∀ b g, s.tray w.tray ≠ .fired b c g) →
          t.loop = s.loop ∧ t.pool = s.pool ∧ t.strays = s.strays)) ∧
    (∀ pre w post, (s.chute c).windows = pre ++ w :: post → (∀ v ∈ pre, s.clock.tick < v.endTick) →
      w.endTick ≤ s.clock.tick →
      (∀ b g, s.tray w.tray = .fired b c g → (∀ v ∈ post, v.tray ≠ w.tray) →
        exec (.confirmWindowEnd c) s = .next { s with
          chutes := s.chutes.set c { s.chute c with windows := pre ++ post }
          loop := { s.loop with trays := s.loop.trays.set w.tray (.unconfirmed b c g) } }) ∧
      ((∀ b g, s.tray w.tray ≠ .fired b c g) → exec (.confirmWindowEnd c) s = .next { s with
        chutes := s.chutes.set c { s.chute c with windows := pre ++ post } }))

/-- R128: an occlusion that has lasted the jam time sets the jam flag with CHUTE_BLOCKED; the eye's clearing
clears the flag and stops the timer. R124: a standby that is STANDBY_IDLE then is judged for takeover (also
where no jam flag was set: THE MODEL'S CHOICE, log 39). -/
def Obligations.jamFlagFollowsTheEye : Prop :=
  ∀ (c : ChuteId) (s : State),
    (∀ t0, (s.chute c).occludedFrom = some t0 → (s.chute c).jam = false →
      t0 + (s.chute c).cfg.jamTime ≤ s.clock.tick → ∃ t, exec (.chuteJam c) s = .next t ∧
        t = { s with
          chutes := s.chutes.set c { s.chute c with jam := true }, blocked := t.blocked
          strayArmed := t.strayArmed, notices := t.notices } ∧
        t.flagged .shore .chuteBlocked = true ∧
        ∀ g, (s.chute c).group = some g → (s.chute c).released = false →
          (s.chute c).cfg.role ≠ .stray → t.flagged (slotLink g.slot) .chuteBlocked = true) ∧
    ((s.chute c).eye = true → ∃ t, exec (.chuteEyeClear c) s = .next t ∧
      t = { s with
        chutes := t.chutes, blocked := t.blocked, strayArmed := t.strayArmed
        notices := t.notices } ∧
      (∀ k, k ≠ c → t.chute k = s.chute k) ∧
      ((s.chute c).cfg.role ≠ .standby ∨ (s.chute c).state ≠ .standbyIdle →
        t.chute c = { s.chute c with eye := false, jam := false, occludedFrom := none }) ∧
      ((s.chute c).cfg.role = .standby → (s.chute c).state = .standbyIdle →
        t.standbyJudged c { s.chute c with eye := false, jam := false, occludedFrom := none }))

/-! ### Notices (chapter 9) -/

/-- R173 to R176: a raise flags its source on the links its scope names, keeps every other flag, and leaves
no pending group with a clear latch; the attention line is asserted exactly while a group is latched and
unfetched. -/
def Obligations.raiseFlagsTheScopesLinks : Prop :=
  ∀ (n : Notice) (sc : Scope) (s : State) (l : LinkId),
    (raise n sc s = { s with notices := (raise n sc s).notices }) ∧
    ((l = .shore ∨ ∃ sl, sc = .slot sl ∧ l = slotLink sl) →
      (raise n sc s).flagged l n = true ∧
      (∀ m, s.flagged l m = true → (raise n sc s).flagged l m = true) ∧
      (∀ m, m.group ≠ n.group ∨ m.number ≠ n.number →
        (raise n sc s).flagged l m = s.flagged l m) ∧
      (((raise n sc s).notices.get l).pending n.group = true →
        ((raise n sc s).notices.get l).latches.get n.group ≠ .clear) ∧
      ((s.notices.get l).latches.get n.group = .clear →
        ((raise n sc s).notices.get l).pending n.group = true → (raise n sc s).attention l = true)) ∧
    (¬ (l = .shore ∨ ∃ sl, sc = .slot sl ∧ l = slotLink sl) →
      (raise n sc s).notices.get l = s.notices.get l) ∧
    (s.attention l = true ↔ ∃ g, (s.notices.get l).latches.get g = .set)

/-! ### Reads: the record goes out and nothing but the port changes -/

/-- R24, R49, R55, R68, R73, R91, R134, R168, R169, R192: the ten reads. Each accepted read answers OK with
its record and changes nothing but its port; a number that names nothing is refused. (The launch windows of
READ INDUCTION stand oldest first: THE MODEL'S CHOICE, log 36.) -/
def Obligations.readsReturnTheirRecords : Prop :=
  ∀ (l : LinkId) (p : Payload) (s : State),
    (s.admits .readTray l p = true →
      (u16 p 0 < s.T → exec (.readTray l p) s = .next (answeredWith .readTray l p
        (loopHeader s ++ trayBytes (u16 p 0) (s.tray (u16 p 0))) s)) ∧
      (s.T ≤ u16 p 0 → exec (.readTray l p) s = .next (refusedWith .readTray l p .badValue s))) ∧
    (s.admits .readInduction l p = true →
      (∀ i, indOf (u8 p 0) = some i → exec (.readInduction l p) s =
        .next (answeredWith .readInduction l p (inductionBytes s i) s)) ∧
      (3 < u8 p 0 → exec (.readInduction l p) s =
        .next (refusedWith .readInduction l p .badValue s))) ∧
    (s.admits .readWindow l p = true →
      (∀ h : u8 p 0 < 8, exec (.readWindow l p) s =
        .next (answeredWith .readWindow l p (windowBytes s (s.tagWindows.get ⟨u8 p 0, h⟩)) s)) ∧
      (7 < u8 p 0 → exec (.readWindow l p) s = .next (refusedWith .readWindow l p .badValue s))) ∧
    (s.admits .readBag l p = true →
      (∀ tag e, tagAt p 0 = some tag → s.entry tag = some e →
        (l = .shore ∨ l = slotLink e.slot → exec (.readBag l p) s =
          .next (answeredWith .readBag l p (entryBytes e) s)) ∧
        (l = slotLink e.slot.other →
          exec (.readBag l p) s = .next (refusedWith .readBag l p .notFound s))) ∧
      (∀ tag, tagAt p 0 = some tag → s.entry tag = none →
        exec (.readBag l p) s = .next (refusedWith .readBag l p .notFound s)) ∧
      (tagAt p 0 = none → exec (.readBag l p) s = .next (refusedWith .readBag l p .badValue s))) ∧
    (s.admits .readCabinRange l p = true →
      (∀ sl, ∀ h : u8 p 0 < 96, l = slotLink sl → exec (.readCabinRange l p) s =
        .next (answeredWith .readCabinRange l p
          (rangeBytes ((s.maps.get sl).get ⟨u8 p 0, h⟩)) s)) ∧
      (∀ sl, ∀ h : u8 p 1 < 96, l = .shore → slotOf (u8 p 0) = some sl →
        exec (.readCabinRange l p) s = .next (answeredWith .readCabinRange l p
          (rangeBytes ((s.maps.get sl).get ⟨u8 p 1, h⟩)) s)) ∧
      ((l ≠ .shore ∧ 95 < u8 p 0) ∨ (l = .shore ∧ (1 < u8 p 0 ∨ 95 < u8 p 1)) →
        exec (.readCabinRange l p) s = .next (refusedWith .readCabinRange l p .badValue s))) ∧
    (s.admits .shipStatus l p = true →
      (∀ sl, l = slotLink sl ∨ (l = .shore ∧ slotOf (u8 p 0) = some sl) →
        exec (.shipStatus l p) s = .next (answeredWith .shipStatus l p (statusBytes s sl) s)) ∧
      (l = .shore → 1 < u8 p 0 →
        exec (.shipStatus l p) s = .next (refusedWith .shipStatus l p .badValue s))) ∧
    (s.admits .readChute l p = true →
      (∀ h : u8 p 0 < 48, exec (.readChute l p) s =
        .next (answeredWith .readChute l p (chuteBytes s ⟨u8 p 0, h⟩) s)) ∧
      (47 < u8 p 0 → exec (.readChute l p) s = .next (refusedWith .readChute l p .badValue s))) ∧
    (s.admits .readStrayList l p = true →
      (u8 p 0 ≤ 127 → exec (.readStrayList l p) s =
        .next (answeredWith .readStrayList l p (strayListBytes s (s.view l) (u8 p 0)) s)) ∧
      (127 < u8 p 0 → exec (.readStrayList l p) s =
        .next (refusedWith .readStrayList l p .badValue s))) ∧
    (s.admits .readStray l p = true →
      (∀ pre e post, s.view l = pre ++ e :: post → e.id = BitVec.ofNat 16 (u16 p 0) →
        (∀ x ∈ pre, x.id ≠ e.id) → exec (.readStray l p) s =
          .next (answeredWith .readStray l p (strayBytes e ++ b1 pre.length) s)) ∧
      ((∀ e ∈ s.view l, e.id ≠ BitVec.ofNat 16 (u16 p 0)) → exec (.readStray l p) s =
        .next (refusedWith .readStray l p .notFound s))) ∧
    (s.admits .readResetCause l p = true → exec (.readResetCause l p) s =
      .next (answeredWith .readResetCause l p (causeBytes s) s))

/-! ### Loop requests (R1 to R4, R8, R25) -/

/-- R1, R2, R3, R16: an accepted CONFIGURE LOOP stores its values clamped, marks the response when a clamp
changed one, and rebuilds the tray table when T changes. -/
def Obligations.configureLoopClampsAndStores : Prop :=
  ∀ (l : LinkId) (p : Payload) (s : State), s.admits .configureLoop l p = true →
    (s.loop.state ≠ .stopped →
      exec (.configureLoop l p) s = .next (refusedWith .configureLoop l p .state s)) ∧
    (s.loop.state = .stopped → 64 ≤ u16 p 0 → u16 p 0 ≤ 512 →
      u16 p 0 = s.T ∨ (s.someOccupied = false ∧ s.offsetBeyond (u16 p 0) = false) →
      let high := max 2 (min (u16 p 0) (u16 p 6))
      let low := if high ≤ max 1 (u16 p 8) then high - 1 else max 1 (u16 p 8)
      let cfg : LoopConfig := ⟨max 500 (min 30000 (u16 p 2)), max 2000 (min 60000 (u16 p 4)), high, low,
        max 1 (min 7 (u8 p 10)), min 7 (u8 p 11), min 2000 (u16 p 12), min 2000 (u16 p 14),
        min 2000 (u16 p 16), min 2000 (u16 p 18)⟩
      ∃ u, exec (.configureLoop l p) s = .next (answering l (frameBytes 1 p)
          [1, 0, if cfg = requestedConfig p then 0 else 1, 0] u) ∧
        u = { s with loop := u.loop, inds := u.inds, notices := u.notices } ∧
        u.loop.cfg = cfg ∧ u.T = u16 p 0 ∧ u.loop.state = .stopped ∧
        (u.loop.hold = true ↔ (s.loop.hold = false ∧ high ≤ u.occupancy) ∨
          (s.loop.hold = true ∧ low < u.occupancy)) ∧
        (s.loop.hold = false → u.loop.hold = true → u.flagged .shore .loopHold = true) ∧
        (u16 p 0 = s.T → u.loop.trays = s.loop.trays ∧ u.loop.pos = s.loop.pos ∧
          u.inds = s.inds) ∧
        (u16 p 0 ≠ s.T → u.loop.trays = List.replicate (u16 p 0) .empty ∧ u.loop.pos = 0 ∧
          u.loop.homeMiss = 0 ∧ ∀ i, (u.ind i).windows = [] ∧
            (∀ k, (u.ind i).reservation ≠ .granted k) ∧
            ((s.ind i).reservation ≠ .none → (u.ind i).reservation = .requested)))

/-- R4, R8, R37: START LOOP and STOP LOOP. -/
def Obligations.startAndStopLoop : Prop :=
  ∀ (l : LinkId) (p : Payload) (s : State),
    (s.admits .startLoop l p = true →
      (s.loop.state ≠ .stopped →
        exec (.startLoop l p) s = .next (refusedWith .startLoop l p .state s)) ∧
      (s.loop.state = .stopped →
        ∃ u, exec (.startLoop l p) s = .next (answeredOk .startLoop l p u) ∧
          u = { s with
            inds := u.inds
            loop := { s.loop with
              state := .starting, measured := 0, intervals := [], pitchTime := none
              stallFrom := some s.clock.tick } } ∧
          ∀ i, u.ind i = if u.held i then s.ind i else (s.ind i).send .resume)) ∧
    (s.admits .stopLoop l p = true →
      (s.loop.state = .stopped →
        exec (.stopLoop l p) s = .next (answeredOk .stopLoop l p s)) ∧
      (s.loop.state ≠ .stopped →
        ∃ u, exec (.stopLoop l p) s = .next (answeredOk .stopLoop l p u) ∧
          u = { s with
            inds := u.inds, chutes := u.chutes, blocked := u.blocked, strayArmed := u.strayArmed
            fireQueue := []
            loop := { s.loop with
              trays := u.loop.trays, state := .stopped, stallFrom := none, pitchTime := none
              measured := 0, intervals := [] } } ∧
          u.T = s.T ∧
          (∀ k, (∀ b c, s.tray k ≠ .armed b c) → u.tray k = s.tray k) ∧
          (∀ k b c, s.tray k = .armed b c → u.tray k = .loaded b) ∧
          ∀ i, u.ind i =
            if s.held i then s.ind i else { (s.ind i).send .hold with resendCount := 0 }))

/-- R25, R50, R74, R135, R164: RESET LOOP clears what is in motion and keeps the tables; in STARTING and
RUNNING it is refused. -/
def Obligations.resetLoopClearsTheMotion : Prop :=
  ∀ (l : LinkId) (p : Payload) (s : State), s.admits .resetLoop l p = true →
    (s.loop.state = .starting ∨ s.loop.state = .running →
      exec (.resetLoop l p) s = .next (refusedWith .resetLoop l p .state s)) ∧
    (s.loop.state = .stopped ∨ s.loop.state = .stalled →
      ∃ u, exec (.resetLoop l p) s = .next (answeredOk .resetLoop l p u) ∧
        u = { s with
          loop := u.loop, inds := u.inds, pool := u.pool, slots := u.slots, chutes := u.chutes
          blocked := [], strayArmed := u.strayArmed, fireQueue := [], strays := u.strays
          notices := u.notices } ∧
        u.loop.state = .stopped ∧ u.loop.pos = 0 ∧ u.loop.homeMiss = 0 ∧ u.loop.hold = false ∧
        u.loop.stallFrom = none ∧ u.loop.cfg = s.loop.cfg ∧
        u.loop.trays = List.replicate s.T .empty ∧
        (∀ i, (u.ind i).queue = [] ∧ (u.ind i).queueHold = false ∧ (u.ind i).resync = false ∧
          (u.ind i).reservation = .none ∧ (u.ind i).waitCount = 0 ∧ (u.ind i).windows = [] ∧
          (u.ind i).offset = (s.ind i).offset ∧ (u.ind i).enabled = (s.ind i).enabled ∧
          (u.ind i).receiver = (s.ind i).receiver) ∧
        (∀ c, u.chute c = { s.chute c with committed := 0, windows := [] }) ∧
        u.pool = s.pool.map (fun e =>
          if e.status.isOnLoop then { e with status := .untracked } else e) ∧
        u.strays = s.strays.map (fun e =>
          if e.state = .routing ∨ ∃ x ∈ s.loop.trays, x.bag.bind (·.strayId) = some e.id then
            { e with untracked := true } else e) ∧
        (∀ sl, (u.slot sl).state =
          if (s.slot sl).state = .closing then .closed else (s.slot sl).state) ∧
        ∀ sl, (0 < s.onLoop sl → u.flagged (slotLink sl) .bagUntracked = true) ∧
          ((s.slot sl).state = .closing → u.flagged (slotLink sl) .cutoffComplete = true))

/-! ### Induction requests (R27 to R29) -/

/-- R27, R28, R29, R37: CONFIGURE INDUCTION stores its values, a new W without using it yet, and INDUCTION
RESUME ends RESYNC; HOLD or RESUME follows a change of the held state (on an idle line it is the frame being
sent: THE MODEL'S CHOICE, log 14). -/
def Obligations.configureAndResumeInductions : Prop :=
  ∀ (l : LinkId) (p : Payload) (s : State),
    (s.admits .configureInduction l p = true → ∀ i enabled, indOf (u8 p 0) = some i →
      yesNoOf (u8 p 5) = some enabled → (u8 p 3 = 1 ∨ u8 p 3 = 4 ∨ u8 p 3 = 8 ∨ u8 p 3 = 16) →
      1 ≤ u8 p 4 → u8 p 4 ≤ 64 → u16 p 1 < s.T → (enabled = true → u16 p 1 ≠ 0) →
      (∀ k, k ≠ i → u16 p 1 ≠ 0 → (s.ind k).offset ≠ u16 p 1) →
      (u16 p 1 ≠ (s.ind i).offset → (s.ind i).enabled = true →
        exec (.configureInduction l p) s = .next (refusedWith .configureInduction l p .state s)) ∧
      (u16 p 1 = (s.ind i).offset ∨ (s.ind i).enabled = false →
        ∃ u, exec (.configureInduction l p) s = .next (answeredOk .configureInduction l p u) ∧
          u = { s with loop := { s.loop with trays := u.loop.trays }, inds := u.inds } ∧
          (∀ k, k ≠ i → u.ind k = s.ind k) ∧
          (u.ind i).offset = u16 p 1 ∧ (u.ind i).n = u8 p 3 ∧ (u.ind i).w = u8 p 4 ∧
          (u.ind i).wInUse = (s.ind i).wInUse ∧ (u.ind i).enabled = enabled ∧ (u.ind i).resync = (s.ind i).resync ∧
          (u.ind i).windows = (s.ind i).windows ∧
          ((s.ind i).enabled = true → enabled = false → (u.ind i).queue = [] ∧
            (u.ind i).queueHold = false ∧ (u.ind i).waitCount = 0 ∧ (u.ind i).receiver = .idle ∧
            (u.ind i).reservation ≠ .requested) ∧
          ((s.ind i).enabled = false ∨ enabled = true →
            (u.ind i).queue = (s.ind i).queue ∧ (u.ind i).receiver = (s.ind i).receiver) ∧
          (u16 p 1 = (s.ind i).offset → u.loop = s.loop) ∧
          (∀ k, u16 p 1 ≠ (s.ind i).offset → (s.ind i).reservation = .granted k →
            (u.ind i).reservation = .none ∧ (s.tray k = .reserved i → u.tray k = .empty)) ∧
          ((s.ind i).sending = none → (s.ind i).waiting = [] → (u.ind i).sending =
            if s.held i = false ∧ u.held i = true then some .hold
            else if s.held i = true ∧ u.held i = false then some .resume else none))) ∧
    (s.admits .inductionResume l p = true →
      (3 < u8 p 0 →
        exec (.inductionResume l p) s = .next (refusedWith .inductionResume l p .badValue s)) ∧
      ∀ i, indOf (u8 p 0) = some i →
        ((s.ind i).resync = false →
          exec (.inductionResume l p) s = .next (refusedWith .inductionResume l p .state s)) ∧
        ((s.ind i).resync = true → ∀ r, r = { s.ind i with resync := false } →
          exec (.inductionResume l p) s = .next (answeredOk .inductionResume l p { s with
            inds := s.inds.set i
              (if r.queueHold = true ∨ heldByLoop s.loop.hold i = true ∨ s.atRest = true ∨
                r.enabled = false then r else r.send .resume) })))

/-! ### Tag windows and the manifest (chapter 3) -/

/-- R53, R54: an accepted SET WINDOW writes the window; an accepted CLEAR WINDOW makes it invalid and keeps
its target; a window in use is refused. -/
def Obligations.windowsAreWrittenAndCleared : Prop :=
  ∀ (l : LinkId) (p : Payload) (s : State) (n : Fin 8), u8 p 0 = n.val →
    (s.admits .setWindow l p = true → ∀ target digits, targetOf (u8 p 7) = some target →
      digits = (halfBytes p 2 5).take (u8 p 1) → 1 ≤ u8 p 1 → u8 p 1 ≤ 10 → (∀ d ∈ digits, d ≤ 9) →
      (∀ m, m ≠ n → (s.tagWindows.get m).digits ≠ digits) →
      (s.windowInUse (s.tagWindows.get n) = true →
        exec (.setWindow l p) s = .next (refusedWith .setWindow l p .windowInUse s)) ∧
      (s.windowInUse (s.tagWindows.get n) = false →
        (∀ m, m ≠ n → s.windowServes (s.tagWindows.get m) = true →
          prefixRelated digits (s.tagWindows.get m).digits = false) →
        exec (.setWindow l p) s = .next (answeredOk .setWindow l p
          { s with tagWindows := s.tagWindows.set n ⟨digits, target⟩ }))) ∧
    (s.admits .clearWindow l p = true →
      (s.windowInUse (s.tagWindows.get n) = true →
        exec (.clearWindow l p) s = .next (refusedWith .clearWindow l p .windowInUse s)) ∧
      (s.windowInUse (s.tagWindows.get n) = false →
        exec (.clearWindow l p) s = .next (answeredOk .clearWindow l p
          { s with tagWindows := s.tagWindows.set n ⟨[], (s.tagWindows.get n).target⟩ })))

/-- R61, R62, R63, R161: an accepted ADD BAG takes an entry EXPECTED for its tag, or STRAYED and linked when
a stray entry matches, which becomes MATCHED; no other entry changes. A tray that waits for the tag, the
only one, is classified again and routed when its cabin is mapped. -/
def Obligations.addBagTakesAnEntry : Prop :=
  ∀ (l : LinkId) (p : Payload) (s : State) (sl : Slot) (tag : Tag), l = slotLink sl →
    s.admits .addBag l p = true → tagAt p 0 = some tag → u16 p 5 ≠ 0 →
    (s.slot sl).state = .loading ∨ (s.slot sl).state = .final → s.decodeSlot tag = some sl →
    (∀ e, s.entry tag = some e →
      exec (.addBag l p) s = .next (refusedWith .addBag l p .exists_ s)) ∧
    (s.entry tag = none → (s.slot sl).quota ≤ s.entryCount sl →
      exec (.addBag l p) s = .next (refusedWith .addBag l p .quotaFull s)) ∧
    (s.entry tag = none → s.entryCount sl < (s.slot sl).quota →
      ∃ u, exec (.addBag l p) s = .next (answeredOk .addBag l p u) ∧
        u.entryCount sl = s.entryCount sl + 1 ∧
        (∀ other, other ≠ tag → (u.entry other).map (·.status) = (s.entry other).map (·.status)) ∧
        ((s.slot sl).state = .final → u.flagged (slotLink sl) .lateAdd = true) ∧
        ((∀ k b, (s.tray k).bag = some b → b.slot = some sl → b.tag = some tag →
            b.cls ≠ .waiting .unknownTag) →
          u = { s with pool := u.pool, slots := u.slots, strays := u.strays, notices := u.notices } ∧
          (∀ other, other ≠ tag → u.entry other = s.entry other) ∧
          (s.matchable sl tag = none → u.strays = s.strays ∧ u.entry tag =
            some ⟨tag, sl, u16 p 5, .expected, none, decide ((s.slot sl).state = .final)⟩) ∧
          ∀ e, s.matchable sl tag = some e →
            u.entry tag =
              some ⟨tag, sl, u16 p 5, .strayed, some e.id, decide ((s.slot sl).state = .final)⟩ ∧
            u.strays = (s.strays.map fun x => if x.id = e.id then { x with state := .matched } else x) ∧
            u.flagged (slotLink sl) .strayMatched = true) ∧
        ∀ k b, k < s.T → s.tray k = .loaded b → b.cls = .waiting .unknownTag → b.slot = some sl →
          b.tag = some tag → b.tag2 = none →
          (∀ j b', j ≠ k → (s.tray j).bag = some b' → b'.slot = some sl → b'.tag = some tag →
            b'.cls ≠ .waiting .unknownTag) →
          (s.lookup sl (u16 p 5)).isSome = true →
          ∃ b', (u.tray k).bag = some b' ∧ b'.cls = .routed ∧ b'.entryLink = some tag ∧
            (u.entry tag).map (·.status) = some (.onLoop false))

/-- R64, R65: WITHDRAW BAG returns the entry to the pool; the bag of an ON_LOOP entry becomes a WITHDRAWN
stray on its tray. A SELECTED or ARMED tray loses its selection, and it or a LOADED one is then LOADED, or
SELECTED for a STRAY chute; a FIRED or UNCONFIRMED tray stands. -/
def Obligations.withdrawBagReturnsTheEntry : Prop :=
  ∀ (l : LinkId) (p : Payload) (s : State) (sl : Slot) (tag : Tag), l = slotLink sl →
    s.admits .withdrawBag l p = true → tagAt p 0 = some tag →
    (s.entryIn sl tag = none →
      exec (.withdrawBag l p) s = .next (refusedWith .withdrawBag l p .notFound s)) ∧
    ∀ e, s.entryIn sl tag = some e →
      ∃ u, exec (.withdrawBag l p) s = .next (answeredOk .withdrawBag l p u) ∧
        u.entry tag = none ∧ (∀ other, other ≠ tag → u.entry other = s.entry other) ∧
        (e.status.isOnLoop = false →
          u = { s with pool := u.pool, slots := u.slots, notices := u.notices }) ∧
        ∀ k b, e.status.isOnLoop = true → k < s.T → (s.tray k).bag = some b →
          b.entryLink = some tag →
          (∀ j b', (s.tray j).bag = some b' → b'.entryLink = some tag → j = k) →
          ∃ b', b' = { b with
              cls := .stray .withdrawn, entryLink := none
              strayId := (recordStray ⟨.withdrawn, b.tag, none, b.slot, s.entryCabin b⟩ s).id } ∧
            (s.tray k = .loaded b ∨ (∃ c a d, s.tray k = .selected b c a d) ∨
                (∃ c, s.tray k = .armed b c) →
              u.tray k = .loaded b' ∨
              ∃ c a d, u.tray k = .selected b' c a d ∧ (u.chute c).cfg.role = .stray) ∧
            (∀ c a d, s.tray k = .selected b c a d → (s.chute c).cfg.role ≠ .stray →
              (u.chute c).committed = (s.chute c).committed - unitsOf b.size) ∧
            (∀ c, s.tray k = .armed b c →
              u.fireQueue = (s.fireQueue.filter fun r => r.tray ≠ k) ∧
              ((s.chute c).cfg.role ≠ .stray →
                (u.chute c).committed = (s.chute c).committed - unitsOf b.size)) ∧
            (∀ c g, s.tray k = .fired b c g → u.tray k = .fired b' c g) ∧
            (∀ c g, s.tray k = .unconfirmed b c g → u.tray k = .unconfirmed b' c g) ∧
            ∀ j, j ≠ k → u.tray j = s.tray j

/-- R66, R67: CHANGE CABIN sets the cabin. A present cabin changes nothing; for an entry not yet on the loop
the trays that wait with its tag for a cabin range are woken; a SORTED entry raises
CABIN_CHANGED_AFTER_SORT; an ON_LOOP entry whose tray is FIRED or UNCONFIRMED is marked changed in flight, and
one whose tray is SELECTED or ARMED selects again. -/
def Obligations.changeCabinFollowsTheStatus : Prop :=
  ∀ (l : LinkId) (p : Payload) (s : State) (sl : Slot) (tag : Tag) (e : BagEntry), l = slotLink sl →
    s.admits .changeCabin l p = true → tagAt p 0 = some tag → u16 p 5 ≠ 0 →
    s.entryIn sl tag = some e →
    (u16 p 5 = e.cabin →
      exec (.changeCabin l p) s = .next (answeredOk .changeCabin l p s)) ∧
    (u16 p 5 ≠ e.cabin → ∃ u, exec (.changeCabin l p) s = .next (answeredOk .changeCabin l p u) ∧
      (u.entry tag).map (·.cabin) = some (u16 p 5) ∧
      (∀ c t m, e.status = .sorted c t m →
        u = { s with pool := u.pool, notices := u.notices } ∧
        u.entry tag = some { e with cabin := u16 p 5 } ∧
        u.flagged (slotLink sl) .cabinChangedAfterSort = true) ∧
      (e.status.isOnLoop = false → e.status.sort = none → u =
        wakeWhere sl (fun b => b.cls = .waiting .cabinUnmapped && b.tag = some tag)
          { s with pool := s.pool.map fun x =>
              if x.tag = tag then { x with cabin := u16 p 5 } else x }) ∧
      (e.status.isOnLoop = false → e.status.sort = none →
        (∀ k b, (s.tray k).bag = some b → b.slot = some sl → b.tag = some tag →
          b.cls ≠ .waiting .cabinUnmapped) →
        u = { s with pool := u.pool } ∧ u.entry tag = some { e with cabin := u16 p 5 } ∧
        ∀ other, other ≠ tag → u.entry other = s.entry other) ∧
      ∀ k b, e.status.isOnLoop = true → k < s.T → (s.tray k).bag = some b →
        b.entryLink = some tag →
        (∀ j b', (s.tray j).bag = some b' → b'.entryLink = some tag → j = k) →
        (∀ c g, s.tray k = .fired b c g ∨ s.tray k = .unconfirmed b c g →
          u = { s with pool := u.pool } ∧
          u.entry tag = some { e with cabin := u16 p 5, status := .onLoop true }) ∧
        (s.tray k = .loaded b →
          u = { s with pool := u.pool } ∧ u.entry tag = some { e with cabin := u16 p 5 }) ∧
        (∀ c, s.tray k = .armed b c ∨ (∃ a d, s.tray k = .selected b c a d) →
          (u.tray k = .loaded b ∨ ∃ c' a d, u.tray k = .selected b c' a d) ∧
          (∀ r ∈ u.fireQueue, s.tray k = .armed b c → r.tray ≠ k) ∧
          ∀ j, j ≠ k → u.tray j = s.tray j))

/-- R70, R71, R72: SET CABIN RANGE and CLEAR CABIN RANGE. The range is written, and reads back as the
request's bytes; a cleared one keeps its values; a change wakes the slot's trays that wait for a cabin range,
and where none waits nothing else changes. -/
def Obligations.cabinRangesAreWritten : Prop :=
  ∀ (l : LinkId) (p : Payload) (s : State) (sl : Slot) (n : Fin 96), l = slotLink sl → u8 p 0 = n.val →
    (s.admits .setCabinRange l p = true → u16 p 1 ≠ 0 → u16 p 1 ≤ u16 p 3 →
      1 ≤ u8 p 5 → u8 p 5 ≤ 20 → 1 ≤ u8 p 6 → u8 p 6 ≤ 6 →
      (rangeOverlaps (s.maps.get sl) n (u16 p 1) (u16 p 3) = true →
        exec (.setCabinRange l p) s = .next (refusedWith .setCabinRange l p .overlap s)) ∧
      (rangeOverlaps (s.maps.get sl) n (u16 p 1) (u16 p 3) = false →
        ∃ u, exec (.setCabinRange l p) s = .next (answeredOk .setCabinRange l p u) ∧
          (u.maps.get sl).get n = ⟨true, u16 p 1, u16 p 3, u8 p 5, u8 p 6⟩ ∧
          rangeBytes ((u.maps.get sl).get n) = 1 :: p.drop 1 ∧
          (∀ m, m ≠ n → (u.maps.get sl).get m = (s.maps.get sl).get m) ∧
          u.maps.get sl.other = s.maps.get sl.other ∧
          ((s.maps.get sl).get n = ⟨true, u16 p 1, u16 p 3, u8 p 5, u8 p 6⟩ → u = s) ∧
          ((s.maps.get sl).get n ≠ ⟨true, u16 p 1, u16 p 3, u8 p 5, u8 p 6⟩ →
            u = wakeWhere sl (fun b => b.cls = .waiting .cabinUnmapped) { s with maps := u.maps }) ∧
          ((∀ k b, (s.tray k).bag = some b → b.slot = some sl → b.cls ≠ .waiting .cabinUnmapped) →
            u = { s with maps := u.maps }))) ∧
    (s.admits .clearCabinRange l p = true →
      ∃ u, exec (.clearCabinRange l p) s = .next (answeredOk .clearCabinRange l p u) ∧
        (u.maps.get sl).get n = { (s.maps.get sl).get n with valid := false } ∧
        (∀ m, m ≠ n → (u.maps.get sl).get m = (s.maps.get sl).get m) ∧
        u.maps.get sl.other = s.maps.get sl.other ∧
        (((s.maps.get sl).get n).valid = false → u = s) ∧
        (((s.maps.get sl).get n).valid = true →
          u = wakeWhere sl (fun b => b.cls = .waiting .cabinUnmapped) { s with maps := u.maps }) ∧
        ((∀ k b, (s.tray k).bag = some b → b.slot = some sl → b.cls ≠ .waiting .cabinUnmapped) →
          u = { s with maps := u.maps }))

/-- R60, R104, R105: a wake takes the WAITING trays of its set, as it stands when the wake is asked for, one
at a time, from the highest offset to the lowest, and no other tray changes; each that is WAITING still is
classified again and passed to selection, and a tray that is not WAITING is ignored. -/
def Obligations.wakesReachWaitingTraysOnly : Prop :=
  ∀ (sl : Slot) (want : BagRecord → Bool) (s : State),
    (s.loop.pos < s.T → ∃ ts : List Nat, wakeWhere sl want s = ts.foldl (fun u k => wakeTray k u) s ∧
      (∀ k, k ∈ ts ↔ k < s.T ∧ ∃ b, (s.tray k).bag = some b ∧ b.isWaiting = true ∧ b.slot = some sl ∧
        want b = true) ∧
      ts.Pairwise fun j k => s.offsetOf k < s.offsetOf j) ∧
    ∀ k : Nat,
      ((∀ b, (s.tray k).bag = some b → b.isWaiting = true → b.slot = some sl → want b = false) →
        (wakeWhere sl want s).tray k = s.tray k) ∧
      ((∀ b, (s.tray k).bag = some b → b.isWaiting = false) → wakeTray k s = s) ∧
      ∀ b tag, s.tray k = .loaded b → b.isWaiting = true → b.slot = some sl → b.tag = some tag →
        b.tag2 = none → s.decodeSlot tag = some sl →
        (∃ u, wakeTray k s = passToSelection k u ∧ u.loop = (classify k s).state.loop ∧
          u.pool = (classify k s).state.pool ∧ u.strays = (classify k s).state.strays ∧
          u.chutes = s.chutes) ∧
        ((s.slot sl).state = .closing → ∃ b', ((wakeTray k s).tray k).bag = some b' ∧
          b'.cls = .stray .shipClosed ∧ b'.slot = some sl) ∧
        ((s.slot sl).state = .final → s.entryIn sl tag = none →
          (∃ b', ((wakeTray k s).tray k).bag = some b' ∧ b'.cls = .stray .unknownTag) ∧
          (wakeTray k s).flagged (slotLink sl) .waitExpired = true) ∧
        ((s.slot sl).state = .loading → s.entryIn sl tag = none →
          (wakeTray k s).tray k =
            .loaded { b with cls := .waiting .unknownTag, strayId := none, entryLink := none }) ∧
        ∀ e g, (s.slot sl).state = .loading ∨ (s.slot sl).state = .final →
          s.entryIn sl tag = some e → e.status.code ≠ 1 → e.status.code ≠ 2 →
          s.lookup sl e.cabin = some g →
          (wakeTray k s).entry tag = some { e with status := .onLoop false } ∧
          ∃ b', b'.cls = .routed ∧ b'.entryLink = some tag ∧
            ((wakeTray k s).tray k = .loaded b' ∨ ∃ c a d,
              (wakeTray k s).tray k = .selected b' c a d ∧ (s.chute c).group = some g)

/-! ### Berth slots (chapter 4) -/

/-- R77, R80, R81, R159: BERTH opens a VACANT slot for a call with its quota; SET QUOTA sets the quota of a
berthed one and judges the QUOTA_LOW flag afresh; the two quotas share the pool of 8192. -/
def Obligations.berthAndSetQuota : Prop :=
  ∀ (l : LinkId) (p : Payload) (s : State) (sl : Slot), slotOf (u8 p 0) = some sl → u16 p 1 ≤ 8192 →
    (s.admits .berth l p = true →
      ((s.slot sl).state ≠ .vacant →
        exec (.berth l p) s = .next (refusedWith .berth l p .state s)) ∧
      ((s.slot sl).state = .vacant → 8192 < u16 p 1 + (s.slot sl.other).quota →
        exec (.berth l p) s = .next (refusedWith .berth l p .quotaFull s)) ∧
      ((s.slot sl).state = .vacant → u16 p 1 + (s.slot sl.other).quota ≤ 8192 →
        s.entryCount sl = 0 → exec (.berth l p) s = .next (answeredOk .berth l p { s with
          slots := s.slots.set sl ⟨.loading, u16 p 1, true, 0, (s.slot sl).call + 1⟩ }))) ∧
    (s.admits .setQuota l p = true →
      ((s.slot sl).state = .vacant →
        exec (.setQuota l p) s = .next (refusedWith .setQuota l p .state s)) ∧
      ((s.slot sl).state ≠ .vacant → u16 p 1 + (s.slot sl.other).quota ≤ 8192 →
        u16 p 1 < s.entryCount sl →
        exec (.setQuota l p) s = .next (refusedWith .setQuota l p .belowUse s)) ∧
      ((s.slot sl).state ≠ .vacant → u16 p 1 + (s.slot sl.other).quota ≤ 8192 →
        s.entryCount sl ≤ u16 p 1 →
        ∃ u, exec (.setQuota l p) s = .next (answeredOk .setQuota l p u) ∧
          u = { s with slots := u.slots, notices := u.notices } ∧
          u.slot sl.other = s.slot sl.other ∧
          u.slot sl = { s.slot sl with
            quota := u16 p 1
            quotaArmed := !(decide (0 < u16 p 1) && decide (9 * u16 p 1 ≤ 10 * s.entryCount sl)) } ∧
          ((u.slot sl).quotaArmed = false → u.flagged (slotLink sl) .quotaLow = true)))

/-- R78, R79, the requests themselves: MANIFEST FINAL and MANIFEST REOPEN by the state of
the link's own slot. -/
def Obligations.manifestFinalAndReopen : Prop :=
  ∀ (l : LinkId) (p : Payload) (s : State) (sl : Slot), l = slotLink sl → p = [] →
    (s.hears l (frameBytes 20 p) = true →
      ((s.slot sl).state = .vacant →
        exec (.manifestFinal l p) s = .next (refusedWith .manifestFinal l p .notBerthed s)) ∧
      ((s.slot sl).state = .closing ∨ (s.slot sl).state = .closed →
        exec (.manifestFinal l p) s = .next (refusedWith .manifestFinal l p .state s)) ∧
      ((s.slot sl).state = .loading →
        exec (.manifestFinal l p) s = .next (answeredOk .manifestFinal l p
          { s with slots := s.slots.set sl { s.slot sl with state := .final } })) ∧
      ((s.slot sl).state = .final →
        exec (.manifestFinal l p) s = .next (answeredOk .manifestFinal l p s))) ∧
    (s.hears l (frameBytes 21 p) = true →
      ((s.slot sl).state = .vacant →
        exec (.manifestReopen l p) s = .next (refusedWith .manifestReopen l p .notBerthed s)) ∧
      ((s.slot sl).state = .closing ∨ (s.slot sl).state = .closed →
        exec (.manifestReopen l p) s = .next (refusedWith .manifestReopen l p .state s)) ∧
      ((s.slot sl).state = .loading →
        exec (.manifestReopen l p) s = .next (answeredOk .manifestReopen l p s)) ∧
      ((s.slot sl).state = .final →
        exec (.manifestReopen l p) s = .next (answeredOk .manifestReopen l p
          { s with slots := s.slots.set sl { s.slot sl with state := .loading } })))

/-- R82, R83, R86, R87, R88: CUT OFF answers ACCEPTED and drains the slot: its WAITING bags become SHIP_CLOSED
strays, and with nothing of the slot on the loop it is CLOSED at once. UNBERTH of a CLOSED slot makes it
VACANT, returns its entries and map, and releases its chutes; R124, R131: a standby that comes to be
STANDBY_IDLE is judged for takeover, and where no chute record changes the other blocked records stand. -/
def Obligations.cutOffDrainsAndUnberthClears : Prop :=
  ∀ (l : LinkId) (p : Payload) (s : State) (sl : Slot),
    (s.admits .cutOff l p = true → l = slotLink sl ∨ (l = .shore ∧ slotOf (u8 p 0) = some sl) →
      ((s.slot sl).state = .closing ∨ (s.slot sl).state = .closed →
        exec (.cutOff l p) s = .next (refusedWith .cutOff l p .state s)) ∧
      ((s.slot sl).state = .loading ∨ (s.slot sl).state = .final → s.waitingLaw →
        ∃ u, exec (.cutOff l p) s = .next (answering l (frameBytes 23 p) [2, 0, 0, 0] u) ∧
          u.waiting sl = 0 ∧ u.onLoop sl = s.onLoop sl ∧ u.pool = s.pool ∧
          (0 < s.onLoop sl → (u.slot sl).state = .closing) ∧
          (s.onLoop sl = 0 → u = { s with slots := u.slots, notices := u.notices } ∧
            u.slot sl = { s.slot sl with state := .closed } ∧
            u.flagged (slotLink sl) .cutoffComplete = true) ∧
          ∀ k b, (s.tray k).bag = some b → b.isWaiting = true → b.slot = some sl →
            ∃ b', (u.tray k).bag = some b' ∧ b'.slot = some sl ∧
              (b.tag2 = none → b'.cls = .stray .shipClosed))) ∧
    (s.admits .unberth l p = true → slotOf (u8 p 0) = some sl →
      ((s.slot sl).state ≠ .closed →
        exec (.unberth l p) s = .next (refusedWith .unberth l p .state s)) ∧
      ((s.slot sl).state = .closed →
        ∃ u, exec (.unberth l p) s = .next (answeredOk .unberth l p u) ∧
          u = { s with
            pool := s.pool.filter fun e => e.slot ≠ sl
            maps := s.maps.set sl (Vector.replicate 96 ⟨false, 0, 0, 0, 0⟩)
            slots := s.slots.set sl
              { s.slot sl with quota := 0, quotaArmed := true, state := .vacant }
            chutes := u.chutes, blocked := u.blocked, strayArmed := u.strayArmed
            notices := u.notices } ∧
          (∀ r ∈ u.blocked, r.group.slot ≠ sl) ∧
          ((∀ c g, (s.chute c).group = some g → g.slot ≠ sl) → u.blocked =
            s.blocked.filter fun r => r.group.slot ≠ sl) ∧
          ∀ c, ((∀ g, (s.chute c).group = some g → g.slot ≠ sl) → u.chute c = s.chute c) ∧
            ∀ g, (s.chute c).group = some g → g.slot = sl →
              ((s.chute c).cfg.role = .sort → (s.chute c).state ≠ .swapping → (s.chute c).fill = 0 →
                u.chute c = { s.chute c with
                  group := none, released := false, state := .unassigned }) ∧
              ((s.chute c).cfg.role = .standby → (s.chute c).state ≠ .swapping →
                (s.chute c).state ≠ .standbyIdle → (s.chute c).fill = 0 →
                u.standbyJudged c { s.chute c with
                  group := none, released := false, tookOver := none, state := .standbyIdle }) ∧
              ((s.chute c).state = .swapping ∨ 0 < (s.chute c).fill →
                u.chute c = { s.chute c with released := true })))

/-! ### Chute requests (chapter 6) -/

/-- R111, R112: an accepted CONFIGURE CHUTE stores its values clamped, clears the fault flag and the failure
count, keeps the generation, fill and confirm list, and puts an idle chute in its starting state, a standby
judged for takeover (R124); an eye occluded as the chute leaves DISABLED is timed from then on, and an
occlusion that has lasted the new jam time sets the jam flag (with CHUTE_BLOCKED, and before the takeover: THE
MODEL'S CHOICE, log 18, 24); a chute in use is refused. R132: the STRAY_CHUTES_FULL flag is judged after it. -/
def Obligations.configureChuteClampsAndStores : Prop :=
  ∀ (l : LinkId) (p : Payload) (s : State) (c : ChuteId) (role : ChuteRole) (side : Side)
    (cover : List ChuteId), s.admits .configureChute l p = true → u8 p 0 = c.val →
    roleOf (u8 p 1) = some role → sideOf (u8 p 4) = some side → u16 p 2 < s.T →
    s.coverOf c role p = some cover →
    let cap := max 1 (u8 p 15)
    let cfg : ChuteConfig := ⟨role, u16 p 2, side, min 5000 (u16 p 5), max 10 (min 2000 (u16 p 7)),
      max 500 (min 10000 (u16 p 9)), max 1000 (min 600000 (u32 p 11)), cap,
      max 1 (min cap (u8 p 16)), cover⟩
    ((s.chute c).filling = true →
      exec (.configureChute l p) s = .next (refusedWith .configureChute l p .chuteInUse s)) ∧
    ((s.chute c).filling = false → s.placeTaken c (u16 p 2) side = false ∨ u16 p 2 = 0 →
      ((s.chute c).state = .swapping → cap ≥ (s.chute c).fill ∧
        ((s.chute c).group = none ∨ (role = (s.chute c).cfg.role ∧ u16 p 2 ≠ 0))) →
      ∃ u, exec (.configureChute l p) s = .next (answering l (frameBytes 26 p)
          [1, 0, if cfg = requestedChute role side cover p then 0 else 1, 0] u) ∧
        u = { s with
          chutes := u.chutes, blocked := u.blocked, strayArmed := u.strayArmed
          notices := u.notices } ∧
        (u.chute c).cfg = cfg ∧ (u.chute c).fault = false ∧ (u.chute c).failures = 0 ∧
        (u.chute c).gen = (s.chute c).gen ∧ (u.chute c).fill = (s.chute c).fill ∧
        (u.chute c).windows = (s.chute c).windows ∧
        (∀ k, k ≠ c → u.chute k = s.chute k) ∧
        u.strayArmed = (s.strayArmed || u.someEligible .stray 1) ∧
        ((s.chute c).state = .swapping → (u.chute c).state = .swapping) ∧
        ((s.chute c).state ≠ .swapping → u16 p 2 = 0 → (u.chute c).state = .disabled ∧
          (u.chute c).jam = false ∧ (u.chute c).occludedFrom = none) ∧
        ((s.chute c).state ≠ .swapping → u16 p 2 ≠ 0 →
          ∀ timed lasted, timed = (if (s.chute c).state = .disabled then
              (if (s.chute c).eye = true then some s.clock.tick else none)
            else (s.chute c).occludedFrom) →
          lasted = timed.any (fun t0 => t0 + cfg.jamTime ≤ s.clock.tick) →
          (lasted = true → (s.chute c).jam = false → u.flagged .shore .chuteBlocked = true) ∧
          ∀ x : Chute, x = { s.chute c with
              cfg := cfg, fault := false, failures := 0, occludedFrom := timed
              jam := (s.chute c).jam || lasted } →
            (role = .sort → u.chute c = { x with state := .unassigned }) ∧
            (role = .stray → u.chute c = { x with state := .isOpen }) ∧
            (role = .standby → u.standbyJudged c { x with state := .standbyIdle })))

/-- R113, R114: ASSIGN CHUTE gives an UNASSIGNED SORT chute a group of a slot in LOADING or FINAL and opens
it; RELEASE CHUTE takes the group from an OPEN chute without fill or committed units; R124: a standby is
STANDBY_IDLE again and judged for takeover. -/
def Obligations.assignAndReleaseChutes : Prop :=
  ∀ (l : LinkId) (p : Payload) (s : State) (c : ChuteId), u8 p 0 = c.val →
    (s.admits .assignChute l p = true → ∀ sl, slotOf (u8 p 1) = some sl →
      1 ≤ u8 p 2 → u8 p 2 ≤ 20 → 1 ≤ u8 p 3 → u8 p 3 ≤ 6 →
      ((s.chute c).cfg.role ≠ .sort ∨ (s.chute c).state ≠ .unassigned →
        exec (.assignChute l p) s = .next (refusedWith .assignChute l p .state s)) ∧
      ((s.chute c).cfg.role = .sort → (s.chute c).state = .unassigned →
        (s.slot sl).state = .loading ∨ (s.slot sl).state = .final →
        ∃ u, exec (.assignChute l p) s = .next (answeredOk .assignChute l p u) ∧
          u = { s with
            chutes := s.chutes.set c { s.chute c with
              group := some ⟨sl, u8 p 2, u8 p 3⟩, released := false, state := .isOpen }
            blocked := u.blocked } ∧
          ((u.chute c).eligible (.group ⟨sl, u8 p 2, u8 p 3⟩) 1 = true →
            u.blocked.all (fun r => r.group ≠ ⟨sl, u8 p 2, u8 p 3⟩) = true))) ∧
    (s.admits .releaseChute l p = true →
      ((s.chute c).group = none ∨ (s.chute c).released = true ∨ (s.chute c).filling = false →
        exec (.releaseChute l p) s = .next (refusedWith .releaseChute l p .state s)) ∧
      ((s.chute c).group.isSome = true → (s.chute c).released = false → (s.chute c).state = .isOpen →
        (0 < (s.chute c).fill ∨ 0 < (s.chute c).committed →
          exec (.releaseChute l p) s = .next (refusedWith .releaseChute l p .chuteInUse s)) ∧
        ((s.chute c).fill = 0 → (s.chute c).committed = 0 →
          ∃ u, exec (.releaseChute l p) s = .next (answeredOk .releaseChute l p u) ∧
            u = { s with
              chutes := u.chutes, blocked := u.blocked, strayArmed := u.strayArmed
              notices := u.notices } ∧
            (∀ k, k ≠ c → u.chute k = s.chute k) ∧
            ((s.chute c).cfg.role ≠ .standby →
              u.chute c = { s.chute c with group := none, state := .unassigned }) ∧
            ((s.chute c).cfg.role = .standby → u.standbyJudged c { s.chute c with
              group := none, tookOver := none, state := .standbyIdle }))))

/-- R125, R126: SWAP BEGIN puts the chute in SWAPPING and cancels its selections, so that its committed units
are 0; SWAP END empties it, raises the generation and clears its flags, and gives it the state of its role,
offset and group, a standby judged for takeover (R124). -/
def Obligations.swapsEmptyTheChute : Prop :=
  ∀ (l : LinkId) (p : Payload) (s : State) (c : ChuteId), u8 p 0 = c.val →
    (s.admits .swapBegin l p = true →
      ((s.chute c).filling = false →
        exec (.swapBegin l p) s = .next (refusedWith .swapBegin l p .state s)) ∧
      ((s.chute c).filling = true → s.committedLaw → 0 < s.T → s.loop.pos < s.T →
        ∃ u, exec (.swapBegin l p) s = .next (answeredOk .swapBegin l p u) ∧
          (u.chute c).state = .swapping ∧ (u.chute c).committed = 0 ∧
          (u.chute c).fill = (s.chute c).fill ∧ (u.chute c).group = (s.chute c).group ∧
          (u.chute c).released = (s.chute c).released ∧ (u.chute c).windows = (s.chute c).windows ∧
          u.T = s.T ∧ u.pool = s.pool ∧
          (∀ k, (s.tray k).boundFor c = false → u.tray k = s.tray k) ∧
          (∀ k b, (s.tray k).boundFor c = true → (s.tray k).bag = some b →
            u.tray k = .loaded b ∨ ∃ c' a d, c' ≠ c ∧ u.tray k = .selected b c' a d) ∧
          ∀ r ∈ u.fireQueue, ∀ b, s.tray r.tray ≠ .armed b c)) ∧
    (s.admits .swapEnd l p = true →
      ((s.chute c).state ≠ .swapping →
        exec (.swapEnd l p) s = .next (refusedWith .swapEnd l p .state s)) ∧
      ((s.chute c).state = .swapping →
        ∃ u, exec (.swapEnd l p) s = .next (answeredOk .swapEnd l p u) ∧
          u = { s with
            chutes := u.chutes, blocked := u.blocked, strayArmed := u.strayArmed
            notices := u.notices } ∧
          (u.chute c).fill = 0 ∧ (u.chute c).gen = (s.chute c).gen + 1 ∧ (u.chute c).jam = false ∧
          (u.chute c).fault = false ∧ (u.chute c).failures = 0 ∧
          (u.chute c).cfg = (s.chute c).cfg ∧ (u.chute c).windows = (s.chute c).windows ∧
          (∀ k, k ≠ c → u.chute k = s.chute k) ∧
          ((s.chute c).cfg.offset = 0 → (u.chute c).state = .disabled) ∧
          ((s.chute c).cfg.offset ≠ 0 → (s.chute c).cfg.role = .stray →
            (u.chute c).state = .isOpen) ∧
          ((s.chute c).cfg.offset ≠ 0 → (s.chute c).cfg.role = .sort →
            ((s.chute c).group.isSome = true → (s.chute c).released = false →
              (u.chute c).state = .isOpen ∧ (u.chute c).group = (s.chute c).group) ∧
            ((s.chute c).group = none ∨ (s.chute c).released = true →
              (u.chute c).state = .unassigned ∧ (u.chute c).group = none)) ∧
          ((s.chute c).cfg.offset ≠ 0 → (s.chute c).cfg.role = .standby →
            u.standbyJudged c { s.chute c with
              fill := 0, gen := (s.chute c).gen + 1, jam := false, fault := false, failures := 0
              occludedFrom := if (s.chute c).eye = true then some s.clock.tick else none
              state := .standbyIdle, group := none, released := false, tookOver := none })))

/-- R133 in whole: SET BLOCKED INTERVAL. -/
def Obligations.setBlockedIntervalRestartsTheCounts : Prop :=
  ∀ (l : LinkId) (p : Payload) (s : State), s.admits .setBlockedInterval l p = true →
    (u8 p 0 ≠ 1 → u8 p 0 ≠ 4 → u8 p 0 ≠ 8 → u8 p 0 ≠ 16 → exec (.setBlockedInterval l p) s =
      .next (refusedWith .setBlockedInterval l p .badValue s)) ∧
    (u8 p 0 = 1 ∨ u8 p 0 = 4 ∨ u8 p 0 = 8 ∨ u8 p 0 = 16 → exec (.setBlockedInterval l p) s =
      .next (answeredOk .setBlockedInterval l p { s with
        blockedN := u8 p 0, blocked := s.blocked.map fun r => ⟨r.group, r.count, 0⟩ }))

/-! ### The desk (chapter 8) -/

/-- R59, R165: RESOLVE STRAY makes the bag entry of the stray's tag STRAYED and linked, new or present, and
the stray RESOLVED for the decoded slot's present call. -/
def Obligations.resolveStrayLinksTheEntry : Prop :=
  ∀ (l : LinkId) (p : Payload) (s : State) (x : StrayEntry) (tag : Tag) (sl : Slot),
    s.admits .resolveStray l p = true → u16 p 2 ≠ 0 →
    s.strayOfId (BitVec.ofNat 16 (u16 p 0)) = some x → x.tag = some tag → x.state ≠ .reinducted →
    s.decodeSlot tag = some sl → (s.slot sl).state = .loading ∨ (s.slot sl).state = .final →
    (∀ e, s.entry tag = some e → e.status.isOnLoop = true →
      exec (.resolveStray l p) s = .next (refusedWith .resolveStray l p .state s)) ∧
    (s.entry tag = none → (s.slot sl).quota ≤ s.entryCount sl →
      exec (.resolveStray l p) s = .next (refusedWith .resolveStray l p .quotaFull s)) ∧
    ((s.entry tag = none ∧ s.entryCount sl < (s.slot sl).quota) ∨
        (∃ e, s.entry tag = some e ∧ e.status.isOnLoop = false) →
      ∃ u, exec (.resolveStray l p) s = .next (answeredOk .resolveStray l p u) ∧
        u = { s with pool := u.pool, slots := u.slots, notices := u.notices, strays := u.strays } ∧
        u.strays = s.strays.map (fun y => if y.id = x.id then
          { y with
            slot := some (sl, (s.slot sl).call), cabin := some (u16 p 2), state := .resolved }
          else y) ∧
        (∀ other, other ≠ tag → u.entry other = s.entry other) ∧
        (s.entry tag = none → u.entry tag = some ⟨tag, sl, u16 p 2, .strayed, some x.id,
          decide ((s.slot sl).state = .final)⟩) ∧
        ∀ e, s.entry tag = some e → u.slots = s.slots ∧ u.notices = s.notices ∧ u.entry tag =
          some { e with cabin := u16 p 2, status := .strayed, strayLink := some x.id })

/-- R166: DISCARD STRAY removes the entry and drops its id wherever it stands; an entry that no one holds, or
that follows a tracked reinducted bag, is refused. -/
def Obligations.discardStrayRemovesTheEntry : Prop :=
  ∀ (l : LinkId) (p : Payload) (s : State) (id : BitVec 16), s.admits .discardStray l p = true →
    id = BitVec.ofNat 16 (u16 p 0) →
    ((∀ e ∈ s.strays, e.id ≠ id) →
      exec (.discardStray l p) s = .next (refusedWith .discardStray l p .notFound s)) ∧
    ∀ e, s.strayOfId id = some e →
      (e.state = .reinducted → e.untracked = false →
        exec (.discardStray l p) s = .next (refusedWith .discardStray l p .state s)) ∧
      (e.state ≠ .reinducted ∨ e.untracked = true →
        ∃ u, exec (.discardStray l p) s = .next (answeredOk .discardStray l p u) ∧
          u = { s with
            strays := s.strays.filter fun y => y.id ≠ id
            pool := s.pool.map fun y =>
              if y.strayLink = some id then { y with strayLink := none } else y
            loop := { s.loop with trays := u.loop.trays } } ∧
          u.T = s.T ∧ ∀ k, u.tray k = (s.tray k).mapBag fun b =>
            if b.strayId = some id then { b with strayId := none } else b)

/-! ### Notice requests and the reset cause (chapters 9 and 10) -/

/-- R177, R178: FETCH NOTICE returns the lowest group latched and unfetched, with its lowest calling source,
else GENERIC; the group is fetched, and in AUTO the returned source's flag is cleared. With no such group the
result is NONE and the record stands. -/
def Obligations.fetchNoticeTakesTheLowest : Prop :=
  ∀ (l : LinkId) (p : Payload) (s : State) (r : NoticeRecord), s.admits .fetchNotice l p = true →
    r = s.notices.get l →
    ((∀ g, r.latches.get g ≠ .set) → exec (.fetchNotice l p) s =
      .next (answeredWith .fetchNotice l p [0, 0, 0, 0, BitVec.ofNat 8 r.latchByte] s)) ∧
    ∀ g n, r.latches.get g = .set → (∀ h, h.code < g.code → r.latches.get h ≠ .set) →
      ((1 ≤ n ∧ n ≤ 7 ∧ (r.calling g).getLsbD n = true ∧
          ∀ m, 1 ≤ m → m < n → (r.calling g).getLsbD m = false) ∨
        (n = 0 ∧ ∀ m, 1 ≤ m → m ≤ 7 → (r.calling g).getLsbD m = false)) →
      let cleared := if r.mode = .auto ∧ n ≠ 0 then
          r.flags.set g (r.flags.get g &&& ~~~ BitVec.ofNat 8 (2 ^ n)) else r.flags
      let r1 : NoticeRecord := { r with latches := r.latches.set g .fetched, flags := cleared }
      exec (.fetchNotice l p) s = .next (answeredWith .fetchNotice l p
        [1, BitVec.ofNat 8 g.code, BitVec.ofNat 8 n, cleared.get g, BitVec.ofNat 8 r1.latchByte]
        { s with notices := s.notices.set l r1 })

/-- R179 to R182: ACK GROUP, CLEAR NOTICE, SET NOTICE ENABLES and SET CLEAR MODE, each on the sender's own
notice record; R192: CLEAR RESET CAUSE, on the part's one reset cause record. -/
def Obligations.noticeRequestsActOnTheOwnRecord : Prop :=
  ∀ (l : LinkId) (p : Payload) (s : State) (r : NoticeRecord), r = s.notices.get l →
    (s.admits .ackGroup l p = true → ∀ g, u8 p 0 = NoticeGroup.code g →
      exec (.ackGroup l p) s = .next (answeredOk .ackGroup l p { s with
        notices := s.notices.set l { r with
          latches := r.latches.set g (if r.pending g then .set else .clear) } })) ∧
    (s.admits .ackGroup l p = true → 3 < u8 p 0 →
      exec (.ackGroup l p) s = .next (refusedWith .ackGroup l p .badValue s)) ∧
    (s.admits .clearNotice l p = true → 3 < u8 p 0 →
      exec (.clearNotice l p) s = .next (refusedWith .clearNotice l p .badValue s)) ∧
    (s.admits .clearNotice l p = true → ∀ g, u8 p 0 = NoticeGroup.code g →
      (7 < u8 p 1 →
        exec (.clearNotice l p) s = .next (refusedWith .clearNotice l p .badValue s)) ∧
      (u8 p 1 = 0 → exec (.clearNotice l p) s = .next (answeredOk .clearNotice l p s)) ∧
      (1 ≤ u8 p 1 → u8 p 1 ≤ 7 → exec (.clearNotice l p) s =
        .next (answeredOk .clearNotice l p { s with notices := s.notices.set l { r with
          flags := r.flags.set g (r.flags.get g &&& ~~~ BitVec.ofNat 8 (2 ^ u8 p 1)) } }))) ∧
    (s.admits .setNoticeEnables l p = true →
      ∃ u r1, exec (.setNoticeEnables l p) s = .next (answeredOk .setNoticeEnables l p u) ∧
        u = { s with notices := s.notices.set l r1 } ∧ r1.flags = r.flags ∧ r1.mode = r.mode ∧
        r1.enables = ⟨p.getD 0 0 &&& 0xE8, p.getD 1 0 &&& 0xDE, p.getD 2 0 &&& 0xBE,
          p.getD 3 0 &&& 0xFE⟩ ∧
        ∀ g, r1.latches.get g =
          if r.latches.get g = .clear ∧ r1.pending g = true then .set else r.latches.get g) ∧
    (s.admits .setClearMode l p = true →
      (u8 p 0 = 0 → exec (.setClearMode l p) s = .next (answeredOk .setClearMode l p
        { s with notices := s.notices.set l { r with mode := .auto } })) ∧
      (u8 p 0 = 1 → exec (.setClearMode l p) s = .next (answeredOk .setClearMode l p
        { s with notices := s.notices.set l { r with mode := .manual } })) ∧
      (1 < u8 p 0 →
        exec (.setClearMode l p) s = .next (refusedWith .setClearMode l p .badValue s))) ∧
    (s.admits .clearResetCause l p = true → exec (.clearResetCause l p) s =
      .next (answeredOk .clearResetCause l p { s with cause := ⟨false, false⟩ }))
end

