-- ==== Sys2Proof/Laws/Bytes.lean ====
section
/-! SUPPORT. The width of each coded field (R195), and what a payload field reads. -/

namespace Sys2Proof.Machine

@[simp] theorem length_b1 (n : Nat) : (b1 n).length = 1 := rfl
@[simp] theorem length_b2 (n : Nat) : (b2 n).length = 2 := rfl
@[simp] theorem length_b4 (n : Nat) : (b4 n).length = 4 := rfl
@[simp] theorem length_bFlag (b : Bool) : (bFlag b).length = 1 := rfl
@[simp] theorem length_bGroup (g : Group) : (bGroup g).length = 3 := rfl
@[simp] theorem length_bTag (t : Tag) : (bTag t).length = 5 := rfl

/-- An optional field has its width when its value's coding has. -/
theorem length_bOpt {α : Type} (w : Nat) (x : Option α) (f : α → List Byte)
    (h : ∀ v, (f v).length = w) : (bOpt w x f).length = w := by
  cases x with
  | none => simp [bOpt]
  | some v => exact h v

/-- A list field keeps all its places. -/
theorem length_bPlaces {α : Type} (places w : Nat) (xs : List α) (f : α → List Byte)
    (h : ∀ v, (f v).length = w) : (bPlaces places w xs f).length = places * w := by
  unfold bPlaces
  rw [List.length_flatMap]
  simp [length_bOpt w _ f h]

theorem u8_lt (p : Payload) (i : Nat) : u8 p i < 256 := (p.getD i 0).isLt

theorem u16_lt (p : Payload) (i : Nat) : u16 p i < 65536 := by
  have h1 := u8_lt p i; have h2 := u8_lt p (i + 1); unfold u16; omega

/-- A two-byte field written as two bytes is those two bytes (R195). -/
theorem b2_u16 (p : Payload) (i : Nat) : b2 (u16 p i) = [p.getD i 0, p.getD (i + 1) 0] := by
  have h1 := u8_lt p i; have h2 := u8_lt p (i + 1)
  unfold b2 u16
  congr 1
  · have : (u8 p i * 256 + u8 p (i + 1)) / 256 = u8 p i := by omega
    rw [this]; simp [u8]
  · congr 1
    apply BitVec.eq_of_toNat_eq
    simp only [BitVec.toNat_ofNat]
    have : (u8 p i * 256 + u8 p (i + 1)) % 2 ^ 8 = u8 p (i + 1) := by omega
    rw [this]; rfl

/-- A code read back is its name (Table 11-1). -/
theorem noticeGroupOf_code (g : NoticeGroup) : noticeGroupOf (NoticeGroup.code g) = some g := by
  cases g <;> rfl

theorem slotOf_code (sl : Slot) : slotOf sl.code = some sl := by cases sl <;> rfl

theorem linkSlot_slotLink (sl : Slot) : linkSlot (slotLink sl) = some sl := by cases sl <;> rfl

theorem chuteOf_val (c : ChuteId) : chuteOf c.val = some c := by simp [chuteOf]

end Sys2Proof.Machine
end

