-- ==== Sys2Proof/Laws/Frames.lean ====
section
/-! SUPPORT. Frames: what each shared operation leaves unchanged, said once. A state is masked over the
fields an operation may touch; the operation's frame says that the masked state is the same before and
after. Any untouched field follows by `congrArg`. -/

namespace Sys2Proof.Machine

/-! ### Masks -/

/-- Over the notice records. -/
def State.sansNotices (s : State) : State := { s with notices := State.reset.notices }

/-- Over the slot records and the notice records. -/
def State.sansSlots (s : State) : State := { s with slots := State.reset.slots, notices := State.reset.notices }

/-- Over the inductions. -/
def State.sansInds (s : State) : State := { s with inds := State.reset.inds }

/-- Over what a change of a chute record can reach: the chutes, the judged lists and the notices. -/
def State.sansChutes (s : State) : State :=
  { s with
    chutes := State.reset.chutes, blocked := [], strayArmed := true
    notices := State.reset.notices }

/-- Over what a selection can reach: the tray table, the fire queue and what a chute's change reaches. -/
def State.sansSelection (s : State) : State :=
  { s with
    loop := { s.loop with trays := [] }, fireQueue := [], chutes := State.reset.chutes, blocked := []
    strayArmed := true, notices := State.reset.notices }

/-- Over what emptying or loading a tray can reach: trays, loop hold, slots, notices. -/
def State.sansTrays (s : State) : State :=
  { s with
    loop := { s.loop with trays := [], hold := false }, slots := State.reset.slots
    notices := State.reset.notices }

/-- Over what a classification can reach: trays, pool, slots, the stray list and the notices. -/
def State.sansBags (s : State) : State :=
  { s with
    loop := { s.loop with trays := [], hold := false }, pool := [], slots := State.reset.slots, strays := []
    unlisted := 0, nextStrayId := 0, notices := State.reset.notices }

/-- Over everything that the bags on the loop can reach; the configuration, the clocks, the windows, the
maps, the ports, the reset cause and the queue are left. -/
def State.sansTraffic (s : State) : State :=
  { s with
    loop := { s.loop with trays := [], hold := false }, inds := State.reset.inds, pool := []
    slots := State.reset.slots, chutes := State.reset.chutes, blocked := [], strayArmed := true
    fireQueue := [], strays := [], unlisted := 0, nextStrayId := 0, notices := State.reset.notices }

/-! ### Each mask hides what the smaller ones hide -/

theorem State.sansChutes_sansNotices (s : State) : s.sansChutes = s.sansNotices.sansChutes := rfl
theorem State.sansSelection_sansChutes (s : State) : s.sansSelection = s.sansChutes.sansSelection := rfl
theorem State.sansTrays_sansSlots (s : State) : s.sansTrays = s.sansSlots.sansTrays := rfl
theorem State.sansBags_sansTrays (s : State) : s.sansBags = s.sansTrays.sansBags := rfl
theorem State.sansBags_sansSlots (s : State) : s.sansBags = s.sansSlots.sansBags := rfl
theorem State.sansBags_sansNotices (s : State) : s.sansBags = s.sansNotices.sansBags := rfl
theorem State.sansTraffic_sansBags (s : State) : s.sansTraffic = s.sansBags.sansTraffic := rfl
theorem State.sansTraffic_sansTrays (s : State) : s.sansTraffic = s.sansTrays.sansTraffic := rfl
theorem State.sansTraffic_sansSelection (s : State) : s.sansTraffic = s.sansSelection.sansTraffic := rfl
theorem State.sansTraffic_sansChutes (s : State) : s.sansTraffic = s.sansChutes.sansTraffic := rfl
theorem State.sansTraffic_sansInds (s : State) : s.sansTraffic = s.sansInds.sansTraffic := rfl
theorem State.sansTraffic_sansNotices (s : State) : s.sansTraffic = s.sansNotices.sansTraffic := rfl

/-- A fold keeps whatever each of its steps keeps. -/
theorem foldl_keeps {α β : Type} (m : State → β) (f : State → α → State)
    (h : ∀ s a, m (f s a) = m s) (xs : List α) (s : State) : m (xs.foldl f s) = m s := by
  induction xs generalizing s with
  | nil => rfl
  | cons x r ih => exact (ih _).trans (h s x)

/-! ### Notices, slots, the loop hold -/

theorem raise_frame (n : Notice) (sc : Scope) (s : State) :
    (raise n sc s).sansNotices = s.sansNotices := rfl

theorem raiseIf_frame (b : Bool) (n : Notice) (sc : Scope) (s : State) :
    (raiseIf b n sc s).sansNotices = s.sansNotices := by
  unfold raiseIf; split <;> rfl

theorem modSlot_frame (sl : Slot) (f : SlotRecord → SlotRecord) (s : State) :
    (modSlot sl f s).sansSlots = s.sansSlots := rfl

theorem judgeQuota_frame (sl : Slot) (s : State) : (judgeQuota sl s).sansSlots = s.sansSlots := by
  unfold judgeQuota; dsimp only; split
  · rfl
  · split <;> rfl

theorem reportZero_frame (sl : Slot) (s : State) : (reportZero sl s).sansSlots = s.sansSlots := by
  unfold reportZero; split <;> rfl

theorem reportCount_frame (sl : Slot) (s : State) : (reportCount sl s).sansSlots = s.sansSlots := by
  unfold reportCount; split
  · exact reportZero_frame sl s
  · rfl

/-- R86: a report closes at most its own slot, and moves no other field of any slot record. -/
theorem reportZero_slot (sl k : Slot) (s : State) :
    (reportZero sl s).slot k =
      if k = sl ∧ (s.slot sl).state = .closing then { s.slot k with state := .closed } else s.slot k := by
  unfold reportZero
  by_cases h : (s.slot sl).state = .closing
  · cases sl <;> cases k <;>
      simp_all [raise, modSlot, State.slot, PerSlot.get, PerSlot.set]
  · simp [h]

theorem judgeLoopHold_frame (s : State) : (judgeLoopHold s).sansTrays = s.sansTrays := by
  unfold judgeLoopHold; split
  · rfl
  · split <;> rfl

/-- R16: the loop hold moves only the hold flag and, when it is asserted, the notices. -/
theorem judgeLoopHold_trays (s : State) : (judgeLoopHold s).loop.trays = s.loop.trays := by
  unfold judgeLoopHold; split
  · rfl
  · split <;> rfl

theorem reportCount_loop (sl : Slot) (s : State) : (reportCount sl s).loop = s.loop := by
  unfold reportCount reportZero; split
  · split <;> rfl
  · rfl

theorem emptyTray_frame (t : Nat) (s : State) : (emptyTray t s).sansTrays = s.sansTrays := by
  unfold emptyTray; dsimp only
  rw [judgeLoopHold_frame]
  split
  · rw [State.sansTrays_sansSlots, reportCount_frame]; rfl
  · rfl

/-- Emptying a tray rewrites that tray and no other. -/
theorem emptyTray_trays (t : Nat) (s : State) :
    (emptyTray t s).loop.trays = s.loop.trays.set t .empty := by
  unfold emptyTray; dsimp only
  rw [judgeLoopHold_trays]
  split
  · rw [reportCount_loop]; rfl
  · rfl

theorem loadTray_frame (t : Nat) (b : BagRecord) (s : State) :
    (loadTray t b s).sansTrays = s.sansTrays := judgeLoopHold_frame _

theorem loadTray_trays (t : Nat) (b : BagRecord) (s : State) :
    (loadTray t b s).loop.trays = s.loop.trays.set t (.loaded b) := judgeLoopHold_trays _

/-! ### Inductions and their holds -/

theorem modInd_frame (i : IndId) (f : Induction → Induction) (s : State) :
    (modInd i f s).sansInds = s.sansInds := rfl

theorem settleHold_frame (b s : State) (i : IndId) : (settleHold b s i).sansInds = s.sansInds := by
  unfold settleHold; split <;> rfl

theorem settleHolds_frame (b s : State) : (settleHolds b s).sansInds = s.sansInds :=
  foldl_keeps State.sansInds _ (fun s i => settleHold_frame b s i) _ s

theorem requestReservation_frame (i : IndId) (s : State) :
    (requestReservation i s).sansInds = s.sansInds := by
  unfold requestReservation; split <;> rfl

theorem loseReservation_frame (i : IndId) (t : Nat) (s : State) :
    (loseReservation i t s).sansInds = s.sansInds := by
  unfold loseReservation; split <;> rfl

theorem resendHold_frame (i : IndId) (s : State) : (resendHold i s).sansInds = s.sansInds := by
  unfold resendHold; split <;> rfl

theorem dropWindows_frame (s : State) : (dropWindows s).sansInds = s.sansInds :=
  foldl_keeps State.sansInds (fun s i => modInd i (fun r => { r with windows := [] }) s)
    (fun _ _ => rfl) _ s

theorem writeNote_frame (t : Nat) (n : UndoNote) (s : State) :
    (writeNote t n s).sansInds = s.sansInds := by
  unfold writeNote; split <;> rfl

/-- R37: a settled induction keeps every field but its transmit list and re-send count. -/
theorem send_keeps (f : TxFrame) (r : Induction) :
    { r.send f with sending := none, waiting := [] } = { r with sending := none, waiting := [] } := by
  unfold Induction.send
  split
  · rfl
  · split <;> rfl

/-! ### Chutes -/

theorem putChute_frame (c : ChuteId) (x : Chute) (s : State) :
    (putChute c x s).sansChutes = s.sansChutes := rfl

theorem judgeBlocked_frame (s : State) : (judgeBlocked s).sansChutes = s.sansChutes := rfl

theorem judgeStrayArmed_frame (s : State) : (judgeStrayArmed s).sansChutes = s.sansChutes := by
  unfold judgeStrayArmed; split <;> rfl

theorem setChute_frame (c : ChuteId) (x : Chute) (s : State) :
    (setChute c x s).sansChutes = s.sansChutes := by
  unfold setChute; dsimp only; split
  · rfl
  · split
    · exact judgeStrayArmed_frame _
    · rfl

/-- A chute record rewritten is the only one rewritten: what is judged after it moves no chute. -/
theorem setChute_chutes (c : ChuteId) (x : Chute) (s : State) :
    (setChute c x s).chutes = s.chutes.set c x := by
  unfold setChute judgeStrayArmed; dsimp only; split
  · rfl
  · split
    · split <;> rfl
    · rfl

theorem modChute_frame (c : ChuteId) (f : Chute → Chute) (s : State) :
    (modChute c f s).sansChutes = s.sansChutes := setChute_frame _ _ _

theorem modChute_chutes (c : ChuteId) (f : Chute → Chute) (s : State) :
    (modChute c f s).chutes = s.chutes.set c (f (s.chute c)) := setChute_chutes _ _ _

theorem takeOver_frame (k c : ChuteId) (s : State) : (takeOver k c s).sansChutes = s.sansChutes := by
  unfold takeOver; dsimp only
  rw [State.sansChutes_sansNotices, raise_frame, ← State.sansChutes_sansNotices, modChute_frame]

theorem coverFull_frame (c : ChuteId) (s : State) : (coverFull c s).sansChutes = s.sansChutes := by
  unfold coverFull; split
  · exact foldl_keeps State.sansChutes _ (fun s k => takeOver_frame k c s) _ s
  · rfl

theorem judgeStandby_frame (c : ChuteId) (s : State) : (judgeStandby c s).sansChutes = s.sansChutes := by
  unfold judgeStandby; split
  · split
    · exact takeOver_frame _ _ _
    · rfl
  · rfl

theorem judgeFill_frame (c : ChuteId) (s : State) : (judgeFill c s).sansChutes = s.sansChutes := by
  unfold judgeFill; dsimp only; split
  · split
    · rw [coverFull_frame, State.sansChutes_sansNotices, raise_frame, ← State.sansChutes_sansNotices,
        modChute_frame]
    · rw [State.sansChutes_sansNotices, raiseIf_frame, ← State.sansChutes_sansNotices, modChute_frame]
  · rfl

theorem returnCommitted_frame (c : ChuteId) (u : Nat) (s : State) :
    (returnCommitted c u s).sansChutes = s.sansChutes := modChute_frame _ _ _

theorem returnFill_frame (c : ChuteId) (g : BitVec 8) (u : Nat) (s : State) :
    (returnFill c g u s).sansChutes = s.sansChutes := by
  unfold returnFill; split
  · rw [judgeFill_frame, modChute_frame]
  · rfl

theorem tiltFailed_frame (c : ChuteId) (s : State) : (tiltFailed c s).sansChutes = s.sansChutes := by
  unfold tiltFailed; dsimp only; split
  · rfl
  · split
    · rw [State.sansChutes_sansNotices, raiseIf_frame, ← State.sansChutes_sansNotices, modChute_frame]
    · exact modChute_frame _ _ _

theorem removeWindow_frame (c : ChuteId) (t : Nat) (s : State) :
    (removeWindow c t s).sansChutes = s.sansChutes := rfl

theorem setJam_frame (c : ChuteId) (s : State) : (setJam c s).sansChutes = s.sansChutes := by
  unfold setJam
  rw [State.sansChutes_sansNotices, raise_frame, ← State.sansChutes_sansNotices, modChute_frame]

theorem clearEye_frame (c : ChuteId) (s : State) : (clearEye c s).sansChutes = s.sansChutes := by
  unfold clearEye
  rw [judgeStandby_frame, judgeStrayArmed_frame, judgeBlocked_frame, modChute_frame]

theorem blockedSelection_frame (g : Group) (s : State) :
    (blockedSelection g s).sansChutes = s.sansChutes := by
  unfold blockedSelection; split
  · dsimp only; rw [State.sansChutes_sansNotices, raiseIf_frame]; rfl
  · rw [State.sansChutes_sansNotices, raise_frame]; split <;> rfl

theorem noChute_frame (d : Dest) (u : Nat) (s : State) : (noChute d u s).sansChutes = s.sansChutes := by
  unfold noChute; split
  · rfl
  · split
    · exact blockedSelection_frame _ _
    · split <;> rfl

/-! ### Selections -/

theorem cancelSelection_frame (t : Nat) (s : State) :
    (cancelSelection t s).sansSelection = s.sansSelection := by
  unfold cancelSelection; split
  all_goals first
    | rfl
    | (change State.sansSelection (returnCommitted _ _ _) = _
       rw [State.sansSelection_sansChutes, returnCommitted_frame]; rfl)

theorem passToSelection_frame (t : Nat) (s : State) :
    (passToSelection t s).sansSelection = s.sansSelection := by
  unfold passToSelection; split
  · split
    · split
      · rw [State.sansSelection_sansChutes, modChute_frame]; rfl
      · rw [State.sansSelection_sansChutes, noChute_frame]; rfl
    · rfl
  all_goals rfl

theorem cancelAll_frame (want : Tray → Bool) (s : State) :
    (cancelAll want s).sansSelection = s.sansSelection :=
  foldl_keeps State.sansSelection _ (fun s t => cancelSelection_frame t s) _ s

theorem armTray_frame (t : Nat) (s : State) : (armTray t s).sansSelection = s.sansSelection := by
  unfold armTray; split
  · split
    · split
      · change State.sansSelection (returnCommitted _ _ _) = _
        rw [State.sansSelection_sansChutes, returnCommitted_frame]; rfl
      · dsimp only
        rw [State.sansSelection_sansChutes, State.sansChutes_sansNotices, raiseIf_frame]; rfl
    · rfl
  all_goals rfl

theorem closeUnconfirmed_frame (c : ChuteId) (w : ConfirmWindow) (l : List ConfirmWindow) (s : State) :
    (closeUnconfirmed c w l s).sansSelection = s.sansSelection := by
  unfold closeUnconfirmed; split
  · split <;> rfl
  all_goals rfl

theorem openWindow_frame (c : ChuteId) (t : Nat) (s : State) :
    (openWindow c t s).sansSelection = s.sansSelection := by
  unfold openWindow; dsimp only; split
  · split
    · exact closeUnconfirmed_frame _ _ _ _
    · rfl
  · rfl

theorem fireRecord_frame (r : FireRecord) (s : State) :
    (fireRecord r s).sansSelection = s.sansSelection := by
  unfold fireRecord; split
  · split
    · dsimp only
      rw [openWindow_frame]
      change State.sansSelection (judgeFill _ _) = _
      rw [State.sansSelection_sansChutes, judgeFill_frame, modChute_frame]; rfl
    · rfl
  all_goals rfl

theorem fireHead_frame (s : State) : (fireHead s).sansSelection = s.sansSelection := by
  unfold fireHead; split
  · split
    · exact fireRecord_frame _ _
    · rfl
  · rfl

/-! ### Bags, entries and strays -/

theorem modBag_frame (t : Nat) (f : BagRecord → BagRecord) (s : State) :
    (modBag t f s).sansTrays = s.sansTrays := rfl

theorem modEntry_frame (tag : Tag) (f : BagEntry → BagEntry) (s : State) :
    (modEntry tag f s).sansBags = s.sansBags := rfl

theorem sortEntry_frame (tag : Tag) (c : ChuteId) (u : Bool) (s : State) :
    (sortEntry tag c u s).sansBags = s.sansBags := by
  unfold sortEntry; split
  · split
    · rw [State.sansBags_sansNotices, raiseIf_frame]; rfl
    all_goals rfl
  · rfl

theorem modStray_frame (id : BitVec 16) (f : StrayEntry → StrayEntry) (s : State) :
    (modStray id f s).sansBags = s.sansBags := rfl

theorem countStray_frame (sl : Option Slot) (s : State) :
    (countStray sl s).sansSlots = s.sansSlots := by
  unfold countStray; split <;> rfl

theorem recordStray_frame (q : StrayRequest) (s : State) :
    (recordStray q s).state.sansBags = s.sansBags := by
  have h : (countStray q.slot s).sansBags = s.sansBags := by
    rw [State.sansBags_sansSlots, countStray_frame]; rfl
  unfold recordStray; dsimp only; split
  · exact h
  · split <;> exact h

theorem reinductStray_frame (tag : Tag) (sl : Slot) (s : State) :
    (reinductStray tag sl s).state.sansBags = s.sansBags := by
  unfold reinductStray; split <;> rfl

theorem removeStray_frame (id : BitVec 16) (s : State) : (removeStray id s).sansBags = s.sansBags := rfl

theorem straySorted_frame (id : Option (BitVec 16)) (s : State) :
    (straySorted id s).sansBags = s.sansBags := by
  unfold straySorted; split
  · split <;> rfl
  · rfl

theorem strayUntracked_frame (id : Option (BitVec 16)) (s : State) :
    (strayUntracked id s).sansBags = s.sansBags := by
  unfold strayUntracked; split <;> rfl

theorem undoStray_frame (u : UndoStray) (s : State) : (undoStray u s).sansBags = s.sansBags := by
  unfold undoStray; split
  · split
    · split
      · rfl
      · split <;> rfl
    · rfl
  · split
    · split <;> rfl
    · rfl

theorem undoNote_frame (linked : Option Tag) (n : UndoNote) (s : State) :
    (undoNote linked n s).sansBags = s.sansBags := by
  have h : ∀ u, (if linked = some u.tag then restoreEntry u s else s).sansBags = s.sansBags := by
    intro u; split <;> rfl
  unfold undoNote; dsimp only; split
  · refine (undoStray_frame _ _).trans ?_
    split
    · exact h _
    · rfl
  · split
    · exact h _
    · rfl

theorem sortBag_frame (b : BagRecord) (c : ChuteId) (u : Bool) (s : State) :
    (sortBag b c u s).sansBags = s.sansBags := by
  unfold sortBag; split
  · exact (straySorted_frame _ _).trans (sortEntry_frame _ _ _ _)
  · split
    · split <;> rfl
    · rfl

theorem loseBag_frame (b : BagRecord) (s : State) : (loseBag b s).sansBags = s.sansBags := by
  unfold loseBag
  refine (strayUntracked_frame _ _).trans ?_
  split <;> rfl

theorem makeStray_frame (t : Nat) (q : StrayRequest) (s : State) :
    (makeStray t q s).state.sansBags = s.sansBags := recordStray_frame q s

theorem makeWaiting_frame (t : Nat) (r : WaitReason) (s : State) :
    (makeWaiting t r s).state.sansBags = s.sansBags := rfl

theorem routeBag_frame (t : Nat) (sl : Slot) (e : BagEntry) (s : State) :
    (routeBag t sl e s).state.sansBags = s.sansBags := reinductStray_frame _ _ _

theorem classifyEntry_frame (t : Nat) (tag : Tag) (sl : Slot) (e : BagEntry) (s : State) :
    (classifyEntry t tag sl e s).state.sansBags = s.sansBags := by
  unfold classifyEntry; split
  case h_1 => exact (makeStray_frame _ _ _).trans rfl
  case h_2 => exact (makeStray_frame _ _ _).trans rfl
  all_goals
    split
    · exact routeBag_frame _ _ _ _
    · split
      · rfl
      · exact makeStray_frame _ _ _

theorem classifyInSlot_frame (t : Nat) (tag : Tag) (sl : Slot) (s : State) :
    (classifyInSlot t tag sl s).state.sansBags = s.sansBags := by
  unfold classifyInSlot; split
  · exact makeStray_frame _ _ _
  · split
    · exact classifyEntry_frame _ _ _ _ _
    · split
      · rfl
      · exact makeStray_frame _ _ _

theorem classifyTag_frame (t : Nat) (tag : Tag) (s : State) :
    (classifyTag t tag s).state.sansBags = s.sansBags := by
  unfold classifyTag; split
  · exact makeStray_frame _ _ _
  · split
    all_goals first
      | exact makeStray_frame _ _ _
      | exact classifyInSlot_frame _ _ _ _

/-- Classification (R94 to R100) reaches the tray's bag record, the pool, the stray list, a stray count and
the notices, nothing else. -/
theorem classify_frame (t : Nat) (s : State) : (classify t s).state.sansBags = s.sansBags := by
  unfold classify; split
  · rfl
  · split
    · exact makeStray_frame _ _ _
    · split
      · exact makeStray_frame _ _ _
      · exact classifyTag_frame _ _ _

/-! ### Wakes, the check eye, claims: the traffic of the loop -/

theorem raiseExpired_frame (t : Nat) (s : State) :
    (raiseExpired t s).sansNotices = s.sansNotices := by
  unfold raiseExpired; split
  · exact raiseIf_frame _ _ _ _
  · rfl

theorem wakeTray_frame (t : Nat) (s : State) : (wakeTray t s).sansTraffic = s.sansTraffic := by
  unfold wakeTray; split
  · split
    · dsimp only
      rw [State.sansTraffic_sansSelection, passToSelection_frame, ← State.sansTraffic_sansSelection,
        State.sansTraffic_sansNotices, raiseExpired_frame, ← State.sansTraffic_sansNotices,
        State.sansTraffic_sansInds, writeNote_frame, ← State.sansTraffic_sansInds,
        State.sansTraffic_sansBags, classify_frame]; rfl
    · rfl
  all_goals rfl

theorem wakeWhere_frame (sl : Slot) (want : BagRecord → Bool) (s : State) :
    (wakeWhere sl want s).sansTraffic = s.sansTraffic :=
  foldl_keeps State.sansTraffic _ (fun s t => wakeTray_frame t s) _ s

theorem makeStray_traffic (t : Nat) (q : StrayRequest) (s : State) :
    (makeStray t q s).state.sansTraffic = s.sansTraffic := by
  rw [State.sansTraffic_sansBags, makeStray_frame]; rfl

theorem classify_traffic (t : Nat) (s : State) : (classify t s).state.sansTraffic = s.sansTraffic := by
  rw [State.sansTraffic_sansBags, classify_frame]; rfl

theorem passToSelection_traffic (t : Nat) (s : State) :
    (passToSelection t s).sansTraffic = s.sansTraffic := by
  rw [State.sansTraffic_sansSelection, passToSelection_frame]; rfl

theorem emptyTray_traffic (t : Nat) (s : State) : (emptyTray t s).sansTraffic = s.sansTraffic := by
  rw [State.sansTraffic_sansTrays, emptyTray_frame]; rfl

theorem loadTray_traffic (t : Nat) (b : BagRecord) (s : State) :
    (loadTray t b s).sansTraffic = s.sansTraffic := by
  rw [State.sansTraffic_sansTrays, loadTray_frame]; rfl

theorem raiseExpired_traffic (t : Nat) (s : State) : (raiseExpired t s).sansTraffic = s.sansTraffic := by
  rw [State.sansTraffic_sansNotices, raiseExpired_frame]; rfl

theorem judgeWait_frame (t : Nat) (s : State) : (judgeWait t s).sansTraffic = s.sansTraffic := by
  have h := classify_traffic t s
  unfold judgeWait; dsimp only; split
  · split
    · split
      · change State.sansTraffic (makeStray _ _ _).state = _
        rw [makeStray_traffic]; exact h
      · exact h
    · exact h
    · rw [raiseExpired_traffic]; exact h
  · exact h

theorem judgeLimit_frame (t : Nat) (s : State) : (judgeLimit t s).sansTraffic = s.sansTraffic := by
  unfold judgeLimit; split
  · split
    · dsimp only
      split
      · change State.sansTraffic (makeStray _ _ _).state = _
        exact makeStray_traffic _ _ _
      · exact makeStray_traffic _ _ _
    · rfl
  · rfl

theorem newPass_frame (t : Nat) (s : State) : (newPass t s).sansTraffic = s.sansTraffic := by
  unfold newPass; dsimp only
  rw [passToSelection_traffic, judgeLimit_frame]
  split
  · split
    · rw [judgeWait_frame]; rfl
    · rfl
  · rfl

theorem loadOrphan_frame (t : Nat) (s : State) : (loadOrphan t s).sansTraffic = s.sansTraffic := by
  unfold loadOrphan
  rw [passToSelection_traffic, makeStray_traffic, loadTray_traffic]

theorem orphanFound_frame (t : Nat) (s : State) : (orphanFound t s).sansTraffic = s.sansTraffic := by
  unfold orphanFound; dsimp only
  rw [loadOrphan_frame, State.sansTraffic_sansNotices, raise_frame, ← State.sansTraffic_sansNotices]
  split
  case h_1 => rw [State.sansTraffic_sansInds, loseReservation_frame]; rfl
  all_goals rfl

theorem settleLoaded_frame (t : Nat) (b : BagRecord) (eye : Bool) (s : State) :
    (settleLoaded t b eye s).sansTraffic = s.sansTraffic := by
  unfold settleLoaded lostBag; split
  · exact newPass_frame _ _
  · rw [emptyTray_traffic, State.sansTraffic_sansBags, loseBag_frame]; rfl

theorem settleUnconfirmed_frame (t : Nat) (b : BagRecord) (c : ChuteId) (g : BitVec 8) (eye : Bool)
    (s : State) : (settleUnconfirmed t b c g eye s).sansTraffic = s.sansTraffic := by
  unfold settleUnconfirmed tiltFailure sortInferred; split
  · rw [newPass_frame]
    change State.sansTraffic (tiltFailed _ _) = _
    rw [State.sansTraffic_sansChutes, tiltFailed_frame, returnFill_frame]; rfl
  · rw [emptyTray_traffic]
    change State.sansTraffic (sortBag _ _ _ _) = _
    rw [State.sansTraffic_sansBags, sortBag_frame]; rfl

theorem settleRow_frame (t : Nat) (eye : Bool) (s : State) :
    (settleRow t eye s).sansTraffic = s.sansTraffic := by
  unfold settleRow; split
  case h_1 => split; exacts [orphanFound_frame _ _, rfl]
  case h_2 => split; exacts [orphanFound_frame _ _, rfl]
  case h_3 => exact settleLoaded_frame _ _ _ _
  case h_4 => exact settleUnconfirmed_frame _ _ _ _ _ _
  case h_5 =>
    rw [settleLoaded_frame]
    change State.sansTraffic (cancelSelection _ _) = _
    rw [State.sansTraffic_sansSelection, cancelSelection_frame]; rfl
  case h_6 => rw [settleUnconfirmed_frame]; rfl
  case h_7 => split; exacts [loadOrphan_frame _ _, emptyTray_traffic _ _]
  case h_8 => rfl

theorem closeLaunch_frame (t : Nat) (s : State) : (closeLaunch t s).sansTraffic = s.sansTraffic := by
  unfold closeLaunch; split
  · change State.sansTraffic (List.foldl _ _ _) = _
    exact foldl_keeps State.sansTraffic
      (fun s i => modInd i (fun r => { r with windows := r.windows.filter fun w => w.tray != t }) s)
      (fun _ _ => rfl) _ s
  · rfl

/-- A tray without an open launch window has none closed. -/
theorem closeLaunch_of_none (t : Nat) (s : State) (h : ∀ i, ∀ w ∈ (s.ind i).windows, w.tray ≠ t) :
    closeLaunch t s = s := by
  unfold closeLaunch
  rw [if_neg]
  simp only [List.any_eq_true, decide_eq_true_eq]
  rintro ⟨i, -, w, hw, e⟩
  exact h i w hw e

/-- After the check eye has closed a tray's launch windows none is open, and the others stand. -/
theorem closeLaunch_windows (t : Nat) (s : State) (i : IndId) :
    ((closeLaunch t s).ind i).windows = (s.ind i).windows.filter fun w => w.tray != t := by
  unfold closeLaunch
  split
  · cases i <;> rfl
  · next h =>
    refine (List.filter_eq_self.mpr fun w hw => ?_).symm
    simp only [List.any_eq_true, decide_eq_true_eq] at h
    exact bne_iff_ne.mpr fun e => h ⟨i, by cases i <;> simp [allInds], w, hw, e⟩

theorem reconcile_frame (t : Nat) (eye : Bool) (s : State) :
    (reconcile t eye s).sansTraffic = s.sansTraffic :=
  (settleRow_frame _ _ _).trans (closeLaunch_frame _ _)

theorem grantReservation_frame (s : State) : (grantReservation s).sansTraffic = s.sansTraffic := by
  unfold grantReservation; split
  · split <;> rfl
  · rfl

theorem claimTray_frame (i : IndId) (t : Nat) (s : State) :
    (claimTray i t s).sansTraffic = s.sansTraffic := by
  unfold claimTray; split
  · dsimp only
    rw [State.sansTraffic_sansInds, modInd_frame, ← State.sansTraffic_sansInds, passToSelection_traffic,
      classify_traffic, loadTray_traffic]; rfl
  · rfl

theorem releaseGranted_frame (i : IndId) (t : Nat) (s : State) :
    (releaseGranted i t s).sansTraffic = s.sansTraffic := by
  unfold releaseGranted freeReserved; split
  · split <;> rfl
  · rfl

theorem requestReservation_traffic (i : IndId) (s : State) :
    (requestReservation i s).sansTraffic = s.sansTraffic := by
  rw [State.sansTraffic_sansInds, requestReservation_frame]; rfl

theorem claimCheck_frame (hold : Bool) (i : IndId) (s : State) :
    (claimCheck hold i s).sansTraffic = s.sansTraffic := by
  unfold claimCheck; dsimp only; split
  · rw [requestReservation_traffic, claimTray_frame]
  · rw [requestReservation_traffic]
    change State.sansTraffic (if _ then _ else _) = _
    split
    · exact releaseGranted_frame _ _ _
    · rfl

/-- One act of a pitch event reaches the traffic alone: the loop's own position and timing, every
configuration, the clocks, the windows, the maps and the ports stand. -/
theorem doAct_frame (hold eye : Bool) (s : State) (a : PitchAct) :
    (doAct hold eye s a).sansTraffic = s.sansTraffic := by
  unfold doAct
  rw [State.sansTraffic_sansInds, settleHolds_frame, ← State.sansTraffic_sansInds]
  cases a with
  | claim i => exact claimCheck_frame _ _ _
  | grant => exact grantReservation_frame _
  | reconcile => exact reconcile_frame _ _ _
  | arm t =>
    dsimp only
    rw [State.sansTraffic_sansSelection, armTray_frame]; rfl
  | reselect t => exact passToSelection_traffic _ _

theorem expireWindows_frame (i : IndId) (s : State) :
    (expireWindows i s).sansTraffic = s.sansTraffic := by
  unfold expireWindows
  rw [State.sansTraffic_sansInds, modInd_frame, ← State.sansTraffic_sansInds]
  exact foldl_keeps State.sansTraffic (fun s (w : LaunchWindow) => confirmLaunch w.tray s) (fun _ _ => rfl) _ s

/-- All acts of a pitch event, in whatever order the free choice gives (log 1). -/
theorem pitchActs_frame (hold first : Bool) (order : List Nat) (eye : Bool) (s : State) :
    (pitchActs hold first order eye s).sansTraffic = s.sansTraffic := by
  unfold pitchActs; dsimp only
  rw [foldl_keeps State.sansTraffic _ (fun s a => doAct_frame hold eye s a)]
  exact foldl_keeps State.sansTraffic _
    (fun s i => by rw [expireWindows_frame]; rfl) _ s

end Sys2Proof.Machine
end

