-- ==== Sys2Proof/Laws/Orders.lean ====
section
/-! SUPPORT. The orders the manual leaves open (log 1, 2): whatever a choice sequence gives, a merge takes
every act of every thread once. -/

namespace Sys2Proof.Machine

theorem sum_length_filter_nonempty {α : Type} (ts : List (List α)) :
    ((ts.filter (!·.isEmpty)).map (·.length)).sum = (ts.map (·.length)).sum := by
  induction ts with
  | nil => rfl
  | cons t r ih => cases t <;> simp_all

theorem flatten_filter_nonempty {α : Type} (ts : List (List α)) :
    (ts.filter (!·.isEmpty)).flatten = ts.flatten := by
  induction ts with
  | nil => rfl
  | cons t r ih => cases t <;> simp_all

/-- Taking the head of one thread takes one act away from the whole. -/
theorem perm_flatten_set {α : Type} (ts : List (List α)) (k : Nat) (x : α) (r : List α)
    (h : ts[k]? = some (x :: r)) : (x :: (ts.set k r).flatten).Perm ts.flatten := by
  induction ts generalizing k with
  | nil => simp at h
  | cons t q ih =>
    cases k with
    | zero =>
      obtain rfl : t = x :: r := by simpa using h
      simp
    | succ k =>
      have h' : q[k]? = some (x :: r) := by simpa using h
      simp only [List.set_cons_succ, List.flatten_cons]
      exact (List.perm_middle.symm).trans ((ih k h').append_left t)

theorem interleave_perm {α : Type} (fuel : Nat) (choices : List Nat) (ts : List (List α))
    (h : (ts.map (·.length)).sum ≤ fuel) : (interleave fuel choices ts).Perm ts.flatten := by
  induction fuel generalizing choices ts with
  | zero =>
    have h0 : ts.flatten.length = 0 := by
      rw [List.length_flatten]; exact Nat.le_zero.mp h
    rw [List.eq_nil_of_length_eq_zero h0]
    simp [interleave]
  | succ n ih =>
    unfold interleave; dsimp only
    rw [← flatten_filter_nonempty ts]
    rw [← sum_length_filter_nonempty ts] at h
    have hne : ∀ t ∈ ts.filter (!·.isEmpty), t ≠ [] := by
      intro t ht; simpa using (List.mem_filter.mp ht).2
    generalize hq : ts.filter (!·.isEmpty) = q at *
    split
    case h_1 x r hk =>
      have hp := perm_flatten_set q _ x r hk
      have hl := hp.length_eq
      simp only [List.length_cons, List.length_flatten] at hl
      have hle : ((q.set (choices.headD 0 % q.length) r).map List.length).sum ≤ n := by
        change (q.map List.length).sum ≤ n + 1 at h
        omega
      exact ((ih _ _ hle).cons x).trans hp
    case h_2 hk => exact absurd rfl (hne [] (List.mem_of_getElem? hk))
    case h_3 hk =>
      have : q = [] := by
        by_contra hq0
        have hpos : 0 < q.length := List.length_pos_iff.mpr hq0
        have := List.getElem?_eq_none_iff.mp hk
        have := Nat.mod_lt (choices.headD 0) hpos
        omega
      simp [this]

/-- Every act is taken, and once: the merge is a rearrangement of all the threads' acts. -/
theorem merged_perm {α : Type} (choices : List Nat) (ts : List (List α)) :
    (merged choices ts).Perm ts.flatten :=
  interleave_perm _ _ _ (le_refl _)

end Sys2Proof.Machine
end

