-- ==== Sys2Proof/Laws/State.lean ====
section
/-! SUPPORT. One lemma per field per update of State, each true by rfl, and the read-after-write laws of
the small families. -/

namespace Sys2Proof.Machine

/-! ### PerSlot -/

@[simp] theorem PerSlot.get_set {α : Type} (v : PerSlot α) (k : Slot) (x : α) : (v.set k x).get k = x := by
  cases k <;> rfl

@[simp] theorem PerSlot.get_set_ne {α : Type} (v : PerSlot α) (k j : Slot) (x : α) (h : j ≠ k) :
    (v.set k x).get j = v.get j := by
  cases k <;> cases j <;> first | rfl | exact absurd rfl h

theorem PerSlot.ext_get {α : Type} {v w : PerSlot α} (h : ∀ k, v.get k = w.get k) : v = w := by
  cases v; cases w
  simp only [PerSlot.mk.injEq]
  exact ⟨h .a, h .b⟩

/-! ### PerInd -/

@[simp] theorem PerInd.get_set {α : Type} (v : PerInd α) (k : IndId) (x : α) : (v.set k x).get k = x := by
  cases k <;> rfl

@[simp] theorem PerInd.get_set_ne {α : Type} (v : PerInd α) (k j : IndId) (x : α) (h : j ≠ k) :
    (v.set k x).get j = v.get j := by
  cases k <;> cases j <;> first | rfl | exact absurd rfl h

theorem PerInd.ext_get {α : Type} {v w : PerInd α} (h : ∀ k, v.get k = w.get k) : v = w := by
  cases v; cases w
  simp only [PerInd.mk.injEq]
  exact ⟨h .i0, h .i1, h .i2, h .i3⟩

/-! ### PerLink -/

@[simp] theorem PerLink.get_set {α : Type} (v : PerLink α) (k : LinkId) (x : α) : (v.set k x).get k = x := by
  cases k <;> rfl

@[simp] theorem PerLink.get_set_ne {α : Type} (v : PerLink α) (k j : LinkId) (x : α) (h : j ≠ k) :
    (v.set k x).get j = v.get j := by
  cases k <;> cases j <;> first | rfl | exact absurd rfl h

theorem PerLink.ext_get {α : Type} {v w : PerLink α} (h : ∀ k, v.get k = w.get k) : v = w := by
  cases v; cases w
  simp only [PerLink.mk.injEq]
  exact ⟨h .shore, h .vesselA, h .vesselB⟩

/-! ### PerGroup -/

@[simp] theorem PerGroup.get_set {α : Type} (v : PerGroup α) (k : NoticeGroup) (x : α) : (v.set k x).get k = x := by
  cases k <;> rfl

@[simp] theorem PerGroup.get_set_ne {α : Type} (v : PerGroup α) (k j : NoticeGroup) (x : α) (h : j ≠ k) :
    (v.set k x).get j = v.get j := by
  cases k <;> cases j <;> first | rfl | exact absurd rfl h

theorem PerGroup.ext_get {α : Type} {v w : PerGroup α} (h : ∀ k, v.get k = w.get k) : v = w := by
  cases v; cases w
  simp only [PerGroup.mk.injEq]
  exact ⟨h .loop, h .chutes, h .strays, h .ships⟩

/-! ### putTray changes loop alone -/

@[simp] theorem putTray_inds (t : Nat) (x : Tray) (s : State) : (putTray t x s).inds = s.inds := rfl
@[simp] theorem putTray_tagWindows (t : Nat) (x : Tray) (s : State) : (putTray t x s).tagWindows = s.tagWindows := rfl
@[simp] theorem putTray_pool (t : Nat) (x : Tray) (s : State) : (putTray t x s).pool = s.pool := rfl
@[simp] theorem putTray_maps (t : Nat) (x : Tray) (s : State) : (putTray t x s).maps = s.maps := rfl
@[simp] theorem putTray_slots (t : Nat) (x : Tray) (s : State) : (putTray t x s).slots = s.slots := rfl
@[simp] theorem putTray_chutes (t : Nat) (x : Tray) (s : State) : (putTray t x s).chutes = s.chutes := rfl
@[simp] theorem putTray_blocked (t : Nat) (x : Tray) (s : State) : (putTray t x s).blocked = s.blocked := rfl
@[simp] theorem putTray_blockedN (t : Nat) (x : Tray) (s : State) : (putTray t x s).blockedN = s.blockedN := rfl
@[simp] theorem putTray_strayArmed (t : Nat) (x : Tray) (s : State) : (putTray t x s).strayArmed = s.strayArmed := rfl
@[simp] theorem putTray_fireQueue (t : Nat) (x : Tray) (s : State) : (putTray t x s).fireQueue = s.fireQueue := rfl
@[simp] theorem putTray_clock (t : Nat) (x : Tray) (s : State) : (putTray t x s).clock = s.clock := rfl
@[simp] theorem putTray_strays (t : Nat) (x : Tray) (s : State) : (putTray t x s).strays = s.strays := rfl
@[simp] theorem putTray_unlisted (t : Nat) (x : Tray) (s : State) : (putTray t x s).unlisted = s.unlisted := rfl
@[simp] theorem putTray_nextStrayId (t : Nat) (x : Tray) (s : State) : (putTray t x s).nextStrayId = s.nextStrayId := rfl
@[simp] theorem putTray_notices (t : Nat) (x : Tray) (s : State) : (putTray t x s).notices = s.notices := rfl
@[simp] theorem putTray_ports (t : Nat) (x : Tray) (s : State) : (putTray t x s).ports = s.ports := rfl
@[simp] theorem putTray_cause (t : Nat) (x : Tray) (s : State) : (putTray t x s).cause = s.cause := rfl
@[simp] theorem putTray_resetLow (t : Nat) (x : Tray) (s : State) : (putTray t x s).resetLow = s.resetLow := rfl
@[simp] theorem putTray_freeCount (t : Nat) (x : Tray) (s : State) : (putTray t x s).freeCount = s.freeCount := rfl
@[simp] theorem putTray_incoming (t : Nat) (x : Tray) (s : State) : (putTray t x s).incoming = s.incoming := rfl
@[simp] theorem putTray_arriving (t : Nat) (x : Tray) (s : State) : (putTray t x s).arriving = s.arriving := rfl
@[simp] theorem putTray_pending (t : Nat) (x : Tray) (s : State) : (putTray t x s).pending = s.pending := rfl

/-! ### modSlot changes slots alone -/

@[simp] theorem modSlot_loop (sl : Slot) (f : SlotRecord → SlotRecord) (s : State) : (modSlot sl f s).loop = s.loop := rfl
@[simp] theorem modSlot_inds (sl : Slot) (f : SlotRecord → SlotRecord) (s : State) : (modSlot sl f s).inds = s.inds := rfl
@[simp] theorem modSlot_tagWindows (sl : Slot) (f : SlotRecord → SlotRecord) (s : State) : (modSlot sl f s).tagWindows = s.tagWindows := rfl
@[simp] theorem modSlot_pool (sl : Slot) (f : SlotRecord → SlotRecord) (s : State) : (modSlot sl f s).pool = s.pool := rfl
@[simp] theorem modSlot_maps (sl : Slot) (f : SlotRecord → SlotRecord) (s : State) : (modSlot sl f s).maps = s.maps := rfl
@[simp] theorem modSlot_chutes (sl : Slot) (f : SlotRecord → SlotRecord) (s : State) : (modSlot sl f s).chutes = s.chutes := rfl
@[simp] theorem modSlot_blocked (sl : Slot) (f : SlotRecord → SlotRecord) (s : State) : (modSlot sl f s).blocked = s.blocked := rfl
@[simp] theorem modSlot_blockedN (sl : Slot) (f : SlotRecord → SlotRecord) (s : State) : (modSlot sl f s).blockedN = s.blockedN := rfl
@[simp] theorem modSlot_strayArmed (sl : Slot) (f : SlotRecord → SlotRecord) (s : State) : (modSlot sl f s).strayArmed = s.strayArmed := rfl
@[simp] theorem modSlot_fireQueue (sl : Slot) (f : SlotRecord → SlotRecord) (s : State) : (modSlot sl f s).fireQueue = s.fireQueue := rfl
@[simp] theorem modSlot_clock (sl : Slot) (f : SlotRecord → SlotRecord) (s : State) : (modSlot sl f s).clock = s.clock := rfl
@[simp] theorem modSlot_strays (sl : Slot) (f : SlotRecord → SlotRecord) (s : State) : (modSlot sl f s).strays = s.strays := rfl
@[simp] theorem modSlot_unlisted (sl : Slot) (f : SlotRecord → SlotRecord) (s : State) : (modSlot sl f s).unlisted = s.unlisted := rfl
@[simp] theorem modSlot_nextStrayId (sl : Slot) (f : SlotRecord → SlotRecord) (s : State) : (modSlot sl f s).nextStrayId = s.nextStrayId := rfl
@[simp] theorem modSlot_notices (sl : Slot) (f : SlotRecord → SlotRecord) (s : State) : (modSlot sl f s).notices = s.notices := rfl
@[simp] theorem modSlot_ports (sl : Slot) (f : SlotRecord → SlotRecord) (s : State) : (modSlot sl f s).ports = s.ports := rfl
@[simp] theorem modSlot_cause (sl : Slot) (f : SlotRecord → SlotRecord) (s : State) : (modSlot sl f s).cause = s.cause := rfl
@[simp] theorem modSlot_resetLow (sl : Slot) (f : SlotRecord → SlotRecord) (s : State) : (modSlot sl f s).resetLow = s.resetLow := rfl
@[simp] theorem modSlot_freeCount (sl : Slot) (f : SlotRecord → SlotRecord) (s : State) : (modSlot sl f s).freeCount = s.freeCount := rfl
@[simp] theorem modSlot_incoming (sl : Slot) (f : SlotRecord → SlotRecord) (s : State) : (modSlot sl f s).incoming = s.incoming := rfl
@[simp] theorem modSlot_arriving (sl : Slot) (f : SlotRecord → SlotRecord) (s : State) : (modSlot sl f s).arriving = s.arriving := rfl
@[simp] theorem modSlot_pending (sl : Slot) (f : SlotRecord → SlotRecord) (s : State) : (modSlot sl f s).pending = s.pending := rfl

/-! ### modInd changes inds alone -/

@[simp] theorem modInd_loop (i : IndId) (f : Induction → Induction) (s : State) : (modInd i f s).loop = s.loop := rfl
@[simp] theorem modInd_tagWindows (i : IndId) (f : Induction → Induction) (s : State) : (modInd i f s).tagWindows = s.tagWindows := rfl
@[simp] theorem modInd_pool (i : IndId) (f : Induction → Induction) (s : State) : (modInd i f s).pool = s.pool := rfl
@[simp] theorem modInd_maps (i : IndId) (f : Induction → Induction) (s : State) : (modInd i f s).maps = s.maps := rfl
@[simp] theorem modInd_slots (i : IndId) (f : Induction → Induction) (s : State) : (modInd i f s).slots = s.slots := rfl
@[simp] theorem modInd_chutes (i : IndId) (f : Induction → Induction) (s : State) : (modInd i f s).chutes = s.chutes := rfl
@[simp] theorem modInd_blocked (i : IndId) (f : Induction → Induction) (s : State) : (modInd i f s).blocked = s.blocked := rfl
@[simp] theorem modInd_blockedN (i : IndId) (f : Induction → Induction) (s : State) : (modInd i f s).blockedN = s.blockedN := rfl
@[simp] theorem modInd_strayArmed (i : IndId) (f : Induction → Induction) (s : State) : (modInd i f s).strayArmed = s.strayArmed := rfl
@[simp] theorem modInd_fireQueue (i : IndId) (f : Induction → Induction) (s : State) : (modInd i f s).fireQueue = s.fireQueue := rfl
@[simp] theorem modInd_clock (i : IndId) (f : Induction → Induction) (s : State) : (modInd i f s).clock = s.clock := rfl
@[simp] theorem modInd_strays (i : IndId) (f : Induction → Induction) (s : State) : (modInd i f s).strays = s.strays := rfl
@[simp] theorem modInd_unlisted (i : IndId) (f : Induction → Induction) (s : State) : (modInd i f s).unlisted = s.unlisted := rfl
@[simp] theorem modInd_nextStrayId (i : IndId) (f : Induction → Induction) (s : State) : (modInd i f s).nextStrayId = s.nextStrayId := rfl
@[simp] theorem modInd_notices (i : IndId) (f : Induction → Induction) (s : State) : (modInd i f s).notices = s.notices := rfl
@[simp] theorem modInd_ports (i : IndId) (f : Induction → Induction) (s : State) : (modInd i f s).ports = s.ports := rfl
@[simp] theorem modInd_cause (i : IndId) (f : Induction → Induction) (s : State) : (modInd i f s).cause = s.cause := rfl
@[simp] theorem modInd_resetLow (i : IndId) (f : Induction → Induction) (s : State) : (modInd i f s).resetLow = s.resetLow := rfl
@[simp] theorem modInd_freeCount (i : IndId) (f : Induction → Induction) (s : State) : (modInd i f s).freeCount = s.freeCount := rfl
@[simp] theorem modInd_incoming (i : IndId) (f : Induction → Induction) (s : State) : (modInd i f s).incoming = s.incoming := rfl
@[simp] theorem modInd_arriving (i : IndId) (f : Induction → Induction) (s : State) : (modInd i f s).arriving = s.arriving := rfl
@[simp] theorem modInd_pending (i : IndId) (f : Induction → Induction) (s : State) : (modInd i f s).pending = s.pending := rfl

/-! ### putChute changes chutes alone -/

@[simp] theorem putChute_loop (c : ChuteId) (x : Chute) (s : State) : (putChute c x s).loop = s.loop := rfl
@[simp] theorem putChute_inds (c : ChuteId) (x : Chute) (s : State) : (putChute c x s).inds = s.inds := rfl
@[simp] theorem putChute_tagWindows (c : ChuteId) (x : Chute) (s : State) : (putChute c x s).tagWindows = s.tagWindows := rfl
@[simp] theorem putChute_pool (c : ChuteId) (x : Chute) (s : State) : (putChute c x s).pool = s.pool := rfl
@[simp] theorem putChute_maps (c : ChuteId) (x : Chute) (s : State) : (putChute c x s).maps = s.maps := rfl
@[simp] theorem putChute_slots (c : ChuteId) (x : Chute) (s : State) : (putChute c x s).slots = s.slots := rfl
@[simp] theorem putChute_blocked (c : ChuteId) (x : Chute) (s : State) : (putChute c x s).blocked = s.blocked := rfl
@[simp] theorem putChute_blockedN (c : ChuteId) (x : Chute) (s : State) : (putChute c x s).blockedN = s.blockedN := rfl
@[simp] theorem putChute_strayArmed (c : ChuteId) (x : Chute) (s : State) : (putChute c x s).strayArmed = s.strayArmed := rfl
@[simp] theorem putChute_fireQueue (c : ChuteId) (x : Chute) (s : State) : (putChute c x s).fireQueue = s.fireQueue := rfl
@[simp] theorem putChute_clock (c : ChuteId) (x : Chute) (s : State) : (putChute c x s).clock = s.clock := rfl
@[simp] theorem putChute_strays (c : ChuteId) (x : Chute) (s : State) : (putChute c x s).strays = s.strays := rfl
@[simp] theorem putChute_unlisted (c : ChuteId) (x : Chute) (s : State) : (putChute c x s).unlisted = s.unlisted := rfl
@[simp] theorem putChute_nextStrayId (c : ChuteId) (x : Chute) (s : State) : (putChute c x s).nextStrayId = s.nextStrayId := rfl
@[simp] theorem putChute_notices (c : ChuteId) (x : Chute) (s : State) : (putChute c x s).notices = s.notices := rfl
@[simp] theorem putChute_ports (c : ChuteId) (x : Chute) (s : State) : (putChute c x s).ports = s.ports := rfl
@[simp] theorem putChute_cause (c : ChuteId) (x : Chute) (s : State) : (putChute c x s).cause = s.cause := rfl
@[simp] theorem putChute_resetLow (c : ChuteId) (x : Chute) (s : State) : (putChute c x s).resetLow = s.resetLow := rfl
@[simp] theorem putChute_freeCount (c : ChuteId) (x : Chute) (s : State) : (putChute c x s).freeCount = s.freeCount := rfl
@[simp] theorem putChute_incoming (c : ChuteId) (x : Chute) (s : State) : (putChute c x s).incoming = s.incoming := rfl
@[simp] theorem putChute_arriving (c : ChuteId) (x : Chute) (s : State) : (putChute c x s).arriving = s.arriving := rfl
@[simp] theorem putChute_pending (c : ChuteId) (x : Chute) (s : State) : (putChute c x s).pending = s.pending := rfl

/-! ### modEntry changes pool alone -/

@[simp] theorem modEntry_loop (tag : Tag) (f : BagEntry → BagEntry) (s : State) : (modEntry tag f s).loop = s.loop := rfl
@[simp] theorem modEntry_inds (tag : Tag) (f : BagEntry → BagEntry) (s : State) : (modEntry tag f s).inds = s.inds := rfl
@[simp] theorem modEntry_tagWindows (tag : Tag) (f : BagEntry → BagEntry) (s : State) : (modEntry tag f s).tagWindows = s.tagWindows := rfl
@[simp] theorem modEntry_maps (tag : Tag) (f : BagEntry → BagEntry) (s : State) : (modEntry tag f s).maps = s.maps := rfl
@[simp] theorem modEntry_slots (tag : Tag) (f : BagEntry → BagEntry) (s : State) : (modEntry tag f s).slots = s.slots := rfl
@[simp] theorem modEntry_chutes (tag : Tag) (f : BagEntry → BagEntry) (s : State) : (modEntry tag f s).chutes = s.chutes := rfl
@[simp] theorem modEntry_blocked (tag : Tag) (f : BagEntry → BagEntry) (s : State) : (modEntry tag f s).blocked = s.blocked := rfl
@[simp] theorem modEntry_blockedN (tag : Tag) (f : BagEntry → BagEntry) (s : State) : (modEntry tag f s).blockedN = s.blockedN := rfl
@[simp] theorem modEntry_strayArmed (tag : Tag) (f : BagEntry → BagEntry) (s : State) : (modEntry tag f s).strayArmed = s.strayArmed := rfl
@[simp] theorem modEntry_fireQueue (tag : Tag) (f : BagEntry → BagEntry) (s : State) : (modEntry tag f s).fireQueue = s.fireQueue := rfl
@[simp] theorem modEntry_clock (tag : Tag) (f : BagEntry → BagEntry) (s : State) : (modEntry tag f s).clock = s.clock := rfl
@[simp] theorem modEntry_strays (tag : Tag) (f : BagEntry → BagEntry) (s : State) : (modEntry tag f s).strays = s.strays := rfl
@[simp] theorem modEntry_unlisted (tag : Tag) (f : BagEntry → BagEntry) (s : State) : (modEntry tag f s).unlisted = s.unlisted := rfl
@[simp] theorem modEntry_nextStrayId (tag : Tag) (f : BagEntry → BagEntry) (s : State) : (modEntry tag f s).nextStrayId = s.nextStrayId := rfl
@[simp] theorem modEntry_notices (tag : Tag) (f : BagEntry → BagEntry) (s : State) : (modEntry tag f s).notices = s.notices := rfl
@[simp] theorem modEntry_ports (tag : Tag) (f : BagEntry → BagEntry) (s : State) : (modEntry tag f s).ports = s.ports := rfl
@[simp] theorem modEntry_cause (tag : Tag) (f : BagEntry → BagEntry) (s : State) : (modEntry tag f s).cause = s.cause := rfl
@[simp] theorem modEntry_resetLow (tag : Tag) (f : BagEntry → BagEntry) (s : State) : (modEntry tag f s).resetLow = s.resetLow := rfl
@[simp] theorem modEntry_freeCount (tag : Tag) (f : BagEntry → BagEntry) (s : State) : (modEntry tag f s).freeCount = s.freeCount := rfl
@[simp] theorem modEntry_incoming (tag : Tag) (f : BagEntry → BagEntry) (s : State) : (modEntry tag f s).incoming = s.incoming := rfl
@[simp] theorem modEntry_arriving (tag : Tag) (f : BagEntry → BagEntry) (s : State) : (modEntry tag f s).arriving = s.arriving := rfl
@[simp] theorem modEntry_pending (tag : Tag) (f : BagEntry → BagEntry) (s : State) : (modEntry tag f s).pending = s.pending := rfl

/-! ### modStray changes strays alone -/

@[simp] theorem modStray_loop (id : BitVec 16) (f : StrayEntry → StrayEntry) (s : State) : (modStray id f s).loop = s.loop := rfl
@[simp] theorem modStray_inds (id : BitVec 16) (f : StrayEntry → StrayEntry) (s : State) : (modStray id f s).inds = s.inds := rfl
@[simp] theorem modStray_tagWindows (id : BitVec 16) (f : StrayEntry → StrayEntry) (s : State) : (modStray id f s).tagWindows = s.tagWindows := rfl
@[simp] theorem modStray_pool (id : BitVec 16) (f : StrayEntry → StrayEntry) (s : State) : (modStray id f s).pool = s.pool := rfl
@[simp] theorem modStray_maps (id : BitVec 16) (f : StrayEntry → StrayEntry) (s : State) : (modStray id f s).maps = s.maps := rfl
@[simp] theorem modStray_slots (id : BitVec 16) (f : StrayEntry → StrayEntry) (s : State) : (modStray id f s).slots = s.slots := rfl
@[simp] theorem modStray_chutes (id : BitVec 16) (f : StrayEntry → StrayEntry) (s : State) : (modStray id f s).chutes = s.chutes := rfl
@[simp] theorem modStray_blocked (id : BitVec 16) (f : StrayEntry → StrayEntry) (s : State) : (modStray id f s).blocked = s.blocked := rfl
@[simp] theorem modStray_blockedN (id : BitVec 16) (f : StrayEntry → StrayEntry) (s : State) : (modStray id f s).blockedN = s.blockedN := rfl
@[simp] theorem modStray_strayArmed (id : BitVec 16) (f : StrayEntry → StrayEntry) (s : State) : (modStray id f s).strayArmed = s.strayArmed := rfl
@[simp] theorem modStray_fireQueue (id : BitVec 16) (f : StrayEntry → StrayEntry) (s : State) : (modStray id f s).fireQueue = s.fireQueue := rfl
@[simp] theorem modStray_clock (id : BitVec 16) (f : StrayEntry → StrayEntry) (s : State) : (modStray id f s).clock = s.clock := rfl
@[simp] theorem modStray_unlisted (id : BitVec 16) (f : StrayEntry → StrayEntry) (s : State) : (modStray id f s).unlisted = s.unlisted := rfl
@[simp] theorem modStray_nextStrayId (id : BitVec 16) (f : StrayEntry → StrayEntry) (s : State) : (modStray id f s).nextStrayId = s.nextStrayId := rfl
@[simp] theorem modStray_notices (id : BitVec 16) (f : StrayEntry → StrayEntry) (s : State) : (modStray id f s).notices = s.notices := rfl
@[simp] theorem modStray_ports (id : BitVec 16) (f : StrayEntry → StrayEntry) (s : State) : (modStray id f s).ports = s.ports := rfl
@[simp] theorem modStray_cause (id : BitVec 16) (f : StrayEntry → StrayEntry) (s : State) : (modStray id f s).cause = s.cause := rfl
@[simp] theorem modStray_resetLow (id : BitVec 16) (f : StrayEntry → StrayEntry) (s : State) : (modStray id f s).resetLow = s.resetLow := rfl
@[simp] theorem modStray_freeCount (id : BitVec 16) (f : StrayEntry → StrayEntry) (s : State) : (modStray id f s).freeCount = s.freeCount := rfl
@[simp] theorem modStray_incoming (id : BitVec 16) (f : StrayEntry → StrayEntry) (s : State) : (modStray id f s).incoming = s.incoming := rfl
@[simp] theorem modStray_arriving (id : BitVec 16) (f : StrayEntry → StrayEntry) (s : State) : (modStray id f s).arriving = s.arriving := rfl
@[simp] theorem modStray_pending (id : BitVec 16) (f : StrayEntry → StrayEntry) (s : State) : (modStray id f s).pending = s.pending := rfl

/-! ### modNotices changes notices alone -/

@[simp] theorem modNotices_loop (l : LinkId) (f : NoticeRecord → NoticeRecord) (s : State) : (modNotices l f s).loop = s.loop := rfl
@[simp] theorem modNotices_inds (l : LinkId) (f : NoticeRecord → NoticeRecord) (s : State) : (modNotices l f s).inds = s.inds := rfl
@[simp] theorem modNotices_tagWindows (l : LinkId) (f : NoticeRecord → NoticeRecord) (s : State) : (modNotices l f s).tagWindows = s.tagWindows := rfl
@[simp] theorem modNotices_pool (l : LinkId) (f : NoticeRecord → NoticeRecord) (s : State) : (modNotices l f s).pool = s.pool := rfl
@[simp] theorem modNotices_maps (l : LinkId) (f : NoticeRecord → NoticeRecord) (s : State) : (modNotices l f s).maps = s.maps := rfl
@[simp] theorem modNotices_slots (l : LinkId) (f : NoticeRecord → NoticeRecord) (s : State) : (modNotices l f s).slots = s.slots := rfl
@[simp] theorem modNotices_chutes (l : LinkId) (f : NoticeRecord → NoticeRecord) (s : State) : (modNotices l f s).chutes = s.chutes := rfl
@[simp] theorem modNotices_blocked (l : LinkId) (f : NoticeRecord → NoticeRecord) (s : State) : (modNotices l f s).blocked = s.blocked := rfl
@[simp] theorem modNotices_blockedN (l : LinkId) (f : NoticeRecord → NoticeRecord) (s : State) : (modNotices l f s).blockedN = s.blockedN := rfl
@[simp] theorem modNotices_strayArmed (l : LinkId) (f : NoticeRecord → NoticeRecord) (s : State) : (modNotices l f s).strayArmed = s.strayArmed := rfl
@[simp] theorem modNotices_fireQueue (l : LinkId) (f : NoticeRecord → NoticeRecord) (s : State) : (modNotices l f s).fireQueue = s.fireQueue := rfl
@[simp] theorem modNotices_clock (l : LinkId) (f : NoticeRecord → NoticeRecord) (s : State) : (modNotices l f s).clock = s.clock := rfl
@[simp] theorem modNotices_strays (l : LinkId) (f : NoticeRecord → NoticeRecord) (s : State) : (modNotices l f s).strays = s.strays := rfl
@[simp] theorem modNotices_unlisted (l : LinkId) (f : NoticeRecord → NoticeRecord) (s : State) : (modNotices l f s).unlisted = s.unlisted := rfl
@[simp] theorem modNotices_nextStrayId (l : LinkId) (f : NoticeRecord → NoticeRecord) (s : State) : (modNotices l f s).nextStrayId = s.nextStrayId := rfl
@[simp] theorem modNotices_ports (l : LinkId) (f : NoticeRecord → NoticeRecord) (s : State) : (modNotices l f s).ports = s.ports := rfl
@[simp] theorem modNotices_cause (l : LinkId) (f : NoticeRecord → NoticeRecord) (s : State) : (modNotices l f s).cause = s.cause := rfl
@[simp] theorem modNotices_resetLow (l : LinkId) (f : NoticeRecord → NoticeRecord) (s : State) : (modNotices l f s).resetLow = s.resetLow := rfl
@[simp] theorem modNotices_freeCount (l : LinkId) (f : NoticeRecord → NoticeRecord) (s : State) : (modNotices l f s).freeCount = s.freeCount := rfl
@[simp] theorem modNotices_incoming (l : LinkId) (f : NoticeRecord → NoticeRecord) (s : State) : (modNotices l f s).incoming = s.incoming := rfl
@[simp] theorem modNotices_arriving (l : LinkId) (f : NoticeRecord → NoticeRecord) (s : State) : (modNotices l f s).arriving = s.arriving := rfl
@[simp] theorem modNotices_pending (l : LinkId) (f : NoticeRecord → NoticeRecord) (s : State) : (modNotices l f s).pending = s.pending := rfl

/-! ### raise changes notices alone -/

@[simp] theorem raise_loop (n : Notice) (sc : Scope) (s : State) : (raise n sc s).loop = s.loop := rfl
@[simp] theorem raise_inds (n : Notice) (sc : Scope) (s : State) : (raise n sc s).inds = s.inds := rfl
@[simp] theorem raise_tagWindows (n : Notice) (sc : Scope) (s : State) : (raise n sc s).tagWindows = s.tagWindows := rfl
@[simp] theorem raise_pool (n : Notice) (sc : Scope) (s : State) : (raise n sc s).pool = s.pool := rfl
@[simp] theorem raise_maps (n : Notice) (sc : Scope) (s : State) : (raise n sc s).maps = s.maps := rfl
@[simp] theorem raise_slots (n : Notice) (sc : Scope) (s : State) : (raise n sc s).slots = s.slots := rfl
@[simp] theorem raise_chutes (n : Notice) (sc : Scope) (s : State) : (raise n sc s).chutes = s.chutes := rfl
@[simp] theorem raise_blocked (n : Notice) (sc : Scope) (s : State) : (raise n sc s).blocked = s.blocked := rfl
@[simp] theorem raise_blockedN (n : Notice) (sc : Scope) (s : State) : (raise n sc s).blockedN = s.blockedN := rfl
@[simp] theorem raise_strayArmed (n : Notice) (sc : Scope) (s : State) : (raise n sc s).strayArmed = s.strayArmed := rfl
@[simp] theorem raise_fireQueue (n : Notice) (sc : Scope) (s : State) : (raise n sc s).fireQueue = s.fireQueue := rfl
@[simp] theorem raise_clock (n : Notice) (sc : Scope) (s : State) : (raise n sc s).clock = s.clock := rfl
@[simp] theorem raise_strays (n : Notice) (sc : Scope) (s : State) : (raise n sc s).strays = s.strays := rfl
@[simp] theorem raise_unlisted (n : Notice) (sc : Scope) (s : State) : (raise n sc s).unlisted = s.unlisted := rfl
@[simp] theorem raise_nextStrayId (n : Notice) (sc : Scope) (s : State) : (raise n sc s).nextStrayId = s.nextStrayId := rfl
@[simp] theorem raise_ports (n : Notice) (sc : Scope) (s : State) : (raise n sc s).ports = s.ports := rfl
@[simp] theorem raise_cause (n : Notice) (sc : Scope) (s : State) : (raise n sc s).cause = s.cause := rfl
@[simp] theorem raise_resetLow (n : Notice) (sc : Scope) (s : State) : (raise n sc s).resetLow = s.resetLow := rfl
@[simp] theorem raise_freeCount (n : Notice) (sc : Scope) (s : State) : (raise n sc s).freeCount = s.freeCount := rfl
@[simp] theorem raise_incoming (n : Notice) (sc : Scope) (s : State) : (raise n sc s).incoming = s.incoming := rfl
@[simp] theorem raise_arriving (n : Notice) (sc : Scope) (s : State) : (raise n sc s).arriving = s.arriving := rfl
@[simp] theorem raise_pending (n : Notice) (sc : Scope) (s : State) : (raise n sc s).pending = s.pending := rfl

/-! ### setPort changes ports alone -/

@[simp] theorem setPort_loop (l : LinkId) (x : Port) (s : State) : (setPort l x s).loop = s.loop := rfl
@[simp] theorem setPort_inds (l : LinkId) (x : Port) (s : State) : (setPort l x s).inds = s.inds := rfl
@[simp] theorem setPort_tagWindows (l : LinkId) (x : Port) (s : State) : (setPort l x s).tagWindows = s.tagWindows := rfl
@[simp] theorem setPort_pool (l : LinkId) (x : Port) (s : State) : (setPort l x s).pool = s.pool := rfl
@[simp] theorem setPort_maps (l : LinkId) (x : Port) (s : State) : (setPort l x s).maps = s.maps := rfl
@[simp] theorem setPort_slots (l : LinkId) (x : Port) (s : State) : (setPort l x s).slots = s.slots := rfl
@[simp] theorem setPort_chutes (l : LinkId) (x : Port) (s : State) : (setPort l x s).chutes = s.chutes := rfl
@[simp] theorem setPort_blocked (l : LinkId) (x : Port) (s : State) : (setPort l x s).blocked = s.blocked := rfl
@[simp] theorem setPort_blockedN (l : LinkId) (x : Port) (s : State) : (setPort l x s).blockedN = s.blockedN := rfl
@[simp] theorem setPort_strayArmed (l : LinkId) (x : Port) (s : State) : (setPort l x s).strayArmed = s.strayArmed := rfl
@[simp] theorem setPort_fireQueue (l : LinkId) (x : Port) (s : State) : (setPort l x s).fireQueue = s.fireQueue := rfl
@[simp] theorem setPort_clock (l : LinkId) (x : Port) (s : State) : (setPort l x s).clock = s.clock := rfl
@[simp] theorem setPort_strays (l : LinkId) (x : Port) (s : State) : (setPort l x s).strays = s.strays := rfl
@[simp] theorem setPort_unlisted (l : LinkId) (x : Port) (s : State) : (setPort l x s).unlisted = s.unlisted := rfl
@[simp] theorem setPort_nextStrayId (l : LinkId) (x : Port) (s : State) : (setPort l x s).nextStrayId = s.nextStrayId := rfl
@[simp] theorem setPort_notices (l : LinkId) (x : Port) (s : State) : (setPort l x s).notices = s.notices := rfl
@[simp] theorem setPort_cause (l : LinkId) (x : Port) (s : State) : (setPort l x s).cause = s.cause := rfl
@[simp] theorem setPort_resetLow (l : LinkId) (x : Port) (s : State) : (setPort l x s).resetLow = s.resetLow := rfl
@[simp] theorem setPort_freeCount (l : LinkId) (x : Port) (s : State) : (setPort l x s).freeCount = s.freeCount := rfl
@[simp] theorem setPort_incoming (l : LinkId) (x : Port) (s : State) : (setPort l x s).incoming = s.incoming := rfl
@[simp] theorem setPort_arriving (l : LinkId) (x : Port) (s : State) : (setPort l x s).arriving = s.arriving := rfl
@[simp] theorem setPort_pending (l : LinkId) (x : Port) (s : State) : (setPort l x s).pending = s.pending := rfl

/-! ### answering changes ports alone -/

@[simp] theorem answering_loop (l : LinkId) (req rsp : List Byte) (s : State) : (answering l req rsp s).loop = s.loop := rfl
@[simp] theorem answering_inds (l : LinkId) (req rsp : List Byte) (s : State) : (answering l req rsp s).inds = s.inds := rfl
@[simp] theorem answering_tagWindows (l : LinkId) (req rsp : List Byte) (s : State) : (answering l req rsp s).tagWindows = s.tagWindows := rfl
@[simp] theorem answering_pool (l : LinkId) (req rsp : List Byte) (s : State) : (answering l req rsp s).pool = s.pool := rfl
@[simp] theorem answering_maps (l : LinkId) (req rsp : List Byte) (s : State) : (answering l req rsp s).maps = s.maps := rfl
@[simp] theorem answering_slots (l : LinkId) (req rsp : List Byte) (s : State) : (answering l req rsp s).slots = s.slots := rfl
@[simp] theorem answering_chutes (l : LinkId) (req rsp : List Byte) (s : State) : (answering l req rsp s).chutes = s.chutes := rfl
@[simp] theorem answering_blocked (l : LinkId) (req rsp : List Byte) (s : State) : (answering l req rsp s).blocked = s.blocked := rfl
@[simp] theorem answering_blockedN (l : LinkId) (req rsp : List Byte) (s : State) : (answering l req rsp s).blockedN = s.blockedN := rfl
@[simp] theorem answering_strayArmed (l : LinkId) (req rsp : List Byte) (s : State) : (answering l req rsp s).strayArmed = s.strayArmed := rfl
@[simp] theorem answering_fireQueue (l : LinkId) (req rsp : List Byte) (s : State) : (answering l req rsp s).fireQueue = s.fireQueue := rfl
@[simp] theorem answering_clock (l : LinkId) (req rsp : List Byte) (s : State) : (answering l req rsp s).clock = s.clock := rfl
@[simp] theorem answering_strays (l : LinkId) (req rsp : List Byte) (s : State) : (answering l req rsp s).strays = s.strays := rfl
@[simp] theorem answering_unlisted (l : LinkId) (req rsp : List Byte) (s : State) : (answering l req rsp s).unlisted = s.unlisted := rfl
@[simp] theorem answering_nextStrayId (l : LinkId) (req rsp : List Byte) (s : State) : (answering l req rsp s).nextStrayId = s.nextStrayId := rfl
@[simp] theorem answering_notices (l : LinkId) (req rsp : List Byte) (s : State) : (answering l req rsp s).notices = s.notices := rfl
@[simp] theorem answering_cause (l : LinkId) (req rsp : List Byte) (s : State) : (answering l req rsp s).cause = s.cause := rfl
@[simp] theorem answering_resetLow (l : LinkId) (req rsp : List Byte) (s : State) : (answering l req rsp s).resetLow = s.resetLow := rfl
@[simp] theorem answering_freeCount (l : LinkId) (req rsp : List Byte) (s : State) : (answering l req rsp s).freeCount = s.freeCount := rfl
@[simp] theorem answering_incoming (l : LinkId) (req rsp : List Byte) (s : State) : (answering l req rsp s).incoming = s.incoming := rfl
@[simp] theorem answering_arriving (l : LinkId) (req rsp : List Byte) (s : State) : (answering l req rsp s).arriving = s.arriving := rfl
@[simp] theorem answering_pending (l : LinkId) (req rsp : List Byte) (s : State) : (answering l req rsp s).pending = s.pending := rfl

/-! ### putWindow changes tagWindows alone -/

@[simp] theorem putWindow_loop (n : Fin 8) (w : TagWindow) (s : State) : (putWindow n w s).loop = s.loop := rfl
@[simp] theorem putWindow_inds (n : Fin 8) (w : TagWindow) (s : State) : (putWindow n w s).inds = s.inds := rfl
@[simp] theorem putWindow_pool (n : Fin 8) (w : TagWindow) (s : State) : (putWindow n w s).pool = s.pool := rfl
@[simp] theorem putWindow_maps (n : Fin 8) (w : TagWindow) (s : State) : (putWindow n w s).maps = s.maps := rfl
@[simp] theorem putWindow_slots (n : Fin 8) (w : TagWindow) (s : State) : (putWindow n w s).slots = s.slots := rfl
@[simp] theorem putWindow_chutes (n : Fin 8) (w : TagWindow) (s : State) : (putWindow n w s).chutes = s.chutes := rfl
@[simp] theorem putWindow_blocked (n : Fin 8) (w : TagWindow) (s : State) : (putWindow n w s).blocked = s.blocked := rfl
@[simp] theorem putWindow_blockedN (n : Fin 8) (w : TagWindow) (s : State) : (putWindow n w s).blockedN = s.blockedN := rfl
@[simp] theorem putWindow_strayArmed (n : Fin 8) (w : TagWindow) (s : State) : (putWindow n w s).strayArmed = s.strayArmed := rfl
@[simp] theorem putWindow_fireQueue (n : Fin 8) (w : TagWindow) (s : State) : (putWindow n w s).fireQueue = s.fireQueue := rfl
@[simp] theorem putWindow_clock (n : Fin 8) (w : TagWindow) (s : State) : (putWindow n w s).clock = s.clock := rfl
@[simp] theorem putWindow_strays (n : Fin 8) (w : TagWindow) (s : State) : (putWindow n w s).strays = s.strays := rfl
@[simp] theorem putWindow_unlisted (n : Fin 8) (w : TagWindow) (s : State) : (putWindow n w s).unlisted = s.unlisted := rfl
@[simp] theorem putWindow_nextStrayId (n : Fin 8) (w : TagWindow) (s : State) : (putWindow n w s).nextStrayId = s.nextStrayId := rfl
@[simp] theorem putWindow_notices (n : Fin 8) (w : TagWindow) (s : State) : (putWindow n w s).notices = s.notices := rfl
@[simp] theorem putWindow_ports (n : Fin 8) (w : TagWindow) (s : State) : (putWindow n w s).ports = s.ports := rfl
@[simp] theorem putWindow_cause (n : Fin 8) (w : TagWindow) (s : State) : (putWindow n w s).cause = s.cause := rfl
@[simp] theorem putWindow_resetLow (n : Fin 8) (w : TagWindow) (s : State) : (putWindow n w s).resetLow = s.resetLow := rfl
@[simp] theorem putWindow_freeCount (n : Fin 8) (w : TagWindow) (s : State) : (putWindow n w s).freeCount = s.freeCount := rfl
@[simp] theorem putWindow_incoming (n : Fin 8) (w : TagWindow) (s : State) : (putWindow n w s).incoming = s.incoming := rfl
@[simp] theorem putWindow_arriving (n : Fin 8) (w : TagWindow) (s : State) : (putWindow n w s).arriving = s.arriving := rfl
@[simp] theorem putWindow_pending (n : Fin 8) (w : TagWindow) (s : State) : (putWindow n w s).pending = s.pending := rfl

/-! ### putRange changes maps alone -/

@[simp] theorem putRange_loop (sl : Slot) (n : Fin 96) (r : CabinRange) (s : State) : (putRange sl n r s).loop = s.loop := rfl
@[simp] theorem putRange_inds (sl : Slot) (n : Fin 96) (r : CabinRange) (s : State) : (putRange sl n r s).inds = s.inds := rfl
@[simp] theorem putRange_tagWindows (sl : Slot) (n : Fin 96) (r : CabinRange) (s : State) : (putRange sl n r s).tagWindows = s.tagWindows := rfl
@[simp] theorem putRange_pool (sl : Slot) (n : Fin 96) (r : CabinRange) (s : State) : (putRange sl n r s).pool = s.pool := rfl
@[simp] theorem putRange_slots (sl : Slot) (n : Fin 96) (r : CabinRange) (s : State) : (putRange sl n r s).slots = s.slots := rfl
@[simp] theorem putRange_chutes (sl : Slot) (n : Fin 96) (r : CabinRange) (s : State) : (putRange sl n r s).chutes = s.chutes := rfl
@[simp] theorem putRange_blocked (sl : Slot) (n : Fin 96) (r : CabinRange) (s : State) : (putRange sl n r s).blocked = s.blocked := rfl
@[simp] theorem putRange_blockedN (sl : Slot) (n : Fin 96) (r : CabinRange) (s : State) : (putRange sl n r s).blockedN = s.blockedN := rfl
@[simp] theorem putRange_strayArmed (sl : Slot) (n : Fin 96) (r : CabinRange) (s : State) : (putRange sl n r s).strayArmed = s.strayArmed := rfl
@[simp] theorem putRange_fireQueue (sl : Slot) (n : Fin 96) (r : CabinRange) (s : State) : (putRange sl n r s).fireQueue = s.fireQueue := rfl
@[simp] theorem putRange_clock (sl : Slot) (n : Fin 96) (r : CabinRange) (s : State) : (putRange sl n r s).clock = s.clock := rfl
@[simp] theorem putRange_strays (sl : Slot) (n : Fin 96) (r : CabinRange) (s : State) : (putRange sl n r s).strays = s.strays := rfl
@[simp] theorem putRange_unlisted (sl : Slot) (n : Fin 96) (r : CabinRange) (s : State) : (putRange sl n r s).unlisted = s.unlisted := rfl
@[simp] theorem putRange_nextStrayId (sl : Slot) (n : Fin 96) (r : CabinRange) (s : State) : (putRange sl n r s).nextStrayId = s.nextStrayId := rfl
@[simp] theorem putRange_notices (sl : Slot) (n : Fin 96) (r : CabinRange) (s : State) : (putRange sl n r s).notices = s.notices := rfl
@[simp] theorem putRange_ports (sl : Slot) (n : Fin 96) (r : CabinRange) (s : State) : (putRange sl n r s).ports = s.ports := rfl
@[simp] theorem putRange_cause (sl : Slot) (n : Fin 96) (r : CabinRange) (s : State) : (putRange sl n r s).cause = s.cause := rfl
@[simp] theorem putRange_resetLow (sl : Slot) (n : Fin 96) (r : CabinRange) (s : State) : (putRange sl n r s).resetLow = s.resetLow := rfl
@[simp] theorem putRange_freeCount (sl : Slot) (n : Fin 96) (r : CabinRange) (s : State) : (putRange sl n r s).freeCount = s.freeCount := rfl
@[simp] theorem putRange_incoming (sl : Slot) (n : Fin 96) (r : CabinRange) (s : State) : (putRange sl n r s).incoming = s.incoming := rfl
@[simp] theorem putRange_arriving (sl : Slot) (n : Fin 96) (r : CabinRange) (s : State) : (putRange sl n r s).arriving = s.arriving := rfl
@[simp] theorem putRange_pending (sl : Slot) (n : Fin 96) (r : CabinRange) (s : State) : (putRange sl n r s).pending = s.pending := rfl

/-! ### removeFire changes fireQueue alone -/

@[simp] theorem removeFire_loop (t : Nat) (s : State) : (removeFire t s).loop = s.loop := rfl
@[simp] theorem removeFire_inds (t : Nat) (s : State) : (removeFire t s).inds = s.inds := rfl
@[simp] theorem removeFire_tagWindows (t : Nat) (s : State) : (removeFire t s).tagWindows = s.tagWindows := rfl
@[simp] theorem removeFire_pool (t : Nat) (s : State) : (removeFire t s).pool = s.pool := rfl
@[simp] theorem removeFire_maps (t : Nat) (s : State) : (removeFire t s).maps = s.maps := rfl
@[simp] theorem removeFire_slots (t : Nat) (s : State) : (removeFire t s).slots = s.slots := rfl
@[simp] theorem removeFire_chutes (t : Nat) (s : State) : (removeFire t s).chutes = s.chutes := rfl
@[simp] theorem removeFire_blocked (t : Nat) (s : State) : (removeFire t s).blocked = s.blocked := rfl
@[simp] theorem removeFire_blockedN (t : Nat) (s : State) : (removeFire t s).blockedN = s.blockedN := rfl
@[simp] theorem removeFire_strayArmed (t : Nat) (s : State) : (removeFire t s).strayArmed = s.strayArmed := rfl
@[simp] theorem removeFire_clock (t : Nat) (s : State) : (removeFire t s).clock = s.clock := rfl
@[simp] theorem removeFire_strays (t : Nat) (s : State) : (removeFire t s).strays = s.strays := rfl
@[simp] theorem removeFire_unlisted (t : Nat) (s : State) : (removeFire t s).unlisted = s.unlisted := rfl
@[simp] theorem removeFire_nextStrayId (t : Nat) (s : State) : (removeFire t s).nextStrayId = s.nextStrayId := rfl
@[simp] theorem removeFire_notices (t : Nat) (s : State) : (removeFire t s).notices = s.notices := rfl
@[simp] theorem removeFire_ports (t : Nat) (s : State) : (removeFire t s).ports = s.ports := rfl
@[simp] theorem removeFire_cause (t : Nat) (s : State) : (removeFire t s).cause = s.cause := rfl
@[simp] theorem removeFire_resetLow (t : Nat) (s : State) : (removeFire t s).resetLow = s.resetLow := rfl
@[simp] theorem removeFire_freeCount (t : Nat) (s : State) : (removeFire t s).freeCount = s.freeCount := rfl
@[simp] theorem removeFire_incoming (t : Nat) (s : State) : (removeFire t s).incoming = s.incoming := rfl
@[simp] theorem removeFire_arriving (t : Nat) (s : State) : (removeFire t s).arriving = s.arriving := rfl
@[simp] theorem removeFire_pending (t : Nat) (s : State) : (removeFire t s).pending = s.pending := rfl

/-! ### judgeBlocked changes blocked alone -/

@[simp] theorem judgeBlocked_loop (s : State) : (judgeBlocked s).loop = s.loop := rfl
@[simp] theorem judgeBlocked_inds (s : State) : (judgeBlocked s).inds = s.inds := rfl
@[simp] theorem judgeBlocked_tagWindows (s : State) : (judgeBlocked s).tagWindows = s.tagWindows := rfl
@[simp] theorem judgeBlocked_pool (s : State) : (judgeBlocked s).pool = s.pool := rfl
@[simp] theorem judgeBlocked_maps (s : State) : (judgeBlocked s).maps = s.maps := rfl
@[simp] theorem judgeBlocked_slots (s : State) : (judgeBlocked s).slots = s.slots := rfl
@[simp] theorem judgeBlocked_chutes (s : State) : (judgeBlocked s).chutes = s.chutes := rfl
@[simp] theorem judgeBlocked_blockedN (s : State) : (judgeBlocked s).blockedN = s.blockedN := rfl
@[simp] theorem judgeBlocked_strayArmed (s : State) : (judgeBlocked s).strayArmed = s.strayArmed := rfl
@[simp] theorem judgeBlocked_fireQueue (s : State) : (judgeBlocked s).fireQueue = s.fireQueue := rfl
@[simp] theorem judgeBlocked_clock (s : State) : (judgeBlocked s).clock = s.clock := rfl
@[simp] theorem judgeBlocked_strays (s : State) : (judgeBlocked s).strays = s.strays := rfl
@[simp] theorem judgeBlocked_unlisted (s : State) : (judgeBlocked s).unlisted = s.unlisted := rfl
@[simp] theorem judgeBlocked_nextStrayId (s : State) : (judgeBlocked s).nextStrayId = s.nextStrayId := rfl
@[simp] theorem judgeBlocked_notices (s : State) : (judgeBlocked s).notices = s.notices := rfl
@[simp] theorem judgeBlocked_ports (s : State) : (judgeBlocked s).ports = s.ports := rfl
@[simp] theorem judgeBlocked_cause (s : State) : (judgeBlocked s).cause = s.cause := rfl
@[simp] theorem judgeBlocked_resetLow (s : State) : (judgeBlocked s).resetLow = s.resetLow := rfl
@[simp] theorem judgeBlocked_freeCount (s : State) : (judgeBlocked s).freeCount = s.freeCount := rfl
@[simp] theorem judgeBlocked_incoming (s : State) : (judgeBlocked s).incoming = s.incoming := rfl
@[simp] theorem judgeBlocked_arriving (s : State) : (judgeBlocked s).arriving = s.arriving := rfl
@[simp] theorem judgeBlocked_pending (s : State) : (judgeBlocked s).pending = s.pending := rfl

/-! ### tickOn changes clock alone -/

@[simp] theorem tickOn_loop (s : State) : (tickOn s).loop = s.loop := rfl
@[simp] theorem tickOn_inds (s : State) : (tickOn s).inds = s.inds := rfl
@[simp] theorem tickOn_tagWindows (s : State) : (tickOn s).tagWindows = s.tagWindows := rfl
@[simp] theorem tickOn_pool (s : State) : (tickOn s).pool = s.pool := rfl
@[simp] theorem tickOn_maps (s : State) : (tickOn s).maps = s.maps := rfl
@[simp] theorem tickOn_slots (s : State) : (tickOn s).slots = s.slots := rfl
@[simp] theorem tickOn_chutes (s : State) : (tickOn s).chutes = s.chutes := rfl
@[simp] theorem tickOn_blocked (s : State) : (tickOn s).blocked = s.blocked := rfl
@[simp] theorem tickOn_blockedN (s : State) : (tickOn s).blockedN = s.blockedN := rfl
@[simp] theorem tickOn_strayArmed (s : State) : (tickOn s).strayArmed = s.strayArmed := rfl
@[simp] theorem tickOn_fireQueue (s : State) : (tickOn s).fireQueue = s.fireQueue := rfl
@[simp] theorem tickOn_strays (s : State) : (tickOn s).strays = s.strays := rfl
@[simp] theorem tickOn_unlisted (s : State) : (tickOn s).unlisted = s.unlisted := rfl
@[simp] theorem tickOn_nextStrayId (s : State) : (tickOn s).nextStrayId = s.nextStrayId := rfl
@[simp] theorem tickOn_notices (s : State) : (tickOn s).notices = s.notices := rfl
@[simp] theorem tickOn_ports (s : State) : (tickOn s).ports = s.ports := rfl
@[simp] theorem tickOn_cause (s : State) : (tickOn s).cause = s.cause := rfl
@[simp] theorem tickOn_resetLow (s : State) : (tickOn s).resetLow = s.resetLow := rfl
@[simp] theorem tickOn_freeCount (s : State) : (tickOn s).freeCount = s.freeCount := rfl
@[simp] theorem tickOn_incoming (s : State) : (tickOn s).incoming = s.incoming := rfl
@[simp] theorem tickOn_arriving (s : State) : (tickOn s).arriving = s.arriving := rfl
@[simp] theorem tickOn_pending (s : State) : (tickOn s).pending = s.pending := rfl

/-! ### drawOrder changes freeCount alone -/

@[simp] theorem drawOrder_loop (s : State) : (drawOrder s).loop = s.loop := rfl
@[simp] theorem drawOrder_inds (s : State) : (drawOrder s).inds = s.inds := rfl
@[simp] theorem drawOrder_tagWindows (s : State) : (drawOrder s).tagWindows = s.tagWindows := rfl
@[simp] theorem drawOrder_pool (s : State) : (drawOrder s).pool = s.pool := rfl
@[simp] theorem drawOrder_maps (s : State) : (drawOrder s).maps = s.maps := rfl
@[simp] theorem drawOrder_slots (s : State) : (drawOrder s).slots = s.slots := rfl
@[simp] theorem drawOrder_chutes (s : State) : (drawOrder s).chutes = s.chutes := rfl
@[simp] theorem drawOrder_blocked (s : State) : (drawOrder s).blocked = s.blocked := rfl
@[simp] theorem drawOrder_blockedN (s : State) : (drawOrder s).blockedN = s.blockedN := rfl
@[simp] theorem drawOrder_strayArmed (s : State) : (drawOrder s).strayArmed = s.strayArmed := rfl
@[simp] theorem drawOrder_fireQueue (s : State) : (drawOrder s).fireQueue = s.fireQueue := rfl
@[simp] theorem drawOrder_clock (s : State) : (drawOrder s).clock = s.clock := rfl
@[simp] theorem drawOrder_strays (s : State) : (drawOrder s).strays = s.strays := rfl
@[simp] theorem drawOrder_unlisted (s : State) : (drawOrder s).unlisted = s.unlisted := rfl
@[simp] theorem drawOrder_nextStrayId (s : State) : (drawOrder s).nextStrayId = s.nextStrayId := rfl
@[simp] theorem drawOrder_notices (s : State) : (drawOrder s).notices = s.notices := rfl
@[simp] theorem drawOrder_ports (s : State) : (drawOrder s).ports = s.ports := rfl
@[simp] theorem drawOrder_cause (s : State) : (drawOrder s).cause = s.cause := rfl
@[simp] theorem drawOrder_resetLow (s : State) : (drawOrder s).resetLow = s.resetLow := rfl
@[simp] theorem drawOrder_incoming (s : State) : (drawOrder s).incoming = s.incoming := rfl
@[simp] theorem drawOrder_arriving (s : State) : (drawOrder s).arriving = s.arriving := rfl
@[simp] theorem drawOrder_pending (s : State) : (drawOrder s).pending = s.pending := rfl

/-! ### Reading back what was written -/

@[simp] theorem modSlot_slot (sl : Slot) (f : SlotRecord → SlotRecord) (s : State) :
    (modSlot sl f s).slot sl = f (s.slot sl) := PerSlot.get_set _ _ _

@[simp] theorem modSlot_slot_ne (sl k : Slot) (f : SlotRecord → SlotRecord) (s : State) (h : k ≠ sl) :
    (modSlot sl f s).slot k = s.slot k := PerSlot.get_set_ne _ _ _ _ h

@[simp] theorem modInd_ind (i : IndId) (f : Induction → Induction) (s : State) :
    (modInd i f s).ind i = f (s.ind i) := PerInd.get_set _ _ _

@[simp] theorem modInd_ind_ne (i k : IndId) (f : Induction → Induction) (s : State) (h : k ≠ i) :
    (modInd i f s).ind k = s.ind k := PerInd.get_set_ne _ _ _ _ h

@[simp] theorem setPort_port (l : LinkId) (x : Port) (s : State) : (setPort l x s).port l = x :=
  PerLink.get_set _ _ _

@[simp] theorem setPort_port_ne (l k : LinkId) (x : Port) (s : State) (h : k ≠ l) :
    (setPort l x s).port k = s.port k := PerLink.get_set_ne _ _ _ _ h

@[simp] theorem answering_port (l : LinkId) (req rsp : List Byte) (s : State) :
    (answering l req rsp s).port l = { s.port l with state := .answering rsp, request := req } :=
  PerLink.get_set _ _ _

@[simp] theorem putChute_chute (c : ChuteId) (x : Chute) (s : State) : (putChute c x s).chute c = x := by
  simp [putChute, State.chute, Vector.get_eq_getElem]

@[simp] theorem putChute_chute_ne (c k : ChuteId) (x : Chute) (s : State) (h : k ≠ c) :
    (putChute c x s).chute k = s.chute k := by
  have h' : c.val ≠ k.val := fun e => h (Fin.ext e.symm)
  simp [putChute, State.chute, Vector.get_eq_getElem, Vector.getElem_set_ne _ _ h']

@[simp] theorem putTray_T (t : Nat) (x : Tray) (s : State) : (putTray t x s).T = s.T := by
  simp [putTray, State.T]

@[simp] theorem putTray_tray (t : Nat) (x : Tray) (s : State) (h : t < s.T) : (putTray t x s).tray t = x := by
  simp [putTray, State.tray, State.T] at *
  simp [h]

@[simp] theorem putTray_tray_ne (t k : Nat) (x : Tray) (s : State) (h : k ≠ t) :
    (putTray t x s).tray k = s.tray k := by
  simp [putTray, State.tray, List.getD, List.getElem?_set_ne (Ne.symm h)]

end Sys2Proof.Machine
end

