-- ==== Sys2Proof/Laws/Lines.lean ====
section
/-! SUPPORT. What the line receivers do, said once: a frame row at a receiver that has the frame open and at
any other, a data character in each case, and the characters of one step. -/

namespace Sys2Proof.Machine

/-- A frame that the receiver has open is taken with the receiver back in IDLE. -/
theorem completeFrame_open {i : IndId} {k : FrameKind} {data : List Byte} {s : State}
    (h : s.framing i k data = true) (he : (s.ind i).enabled = true) (take : State → State) :
    completeFrame i k data take s = take (setReceiver i .idle s) := if_pos ⟨h, he⟩

/-- Any other frame row changes nothing (log 6). -/
theorem completeFrame_closed {i : IndId} {k : FrameKind} {data : List Byte} {s : State}
    (h : s.framing i k data = false ∨ (s.ind i).enabled = false) (take : State → State) :
    completeFrame i k data take s = s := by
  refine if_neg fun hc => ?_
  rcases h with h | h
  · exact absurd hc.1 (by simp [h])
  · exact absurd hc.2 (by simp [h])

/-- The receiver has a frame open exactly when it is IN FRAME with characters the frame begins with. -/
theorem framing_iff {i : IndId} {k : FrameKind} {data : List Byte} {s : State} :
    s.framing i k data = true ↔ ∃ stored, (s.ind i).receiver = .inFrame k stored ∧ stored <+: data := by
  unfold State.framing
  cases h : (s.ind i).receiver <;> simp

/-- A disabled receiver discards every character (R30). -/
theorem receiveChar_disabled {i : IndId} {s : State} (h : (s.ind i).enabled = false) (c : LineChar) :
    receiveChar i c s = s := by
  simp [receiveChar, whenEnabled, h]

/-- A data character at an enabled receiver. -/
theorem receiveChar_data {i : IndId} {s : State} (h : (s.ind i).enabled = true) (v : Byte) :
    receiveChar i ⟨false, v, true⟩ s = receiveData i v s := by
  simp [receiveChar, whenEnabled, h]

/-- A good data character that is not the last is stored (R30). -/
theorem receiveData_stored {i : IndId} {k : FrameKind} {stored : List Byte} {v : Byte} {s : State}
    (h : (s.ind i).receiver = .inFrame k stored) (hv : k.badAt stored.length v = false)
    (hn : stored.length + 1 < k.dataLength) :
    receiveData i v s = setReceiver i (.inFrame k (stored ++ [v])) s := by
  simp [receiveData, h, hv, Nat.not_le.mpr hn]

/-- The last data character of a frame, good, completes it (R30, R31). -/
theorem receiveData_last {i : IndId} {k : FrameKind} {stored : List Byte} {v : Byte} {s : State}
    (h : (s.ind i).receiver = .inFrame k stored) (hv : k.badAt stored.length v = false)
    (hn : k.dataLength = stored.length + 1) :
    receiveData i v s = takeFrame i k (stored ++ [v]) (setReceiver i .idle s) := by
  simp [receiveData, h, hv, hn]

/-- A bad data character drops the open frame (R31). -/
theorem receiveData_bad {i : IndId} {k : FrameKind} {stored : List Byte} {v : Byte} {s : State}
    (h : (s.ind i).receiver = .inFrame k stored) (hv : k.badAt stored.length v = true) :
    receiveData i v s = raise .lineError .hall (setReceiver i .skipping s) := by
  simp [receiveData, h, hv]

/-- A size class is read back from its character (Table 11-1). -/
theorem sizeOfChar_sizeChar (c : SizeClass) : sizeOfChar (sizeChar c) = some c := by
  cases c <;> rfl

theorem frameKindOf_code (k : FrameKind) : frameKindOf k.code = some k := by
  cases k <;> rfl

/-- The characters of one step are taken one at a line, at every line that has one. -/
theorem receiveChars_order (s : State) :
    (merged (Config.freeOrder s.freeCount) s.charThreads).Perm
      (allInds.filter fun i => !(s.arriving.get i).isEmpty) := by
  refine (merged_perm _ _).trans (.of_eq ?_)
  simp [State.charThreads, ← List.flatMap_def]

end Sys2Proof.Machine
end

