-- ==== Sys2Proof/Laws/Pool.lean ====
section
/-! SUPPORT. The bag entry pool: every operation over it keeps its canonical form (tags strictly rising),
and what a find reads after each. -/

namespace Sys2Proof.Machine

theorem poolSorted_iff (p : List BagEntry) :
    poolSorted p = true ↔ p.Pairwise fun x y => x.tag < y.tag := by
  simp [poolSorted]

theorem mem_insertEntry (e x : BagEntry) (p : List BagEntry) :
    x ∈ insertEntry e p ↔ x = e ∨ x ∈ p := by
  induction p with
  | nil => simp [insertEntry]
  | cons y r ih =>
    unfold insertEntry; split
    · simp
    · simp [ih]; tauto

/-- An entry taken for a tag that has none keeps the canonical form. -/
theorem poolSorted_insertEntry {e : BagEntry} {p : List BagEntry} (hp : poolSorted p = true)
    (h : findEntry e.tag p = none) : poolSorted (insertEntry e p) = true := by
  rw [poolSorted_iff] at *
  induction p with
  | nil => simp [insertEntry]
  | cons x r ih =>
    obtain ⟨hx, hr⟩ := List.pairwise_cons.mp hp
    have hne : ∀ y ∈ x :: r, y.tag ≠ e.tag := by simpa [findEntry] using h
    unfold insertEntry; split
    case isTrue hlt =>
      refine List.pairwise_cons.mpr ⟨?_, hp⟩
      intro y hy
      rcases List.mem_cons.mp hy with rfl | hy
      · exact hlt
      · exact hlt.trans (hx y hy)
    case isFalse hge =>
      have hr' : findEntry e.tag r = none := by
        simpa [findEntry] using fun y hy => hne y (List.mem_cons_of_mem _ hy)
      refine List.pairwise_cons.mpr ⟨?_, ih hr hr'⟩
      intro y hy
      rcases (mem_insertEntry e y r).mp hy with rfl | hy
      · exact lt_of_le_of_ne (not_lt.mp hge) (hne x (List.mem_cons_self ..))
      · exact hx y hy

/-- A filter keeps the canonical form: the withdrawal of an entry, the entries of a slot at UNBERTH. -/
theorem poolSorted_filter {p : List BagEntry} (f : BagEntry → Bool) (hp : poolSorted p = true) :
    poolSorted (p.filter f) = true := by
  rw [poolSorted_iff] at *; exact hp.filter f

theorem poolSorted_eraseEntry {p : List BagEntry} (tag : Tag) (hp : poolSorted p = true) :
    poolSorted (eraseEntry tag p) = true := poolSorted_filter _ hp

/-- A rewrite of entries that keeps each tag keeps the canonical form. -/
theorem poolSorted_map {p : List BagEntry} (f : BagEntry → BagEntry) (hf : ∀ e, (f e).tag = e.tag)
    (hp : poolSorted p = true) : poolSorted (p.map f) = true := by
  rw [poolSorted_iff] at *
  rw [List.pairwise_map]
  simpa [hf] using hp

theorem poolSorted_updateEntry {p : List BagEntry} (tag : Tag) (f : BagEntry → BagEntry)
    (hp : poolSorted p = true) : poolSorted (updateEntry tag f p) = true :=
  poolSorted_map _ (fun e => by split <;> rfl) hp

/-! ### Reading after writing -/

theorem findEntry_some {tag : Tag} {p : List BagEntry} {e : BagEntry} (h : findEntry tag p = some e) :
    e.tag = tag ∧ e ∈ p :=
  ⟨by simpa using List.find?_some h, List.mem_of_find?_eq_some h⟩

theorem findEntry_insertEntry_self (e : BagEntry) (p : List BagEntry)
    (h : findEntry e.tag p = none) : findEntry e.tag (insertEntry e p) = some e := by
  induction p with
  | nil => simp [insertEntry, findEntry]
  | cons x r ih =>
    have hx : x.tag ≠ e.tag := by
      have : ∀ y ∈ x :: r, y.tag ≠ e.tag := by simpa [findEntry] using h
      exact this x (List.mem_cons_self ..)
    have hr : findEntry e.tag r = none := by simpa [findEntry, hx] using h
    unfold insertEntry; split
    · simp [findEntry]
    · have := ih hr
      simpa [findEntry, hx] using this

theorem findEntry_insertEntry_ne (e : BagEntry) {tag : Tag} (ht : tag ≠ e.tag) (p : List BagEntry) :
    findEntry tag (insertEntry e p) = findEntry tag p := by
  induction p with
  | nil => simp [insertEntry, findEntry, Ne.symm ht]
  | cons x r ih =>
    unfold insertEntry; split
    · simp [findEntry, Ne.symm ht]
    · by_cases hx : x.tag = tag
      · simp [findEntry, hx]
      · simpa [findEntry, hx] using ih

theorem findEntry_eraseEntry_self (tag : Tag) (p : List BagEntry) :
    findEntry tag (eraseEntry tag p) = none := by
  simp [findEntry, eraseEntry]

theorem findEntry_eraseEntry_ne {tag other : Tag} (h : other ≠ tag) (p : List BagEntry) :
    findEntry other (eraseEntry tag p) = findEntry other p := by
  induction p with
  | nil => rfl
  | cons x r ih =>
    by_cases hx : x.tag = tag
    · have : x.tag ≠ other := fun e => h (e.symm.trans hx)
      simpa [findEntry, eraseEntry, hx, this, Ne.symm h] using ih
    · by_cases ho : x.tag = other
      · simp [findEntry, eraseEntry, ho, h]
      · simpa [findEntry, eraseEntry, hx, ho] using ih

theorem findEntry_updateEntry (tag other : Tag) (f : BagEntry → BagEntry) (p : List BagEntry) :
    findEntry other (updateEntry tag f p) =
      (findEntry other p).map fun e => if e.tag = tag then { f e with tag := e.tag } else e := by
  induction p with
  | nil => rfl
  | cons x r ih =>
    by_cases ho : x.tag = other
    · by_cases hx : x.tag = tag <;> simp_all [findEntry, updateEntry]
    · by_cases hx : x.tag = tag <;> simp_all [findEntry, updateEntry]

/-! ### The same, said of the state -/

theorem modEntry_entry_ne {tag other : Tag} (h : other ≠ tag) (f : BagEntry → BagEntry) (s : State) :
    (modEntry tag f s).entry other = s.entry other := by
  unfold modEntry State.entry
  rw [findEntry_updateEntry]
  cases hf : findEntry other s.pool with
  | none => rfl
  | some e => simp [(findEntry_some hf).1, h]

theorem modEntry_entry_self (tag : Tag) (f : BagEntry → BagEntry) (s : State) :
    (modEntry tag f s).entry tag = (s.entry tag).map fun e => { f e with tag := tag } := by
  unfold modEntry State.entry
  rw [findEntry_updateEntry]
  cases hf : findEntry tag s.pool with
  | none => rfl
  | some e => simp [(findEntry_some hf).1]

/-- Rewriting an entry moves no entry between slots when the rewrite keeps the slot. -/
theorem modEntry_entryCount (tag : Tag) (f : BagEntry → BagEntry) (hf : ∀ e, (f e).slot = e.slot)
    (s : State) (sl : Slot) : (modEntry tag f s).entryCount sl = s.entryCount sl := by
  unfold modEntry State.entryCount updateEntry
  rw [List.countP_map]
  refine List.countP_congr fun e _ => ?_
  by_cases h : e.tag = tag <;> simp [h, hf]

end Sys2Proof.Machine
end

