-- ==== Sys2Proof/Laws/Requests.lean ====
section
/-! SUPPORT. What taking a request does, said once: nothing at a port that can complete no such request, a
refusal over the state as it was, or the owning block's state under the response; and what a byte time
does. -/

namespace Sys2Proof.Machine

/-- Every request row is taken at its port by the link's checks and its owning block's rule. -/
theorem exec_ofRequest (l : LinkId) (k : Command) (p : Payload) (s : State) :
    exec (Instr.ofRequest l k p) s = .next (takeRequest k l p (Command.own k l p) s) := by
  cases k <;> rfl

theorem completes_of_hears {s : State} {l : LinkId} {frame : List Byte} (h : s.hears l frame = true) :
    s.completes l frame = true ∧ (s.port l).state ≠ .taking true := by
  unfold State.hears at h; simp_all

theorem hears_of_admits {s : State} {k : Command} {l : LinkId} {p : Payload}
    (h : s.admits k l p = true) : s.hears l (frameBytes k.code p) = true := by
  unfold State.admits at h; simp_all

theorem linkRefusal_of_admits {s : State} {k : Command} {l : LinkId} {p : Payload}
    (h : s.admits k l p = true) : s.linkRefusal k l p = none := by
  unfold State.admits at h; simp_all

/-- A port whose partner is there sends the response. -/
theorem deliver_heard {x : Port} (h : x.state ≠ .taking true) (l : LinkId) (frame rsp : List Byte)
    (s : State) : deliver x l frame rsp s = answering l frame rsp s := if_neg h

/-- A port whose select was released in TAKING discards the response (R187). -/
theorem deliver_abandoned {x : Port} (h : x.state = .taking true) (l : LinkId) (frame rsp : List Byte)
    (s : State) : deliver x l frame rsp s = setPort l x.reopened s := if_pos h

/-- At a port that can complete no such request nothing happens (log 6). -/
theorem takeRequest_not_complete {s : State} {k : Command} {l : LinkId} {p : Payload}
    (own : State → Answer) (h : s.completes l (frameBytes k.code p) = false) :
    takeRequest k l p own s = s := by
  simp [takeRequest, h]

/-- A request that the link's own checks refuse (R188, R76). -/
theorem takeRequest_link_refused {s : State} {k : Command} {l : LinkId} {p : Payload} {r : Reason}
    (own : State → Answer) (h : s.hears l (frameBytes k.code p) = true)
    (hr : s.linkRefusal k l p = some r) :
    takeRequest k l p own s = answering l (frameBytes k.code p) (responseBytes (.error r)) s := by
  obtain ⟨hc, ht⟩ := completes_of_hears h
  simp [takeRequest, hc, State.answerTo, hr, deliver_heard ht]

/-- An admitted request that its owning block refuses changes the port alone. -/
theorem takeRequest_refused {s : State} {k : Command} {l : LinkId} {p : Payload} {r : Reason}
    {own : State → Answer} (h : s.admits k l p = true) (ho : own s = .error r) :
    takeRequest k l p own s = answering l (frameBytes k.code p) (responseBytes (.error r)) s := by
  obtain ⟨hc, ht⟩ := completes_of_hears (hears_of_admits h)
  simp [takeRequest, hc, State.answerTo, linkRefusal_of_admits h, ho, deliver_heard ht]

/-- An admitted request that its owning block accepts. -/
theorem takeRequest_accepted {s t : State} {k : Command} {l : LinkId} {p : Payload} {reply : Reply}
    {own : State → Answer} (h : s.admits k l p = true) (ho : own s = .ok (t, reply)) :
    takeRequest k l p own s = answering l (frameBytes k.code p) (responseBytes (.ok reply)) t := by
  obtain ⟨hc, ht⟩ := completes_of_hears (hears_of_admits h)
  simp [takeRequest, hc, State.answerTo, linkRefusal_of_admits h, ho, deliver_heard ht]

/-- The other ports stand. -/
theorem answering_port_other {l k : LinkId} (h : k ≠ l) (frame rsp : List Byte) (s : State) :
    (answering l frame rsp s).port k = s.port k := by
  cases l <;> cases k <;> first | rfl | exact absurd rfl h

/-- A byte time changes its port and what waits at its link, and nothing else. -/
theorem clockByte_frame (s : State) (l : LinkId) :
    clockByte s l =
      { s with ports := (clockByte s l).ports, incoming := (clockByte s l).incoming } := by
  unfold clockByte; split <;> rfl

/-- Byte times change ports and what waits at the links, and nothing else. -/
theorem clockBytes_frame (s : State) :
    clockBytes s =
      { s with ports := (clockBytes s).ports, incoming := (clockBytes s).incoming } := by
  simp only [clockBytes, allLinks, List.foldl_cons, List.foldl_nil]
  rw [clockByte_frame (clockByte (clockByte s .shore) .vesselA) .vesselB,
    clockByte_frame (clockByte s .shore) .vesselA, clockByte_frame s .shore]

end Sys2Proof.Machine
end

