-- ==== Sys2Proof/Tests/Slice0.lean ====
section
/-! SUPPORT. The model's own tests: the well-formedness smoke, written-out words and their rows, one or two
steps for a command on a small state, and for each statement with hypotheses a state that meets them.
Expected values come from the manual's rules and tables by hand; each test names its rule. -/

namespace Sys2Proof.Tests

open Sys2Proof Sys2Proof.Machine

/-! ### Helpers -/

/-- The state an outcome gives. -/
def got : Out → Option State
  | .next t => some t
  | .fault _ => none
  | .refused _ => none

/-- A view of the state a command leaves. -/
def after {α : Type} (c : Instr) (s : State) (f : State → α) : Option α := (got (exec c s)).map f

/-- A link's port RECEIVING. -/
def rx (l : LinkId) (s : State) : State :=
  { s with ports := s.ports.set l { state := .receiving, selected := true, request := [] } }

/-- The response a link's port goes on to send. -/
def sent (l : LinkId) (s : State) : List Byte :=
  match (s.port l).state with
  | .answering r => r
  | _ => []

/-- The response to a request on a RECEIVING port. -/
def ask (k : Command) (l : LinkId) (p : Payload) (s : State) : Option (List Byte) :=
  after (Instr.ofRequest l k p) (rx l s) (sent l)

/-- A view of the state a request on a RECEIVING port leaves. -/
def asked {α : Type} (k : Command) (l : LinkId) (p : Payload) (s : State) (f : State → α) : Option α :=
  after (Instr.ofRequest l k p) (rx l s) f

/-- Tag 1000000001, of slot A in `hall`. -/
def tag1 : Tag := 1000000001

/-- Tag 1000000002, of slot A in `hall`, with no entry. -/
def tag2 : Tag := 1000000002

/-- A ROUTED bag of `tag1`. -/
def bag1 : BagRecord :=
  { source := some .i0, launchConfirmed := false, size := .medium, tag := some tag1, tag2 := none
    slot := some .a, entryLink := some tag1, cls := .routed, strayId := none, passes := 0 }

/-- A chute of a role and state at an offset. -/
def chuteAt (role : ChuteRole) (state : ChuteState) (offset : Nat) : Chute :=
  { Chute.reset with cfg := { ChuteConfig.reset with role := role, offset := offset }, state := state }

/-- Deck 3, zone 1 of slot A. -/
def groupA : Group := ⟨.a, 3, 1⟩

/-- A small hall: 64 trays RUNNING at P 5, slot A LOADING with quota 10 and one EXPECTED entry, cabins 100
to 199 in group A, chute 0 OPEN for it at offset 50, a STRAY chute 1 at 60, an UNASSIGNED chute 2 at 40, a
STANDBY chute 3 at 45 that covers chute 0; inductions I0 at 10 and I3 at 20. -/
def hall : State :=
  { State.reset with
    loop := { Loop.reset with
      state := .running, pos := 5, trays := List.replicate 64 .empty
      cfg := { LoopConfig.reset with highMark := 60, lowMark := 50 }
      intervals := [3750, 3750, 3750, 3750], pitchTime := some 0, measured := 4, stallFrom := some 0
      everRan := true }
    tagWindows := ((State.reset.tagWindows.set 0 ⟨[1], .slotA⟩).set 1 ⟨[2], .slotB⟩).set 2 ⟨[1, 9], .excluded⟩
    slots := ⟨⟨.loading, 10, true, 0, 1⟩, .reset⟩
    maps := ⟨State.reset.maps.a.set 0 ⟨true, 100, 199, 3, 1⟩, State.reset.maps.b⟩
    pool := [⟨tag1, .a, 150, .expected, none, false⟩]
    chutes := (((State.reset.chutes.set 0 { chuteAt .sort .isOpen 50 with group := some groupA }).set 1
      (chuteAt .stray .isOpen 60)).set 2 (chuteAt .sort .unassigned 40)).set 3
      { chuteAt .standby .standbyIdle 45 with
        cfg := { (chuteAt .standby .standbyIdle 45).cfg with cover := [0] } }
    inds := ⟨{ Induction.reset with offset := 10, enabled := true }, .reset, .reset,
      { Induction.reset with offset := 20, enabled := true }⟩ }

/-- `hall` with the record of a tray. -/
def withTray (t : Nat) (x : Tray) (s : State) : State :=
  { s with loop := { s.loop with trays := s.loop.trays.set t x } }

/-- `hall` with an induction's record rewritten. -/
def withInd (i : IndId) (f : Induction → Induction) (s : State) : State :=
  { s with inds := s.inds.set i (f (s.inds.get i)) }

/-- A slot's record rewritten. -/
def withSlot (sl : Slot) (f : SlotRecord → SlotRecord) (s : State) : State :=
  { s with slots := s.slots.set sl (f (s.slots.get sl)) }

/-- A chute's record rewritten. -/
def withChute (c : ChuteId) (f : Chute → Chute) (s : State) : State :=
  { s with chutes := s.chutes.set c (f (s.chutes.get c)) }

/-- The entry of `tag1` in a status. -/
def withEntry (x : EntryStatus) (s : State) : State := { s with pool := [⟨tag1, .a, 150, x, none, false⟩] }

/-- The tick base at a tick. -/
def atTick (t : Nat) (s : State) : State := { s with clock := { s.clock with tick := t } }

/-- The loop in a state. -/
def inLoop (x : LoopState) (s : State) : State := { s with loop := { s.loop with state := x } }

/-- A stray entry of `tag2` for slot A's present call, of cause UNKNOWN_TAG, in a state. -/
def strayIn (x : StrayState) : StrayEntry :=
  { id := 7, cause := .unknownTag, tag := some tag2, tag2 := none, slot := some (.a, 1), cabin := none
    created := 0, chute := none, untracked := false, times := 1, state := x }

/-- `hall` with one stray entry. -/
def withStray (x : StrayState) (s : State) : State := { s with strays := [strayIn x], nextStrayId := 8 }

/-- A LOADED tray whose bag of `tag2` waits with a reason. -/
def waitingTray (r : WaitReason) (tag : Tag) : Tray :=
  .loaded { bag1 with tag := some tag, entryLink := none, cls := .waiting r }

/-- `bag1` on tray 40, its entry ON_LOOP. -/
def hallOn (x : Tray) : State := withTray 40 x (withEntry (.onLoop false) hall)

/-- `hall` with its STRAY chute FULL, and the eye of chute 2 occluded since tick 0. -/
def hallFullStray : State :=
  withChute 1 (fun x => { x with state := .full })
    (withChute 2 (fun x => { x with eye := true, occludedFrom := some 0 }) hall)

/-- I0 IN FRAME of a kind with stored characters. -/
def hallIn (k : FrameKind) (stored : List Byte) : State :=
  withInd .i0 (fun r => { r with receiver := .inFrame k stored }) hall

/-- `bag1` ARMED for chute 0 on tray 40, due at tick 2550. -/
def hallArmed : State :=
  withChute 0 (fun x => { x with committed := 2 })
    { hallOn (.armed bag1 0) with fireQueue := [⟨40, 0, 2550⟩] }

/-- `bag1` FIRED at chute 0 on tray 40, with its confirm window. -/
def hallFired : State :=
  withChute 0 (fun x => { x with fill := 2, windows := [⟨40, 5550⟩] }) (hallOn (.fired bag1 0 0))

/-- The read record of `tag1`. -/
def rec1 : ReadRecord := { reading := .bag tag1, size := .medium }

/-- An open launch window of I0 for tray 40, whose note has `tag1` EXPECTED. -/
def window40 : LaunchWindow := ⟨40, 1, rec1, { entry := some ⟨tag1, .expected, none⟩, stray := none }⟩

/-- Ten bytes of a CONFIGURE LOOP request in their places, T first (Table 11-2). -/
def loopPayload (t : Byte) : Payload :=
  [0, t, 0x0E, 0xA6, 0x4E, 0x20, 0, 60, 0, 50, 3, 2, 0, 0, 0, 200, 1, 0x90, 2, 0x58]

/-- A CONFIGURE CHUTE request for chute 2: SORT at offset 42, LEFT, the defaults of Table 6-1. -/
def chutePayload (c role offset : Byte) : Payload :=
  [c, role, 0, offset, 0, 3, 0xE8, 1, 0x2C, 0x0B, 0xB8, 0, 0, 0x75, 0x30, 40, 32, 0, 0, 0, 0, 0]

/-! ### Well-formedness: each check refuses an ill-formed command -/

theorem test_wf_payload_256 : (Instr.startLoop .shore (List.replicate 256 0)).wf = false := by decide +kernel

theorem test_wf_payload_255 : (Instr.startLoop .shore (List.replicate 255 0)).wf = true := by decide +kernel

theorem test_wf_badCommand_known : (Instr.badCommand .shore 43 []).wf = false := by decide

theorem test_wf_badCommand_44 : (Instr.badCommand .shore 44 []).wf = true := by decide

theorem test_wf_badCommand_long : (Instr.badCommand .shore 0 (List.replicate 256 0)).wf = false := by decide +kernel

theorem test_wf_unknownKind_known :
    (Instr.inductionCharacterFault .i0 (.unknownKind 5)).wf = false := by decide

theorem test_wf_unknownKind_6 : (Instr.inductionCharacterFault .i0 (.unknownKind 6)).wf = true := by decide

theorem test_wf_tagDigit_9 : (Instr.badDataCharacter .i0 .tagDigit 9).wf = false := by decide

theorem test_wf_sizeClass_3 : (Instr.badDataCharacter .i0 .sizeClass 3).wf = false := by decide

/-! ### Encodings written out from Tables 11-2 and 11-9 -/

/-- BERTH is code 19, length 3: slot B, quota 0x0102. -/
theorem test_decode_berth :
    decodeRequest .shore [0x13, 0x03, 0x01, 0x01, 0x02] = some (.berth .shore [1, 1, 2]) := by decide

/-- START LOOP is code 2, with no payload. -/
theorem test_decode_startLoop : decodeRequest .shore [2, 0] = some (.startLoop .shore []) := by decide

/-- READ INDUCTION is code 8, ADD BAG 12, RELEASE CHUTE 28, READ STRAY 36, FETCH NOTICE 37. -/
theorem test_decode_families :
    decodeRequest .shore [8, 1, 3] = some (.readInduction .shore [3]) ∧
    decodeRequest .vesselA [12, 7, 0x10, 0, 0, 0, 1, 0, 9] = some (.addBag .vesselA [0x10, 0, 0, 0, 1, 0, 9]) ∧
    decodeRequest .shore [28, 1, 47] = some (.releaseChute .shore [47]) ∧
    decodeRequest .shore [36, 2, 0, 7] = some (.readStray .shore [0, 7]) ∧
    decodeRequest .vesselB [37, 0] = some (.fetchNotice .vesselB []) := by decide

/-- Code 44 is unknown; a frame short of its length is not complete (R186, R188). -/
theorem test_decode_unknown_and_short :
    decodeRequest .shore [44, 1, 5] = some (.badCommand .shore 44 [5]) ∧
    decodeRequest .shore [19, 3, 1, 1] = none := by decide

/-- BAG is kind 1: ten digits, then the size class (R197). -/
theorem test_decode_bag :
    decodeLineFrame .i0 1 [1, 0, 0, 0, 0, 0, 0, 0, 0, 2, 3] = some (.bagFrame .i0 1000000002 .extra) := by
  decide

/-- DONE is kind 4: a tray number, high byte first. -/
theorem test_decode_done : decodeLineFrame .i1 4 [1, 2] = some (.doneFrame .i1 258) := by decide

/-- A digit of 10 drops a BAG frame, a size class of 4 a NOREAD frame (R31). -/
theorem test_decode_bad_data :
    decodeLineFrame .i0 1 [1, 10, 0, 0, 0, 0, 0, 0, 0, 2, 3] = some (.badDataCharacter .i0 .tagDigit 10) ∧
    decodeLineFrame .i0 3 [4] = some (.badDataCharacter .i0 .sizeClass 4) := by decide

/-- HOLD, RESUME and LAUNCH go out as kinds 17, 18 and 19 (R197). -/
theorem test_characters_out :
    TxFrame.characters .hold = (17, []) ∧ TxFrame.characters .resume = (18, []) ∧
    TxFrame.characters (.launch 258) = (19, [1, 2]) := by decide

/-- No row of the table has bits. -/
theorem test_no_table_words : decodeTableWord 8 2 = none ∧ hall.withFetchWord 8 2 = hall := by decide

/-! ### Resets, clock and ports -/

theorem test_powerOnReset : after .powerOnReset hall (·.cause) = some ⟨true, false⟩ := by decide

theorem test_pinReset_keeps_powerOn : after .pinReset hall (·.cause) = some ⟨true, true⟩ := by decide

theorem test_resetN_released :
    after .resetNReleased { hall with resetLow := true } (·.resetLow) = some false := by decide

theorem test_hallClockSecond :
    after .hallClockSecond (atTick 10000 hall) (·.clock) = some ⟨10000, 10000, 1⟩ := by decide

theorem test_hallClock_wraps :
    after .hallClockSecond { hall with clock := ⟨10000, 0, 4294967295⟩ } (·.clock.seconds) = some 0 := by
  decide

theorem test_idle_counts_a_tick : (got (step State.reset)).map (·.clock.tick) = some 1 := by decide +kernel

theorem test_step_takes_the_front :
    (got (step { hall with pending := [.resetNReleased, .fire] })).map (·.pending) = some [.fire] := by
  decide

theorem test_linkSelectAsserted :
    after (.linkSelectAsserted .shore) hall (·.port .shore) = some ⟨.receiving, true, []⟩ := by decide

theorem test_linkResponseSent :
    after (.linkResponseSent .shore) { hall with ports := hall.ports.set .shore ⟨.answering [1], true, [2]⟩ }
      (fun t => (t.port .shore).state) = some .ended := by decide

theorem test_linkSelectReleased :
    after (.linkSelectReleased .shore) { hall with ports := hall.ports.set .shore ⟨.ended, true, [2, 0]⟩ }
      (·.port .shore) = some ⟨.idle, false, []⟩ := by decide

theorem test_linkSelectReleasedEarly :
    after (.linkSelectReleasedEarly .shore) (rx .shore hall) (·.port .shore) = some ⟨.idle, false, []⟩ := by
  decide

/-- R186: the length byte 0 of START LOOP completes it. -/
theorem test_clockIn_completes :
    ([2, 0].foldl (fun (x : Port) b => x.clockIn b) ⟨.receiving, true, []⟩) = ⟨.taking false, true, [2, 0]⟩ := by
  decide

/-- R187: START LOOP whose select was released in TAKING takes effect; its response is discarded. -/
theorem test_request_released_in_taking :
    after (.startLoop .shore []) (setPort .shore ⟨.taking true, false, [2, 0]⟩ State.reset)
      (fun t => (t.loop.state, t.port .shore)) = some (.starting, ⟨.idle, false, []⟩) := by decide +kernel

/-- R187: the same with select asserted again goes on in RECEIVING. -/
theorem test_request_reopened_in_taking :
    after (.startLoop .shore []) (setPort .shore ⟨.taking true, true, [2, 0]⟩ State.reset)
      (fun t => t.port .shore) = some ⟨.receiving, true, []⟩ := by decide +kernel

theorem test_released_in_taking :
    after (.linkSelectReleasedEarly .shore) (setPort .shore ⟨.taking false, true, [2, 0]⟩ hall)
      (·.port .shore) = some ⟨.taking true, false, [2, 0]⟩ := by decide

/-- R194: 0x82 most significant bit first, on both data lines. -/
theorem test_levels_of_a_byte :
    byteOfLevels #v[true, false, false, false, false, false, true, false] = 0x82 ∧
    levelsOfByte 0x82 = #v[true, false, false, false, false, false, true, false] := by decide

/-- R194: a byte time that waits is clocked in with no tick passing; a port in TAKING has its request taken. -/
theorem test_idle_clocks_a_byte :
    (got (step { rx .shore hall with incoming := hall.incoming.set .shore [levelsOfByte 2] })).map
      (fun t => (t.port .shore, t.clock.tick)) = some (⟨.receiving, true, [2]⟩, 0) ∧
    (setPort .shore ⟨.taking false, true, [2, 0]⟩ hall).due.flatten = [.startLoop .shore []] := by
  decide +kernel

/-- R186, Table 10-1: 0 while receiving, the response in order, then FF. -/
theorem test_byteOut :
    (⟨.answering [3, 5], true, []⟩ : Port).byteOut = some 3 ∧
    ((⟨.answering [3, 5], true, []⟩ : Port).clockIn 9).byteOut = some 5 ∧
    (((⟨.answering [3, 5], true, []⟩ : Port).clockIn 9).clockIn 9).byteOut = some 255 := by decide

/-- R194, R197: high between characters; LAUNCH is kind 19 with its mark, then the tray number. -/
theorem test_transmit :
    hall.transmit .i0 = .high ∧
    (withInd .i0 (fun r => { r with sending := some (.launch 258) }) hall).transmit .i0 =
      .frame [(true, 19), (false, 1), (false, 2)] ∧
    ({ hall with resetLow := true } : State).transmit .i0 = .released := by decide

theorem test_badCommand : after (.badCommand .shore 99 [1, 2]) (rx .shore hall) (sent .shore) = some [3, 1, 0, 0] := by
  decide

/-- A length of 1 for START LOOP, a vessel link's START LOOP, and a VACANT slot's vessel link. -/
theorem test_link_checks :
    ask .startLoop .shore [0] hall = some [3, 2, 0, 0] ∧ ask .startLoop .vesselA [] hall = some [3, 3, 0, 0] ∧
    ask .readWindow .vesselB [0] hall = some [3, 6, 0, 0] := by decide

/-! ### The loop -/

theorem test_pitchEvent_advances : (pitchEvent [] false false hall).loop.pos = 6 := by decide

theorem test_pitchEvent_stopped : (pitchEvent [] true true State.reset) = State.reset := by decide +kernel

theorem test_stallTimeout :
    after .stallTimeout (atTick 20000 hall) (fun t => (t.loop.state, t.flagged .shore .stall)) =
      some (.stalled, true) := by decide

/-- R1: STATE while the loop runs; in STOPPED the request's 64 trays are built. -/
theorem test_configureLoop :
    ask .configureLoop .shore (loopPayload 64) hall = some [3, 5, 0, 0] ∧
    asked .configureLoop .shore (loopPayload 64) State.reset (fun t => (t.T, t.loop.cfg.lowMark)) =
      some (64, 50) := by decide +kernel

theorem test_startLoop : asked .startLoop .shore [] State.reset (·.loop.state) = some .starting := by decide

theorem test_stopLoop : asked .stopLoop .shore [] hall (·.loop.state) = some .stopped := by decide

theorem test_resetLoop :
    asked .resetLoop .shore [] (inLoop .stopped (hallOn (.loaded bag1)))
      (fun t => (t.tray 40, (t.entry tag1).map (·.status))) = some (.empty, some .untracked) := by decide +kernel

/-- R24: T is 64 and P 5. -/
theorem test_readTray :
    (ask .readTray .shore [0, 63] hall).map (·.take 9) = some [1, 0, 0, 61, 2, 0, 64, 0, 5] ∧
    ask .readTray .shore [0, 64] hall = some [3, 4, 0, 0] := by decide

/-! ### Inductions -/

theorem test_reservationRequest :
    after (.reservationRequest .i0) (withInd .i0 (fun r => { r with queue := [rec1], waitCount := 16 }) hall)
      (fun t => (t.ind .i0).reservation) = some .requested := by decide

theorem test_launchWindowExpiry :
    after (.launchWindowExpiry .i0)
      (withInd .i0 (fun r => { r with windows := [{ window40 with left := 0 }] }) (hallOn (.loaded bag1)))
      (fun t => ((t.ind .i0).windows, ((t.tray 40).bag.map (·.launchConfirmed)))) = some ([], some true) := by
  decide

theorem test_bagFrame_queues :
    after (.bagFrame .i0 tag1 .medium) (withInd .i0 (fun r => { r with receiver := .inFrame .bag [] }) hall)
      (fun t => (t.ind .i0).queue) = some [rec1] := by decide

/-- R35: a fifth record is an overrun. -/
theorem test_noreadFrame_overruns :
    after (.noreadFrame .i0 .small) (withInd .i0 (fun r =>
        { r with receiver := .inFrame .noread [], queue := [rec1, rec1, rec1, rec1], queueHold := true }) hall)
      (fun t => ((t.ind .i0).queue, (t.ind .i0).resync)) = some ([], true) := by decide

/-- R36: the third record brings the queue hold, and HOLD begins on the idle line. -/
theorem test_multiFrame_holds :
    after (.multiFrame .i0 tag1 tag2 .small) (withInd .i0 (fun r =>
        { r with receiver := .inFrame .multi [], queue := [rec1, rec1] }) hall)
      (fun t => ((t.ind .i0).queueHold, (t.ind .i0).sending)) = some (true, some .hold) := by decide

theorem test_holdResend :
    after (.holdResend .i0) (withInd .i0 (fun r => { r with queueHold := true, resendCount := 4 }) hall)
      (fun t => ((t.ind .i0).resendCount, (t.ind .i0).sending)) = some (0, some .hold) := by decide

theorem test_doneFrame :
    after (.doneFrame .i0 40) (withInd .i0 (fun r =>
        { r with receiver := .inFrame .done [], windows := [window40] }) (hallOn (.loaded bag1)))
      (fun t => ((t.ind .i0).windows, ((t.tray 40).bag.map (·.launchConfirmed)))) = some ([], some true) := by
  decide

/-- R43: the tray is EMPTY, the record back at the head, the entry EXPECTED again. -/
theorem test_failFrame :
    after (.failFrame .i0 40) (withInd .i0 (fun r =>
        { r with receiver := .inFrame .fail [], windows := [window40] }) (hallOn (.loaded bag1)))
      (fun t => (t.tray 40, (t.ind .i0).queue, (t.entry tag1).map (·.status))) =
        some (.empty, [rec1], some .expected) := by decide

theorem test_lateAnswer :
    after (.lateAnswer .i0 .done 40) (withInd .i0 (fun r => { r with receiver := .inFrame .done [] }) hall)
      (fun t => t.flagged .shore .lineError) = some true := by decide

theorem test_inductionCharacterFault :
    after (.inductionCharacterFault .i0 (.unknownKind 9)) hall (fun t => (t.ind .i0).receiver) =
      some .skipping := by decide

theorem test_badDataCharacter :
    after (.badDataCharacter .i0 .tagDigit 10)
      (withInd .i0 (fun r => { r with receiver := .inFrame .bag [] }) hall) (fun t => (t.ind .i0).receiver) =
      some .skipping := by decide

/-- R30, R31: a marked character opens NOREAD, its one data character completes it, and the record is queued. -/
theorem test_characters_of_noread :
    ((receiveChar .i0 ⟨false, 2, true⟩ (receiveChar .i0 ⟨true, 3, true⟩ hall)).ind .i0).queue =
      [⟨.noread, .large⟩] := by decide

/-- R30: a data character is stored, and a bad stop bit drops the frame. -/
theorem test_characters_stored :
    ((receiveChar .i0 ⟨false, 1, true⟩ (hallIn .fail [])).ind .i0).receiver = .inFrame .fail [1] ∧
    ((receiveChar .i0 ⟨false, 1, false⟩ (hallIn .fail [1])).ind .i0).receiver = .skipping ∧
    ((receiveChar .i1 ⟨true, 3, true⟩ hall).ind .i1).receiver = .idle := by decide

/-- R31: place 9 of BAG holds a digit and place 10 the size class. -/
theorem test_characters_checked :
    FrameKind.badAt .bag 9 10 = true ∧ FrameKind.badAt .bag 10 3 = false ∧ FrameKind.badAt .bag 10 4 = true ∧
    FrameKind.badAt .multi 19 10 = true ∧ FrameKind.badAt .done 0 255 = false := by decide

/-- R30: BAG whose characters do not begin with those stored is not the open frame. -/
theorem test_bagFrame_other_open :
    after (.bagFrame .i0 tag1 .medium) (hallIn .bag [2]) (fun t => ((t.ind .i0).receiver, (t.ind .i0).queue)) =
      some (.inFrame .bag [2], []) := by decide

/-- One character at the front of a line is received on an empty queue, with no tick. -/
theorem test_nextChar :
    let s := nextChar { hall with arriving := hall.arriving.set .i0 [⟨true, 3, true⟩, ⟨false, 1, true⟩] } .i0
    (s.ind .i0).receiver = .inFrame .noread [] ∧ s.arriving.get .i0 = [⟨false, 1, true⟩] := by decide

/-- R43, R58: FAIL of a bag withdrawn inside its window leaves an entry added again, which another tray links. -/
theorem test_failFrame_withdrawn :
    after (.failFrame .i0 40) (withInd .i0 (fun r =>
        { r with receiver := .inFrame .fail [], windows := [window40] })
        (hallOn (.loaded { bag1 with entryLink := none, cls := .stray .withdrawn })))
      (fun t => (t.tray 40, (t.entry tag1).map (·.status))) = some (.empty, some (.onLoop false)) := by decide

theorem test_inductionSilenceTimeout :
    after (.inductionSilenceTimeout .i0) (withInd .i0 (fun r => { r with receiver := .inFrame .bag [] }) hall)
      (fun t => ((t.ind .i0).receiver, t.flagged .shore .lineError)) = some (.idle, true) := by decide

theorem test_inductionFrameOpened :
    after (.inductionFrameOpened .i0 .bag) hall (fun t => (t.ind .i0).receiver) = some (.inFrame .bag []) := by
  decide

theorem test_transmitFrameSent :
    after (.transmitFrameSent .i0)
      (withInd .i0 (fun r => { r with sending := some .hold, waiting := [.launch 3] }) hall)
      (fun t => ((t.ind .i0).sending, (t.ind .i0).waiting)) = some (some (.launch 3), []) := by decide

/-- R28: a new W waits for the pitch event that advances the count; the old one is in use until then. -/
theorem test_new_W_waits :
    asked .configureInduction .shore [0, 0, 10, 4, 1, 1] hall
      (fun t => ((t.ind .i0).w, (t.ind .i0).wInUse)) = some (1, 16) ∧
    ((claimCheck false .i0 (withTray 59 .suspect (withInd .i0 (fun r =>
        { r with queue := [rec1], w := 1 }) hall))).ind .i0).reservation = .requested := by decide

/-- R40: the claim of the tray at offset 10 routes the bag and selects chute 0, arm position 49. -/
theorem test_claim_selects :
    (claimCheck false .i0 (withInd .i0 (fun r => { r with queue := [rec1] }) hall)).tray 59 =
      .selected bag1 0 49 1 := by decide

theorem test_configureInduction :
    ask .configureInduction .shore [1, 0, 30, 8, 20, 1] hall = some [1, 0, 0, 0] ∧
    ask .configureInduction .shore [1, 0, 10, 8, 20, 1] hall = some [3, 11, 0, 0] := by decide

/-- R195, log 40: enabled byte 2 is BAD_VALUE (4), on an offset that another induction holds. -/
theorem test_configureInduction_enabledByte :
    ask .configureInduction .shore [1, 0, 10, 8, 20, 2] hall = some [3, 4, 0, 0] := by decide

theorem test_inductionResume :
    asked .inductionResume .shore [0] (withInd .i0 (fun r => { r with resync := true }) hall)
      (fun t => ((t.ind .i0).resync, (t.ind .i0).sending)) = some (false, some .resume) := by decide

theorem test_readInduction :
    (ask .readInduction .shore [0] hall).map (·.take 9) = some [1, 0, 0, 68, 0, 10, 4, 16, 1] := by decide

/-! ### Tag windows and the manifest -/

/-- R53: a prefix that begins with one of a berthed slot's is in use; a free one is written. -/
theorem test_setWindow :
    ask .setWindow .shore [4, 2, 0x12, 0, 0, 0, 0, 1] hall = some [3, 12, 0, 0] ∧
    asked .setWindow .shore [4, 2, 0x35, 0, 0, 0, 0, 1] hall (fun t => t.tagWindows.get 4) =
      some ⟨[3, 5], .slotB⟩ := by decide

theorem test_clearWindow :
    asked .clearWindow .shore [1] hall (fun t => t.tagWindows.get 1) = some ⟨[], .slotB⟩ := by decide

theorem test_readWindow :
    ask .readWindow .shore [2] hall = some [1, 0, 0, 9, 1, 2, 0x19, 0, 0, 0, 0, 2, 0] := by decide

theorem test_addBag :
    asked .addBag .vesselA [0x10, 0, 0, 0, 2, 0, 150] hall (fun t => t.entry tag2) =
      some (some ⟨tag2, .a, 150, .expected, none, false⟩) := by decide

theorem test_addBag_exists : ask .addBag .vesselA [0x10, 0, 0, 0, 1, 0, 150] hall = some [3, 9, 0, 0] := by
  decide

theorem test_withdrawBag :
    asked .withdrawBag .vesselA [0x10, 0, 0, 0, 1] hall (fun t => t.pool) = some [] := by decide

theorem test_changeCabin :
    asked .changeCabin .vesselA [0x10, 0, 0, 0, 1, 0, 151] hall (fun t => (t.entry tag1).map (·.cabin)) =
      some (some 151) := by decide

theorem test_readBag :
    ask .readBag .shore [0x10, 0, 0, 0, 1] hall =
      some ([1, 0, 0, 18, 0, 0x10, 0, 0, 0, 1, 0, 0, 150] ++ List.replicate 9 0) := by decide

theorem test_setCabinRange :
    ask .setCabinRange .vesselA [1, 0, 150, 1, 0, 3, 1] hall = some [3, 11, 0, 0] ∧
    asked .setCabinRange .vesselA [1, 0, 200, 1, 0, 4, 2] hall (fun t => t.lookup .a 256) =
      some (some ⟨.a, 4, 2⟩) := by decide

theorem test_clearCabinRange :
    asked .clearCabinRange .vesselA [0] hall (fun t => (t.maps.get .a).get 0) =
      some ⟨false, 100, 199, 3, 1⟩ := by decide

theorem test_readCabinRange :
    ask .readCabinRange .shore [0, 0] hall = some [1, 0, 0, 7, 1, 0, 100, 0, 199, 3, 1] := by decide

/-! ### Berth slots -/

theorem test_berth :
    asked .berth .shore [1, 0, 100] hall (fun t => t.slot .b) = some ⟨.loading, 100, true, 0, 1⟩ := by decide

theorem test_manifestFinal :
    asked .manifestFinal .vesselA [] hall (fun t => (t.slot .a).state) = some .final := by decide

theorem test_manifestReopen :
    asked .manifestReopen .vesselA [] (withSlot .a (fun r => { r with state := .final }) hall)
      (fun t => (t.slot .a).state) = some .loading := by decide

/-- R80, R81: quota 1 has warning level 1, which one entry reaches. -/
theorem test_setQuota :
    asked .setQuota .shore [0, 0, 1] hall (fun t => ((t.slot .a).quota, (t.slot .a).quotaArmed)) =
      some (1, false) ∧
    ask .setQuota .shore [0, 0, 0] hall = some [3, 8, 0, 0] := by decide

theorem test_cutOff :
    ask .cutOff .vesselA [] hall = some [2, 0, 0, 0] ∧
    asked .cutOff .vesselA [] hall (fun t => (t.slot .a).state) = some .closed := by decide

theorem test_cutOff_drains :
    asked .cutOff .vesselA [] (hallOn (.loaded bag1)) (fun t => (t.slot .a).state) = some .closing := by
  decide

theorem test_unberth :
    asked .unberth .shore [0] (withSlot .a (fun r => { r with state := .closed }) hall)
      (fun t => ((t.slot .a).state, t.pool, (t.chute 0).state)) = some (.vacant, [], .unassigned) := by decide +kernel

/-- R131: an UNBERTH that changes no chute record leaves the other slot's blocked record. -/
theorem test_unberth_keeps_blocked :
    asked .unberth .shore [1] { withSlot .b (fun r => { r with state := .closed }) hall with
        blocked := [⟨groupA, 2, 1⟩] } (·.blocked) = some [⟨groupA, 2, 1⟩] := by decide +kernel

/-- R91: LOADING, quota 10, warning level 9, armed, one entry. -/
theorem test_shipStatus :
    (ask .shipStatus .vesselA [] hall).map (·.take 14) =
      some [1, 0, 0, 28, 1, 0, 10, 0, 9, 1, 0, 1, 0, 1] := by decide

/-! ### Chutes and divert timing -/

theorem test_configureChute :
    ask .configureChute .shore (chutePayload 2 0 42) hall = some [1, 0, 0, 0] ∧
    ask .configureChute .shore (chutePayload 0 0 42) hall = some [3, 15, 0, 0] := by decide

/-- R132: a STRAY chute jammed at its configuration arms no flag. -/
theorem test_configureChute_jammed :
    asked .configureChute .shore (chutePayload 2 2 42) (atTick 30000 { hallFullStray with strayArmed := false })
      (fun t => ((t.chute 2).state, (t.chute 2).jam, t.strayArmed)) = some (.isOpen, true, false) := by decide +kernel

theorem test_assignChute :
    asked .assignChute .shore [2, 0, 3, 2] hall (fun t => ((t.chute 2).state, (t.chute 2).group)) =
      some (.isOpen, some ⟨.a, 3, 2⟩) := by decide

theorem test_releaseChute :
    asked .releaseChute .shore [0] hall (fun t => ((t.chute 0).state, (t.chute 0).group)) =
      some (.unassigned, none) := by decide

theorem test_swapBegin :
    asked .swapBegin .shore [0] hallArmed
      (fun t => ((t.chute 0).state, (t.chute 0).committed, t.fireQueue, t.tray 40)) =
      some (.swapping, 0, [], .loaded bag1) := by decide

theorem test_swapEnd :
    asked .swapEnd .shore [0] (withChute 0 (fun x => { x with state := .swapping, fill := 9 }) hall)
      (fun t => ((t.chute 0).state, (t.chute 0).fill, (t.chute 0).gen)) = some (.isOpen, 0, 1) := by decide

theorem test_setBlockedInterval :
    asked .setBlockedInterval .shore [8] hall (·.blockedN) = some 8 ∧
    ask .setBlockedInterval .shore [2] hall = some [3, 4, 0, 0] := by decide

theorem test_readChute : (ask .readChute .shore [0] hall).map (·.take 4) = some [1, 0, 0, 149] := by decide +kernel

theorem test_fire :
    after .fire (atTick 2550 hallArmed)
      (fun t => (t.tray 40, (t.chute 0).fill, (t.chute 0).windows, (t.chute 0).pulseEnd)) =
      some (.fired bag1 0 0, 2, [⟨40, 5550⟩], some 2850) := by decide

theorem test_fire_not_due : after .fire (atTick 2549 hallArmed) (·.fireQueue) = some [⟨40, 0, 2550⟩] := by
  decide

theorem test_tiltPulseEnd :
    after (.tiltPulseEnd 0) (atTick 300 (withChute 0 (fun x => { x with pulseEnd := some 300 }) hall))
      (·.tiltOutput 0) = some false := by decide

theorem test_confirmWindowEnd :
    after (.confirmWindowEnd 0) (atTick 5550 hallFired) (fun t => (t.tray 40, (t.chute 0).windows)) =
      some (.unconfirmed bag1 0 0, []) := by decide

/-- R148: the bag is confirmed and its entry SORTED. -/
theorem test_chuteEyeDetection :
    after (.chuteEyeDetection 0) hallFired (fun t => (t.tray 40, (t.entry tag1).map (·.status))) =
      some (.empty, some (.sorted 0 0 false)) := by decide

theorem test_chuteJam :
    after (.chuteJam 0)
      (atTick 30000 (withChute 0 (fun x => { x with eye := true, occludedFrom := some 0 }) hall))
      (fun t => ((t.chute 0).jam, t.flagged .vesselA .chuteBlocked)) = some (true, true) := by decide

theorem test_chuteEyeClear :
    after (.chuteEyeClear 0)
      (withChute 0 (fun x => { x with eye := true, occludedFrom := some 0, jam := true }) hall)
      (fun t => ((t.chute 0).eye, (t.chute 0).jam)) = some (false, false) := by decide

/-! ### The desk and the notices -/

theorem test_resolveStray :
    asked .resolveStray .shore [0, 7, 0, 150] (withStray .inChute hall)
      (fun t => ((t.entry tag2).map (·.status), t.strays.map (·.state))) =
      some (some .strayed, [.resolved]) := by decide

theorem test_discardStray :
    asked .discardStray .shore [0, 7] (withStray .inChute hall) (·.strays) = some [] ∧
    ask .discardStray .shore [0, 8] (withStray .inChute hall) = some [3, 10, 0, 0] := by decide

/-- R168: one entry in the view and on the list, none unlisted, next id 8, one returned. -/
theorem test_readStrayList :
    (ask .readStrayList .vesselA [0] (withStray .inChute hall)).map (·.take 11) =
      some [1, 0, 0, 59, 1, 1, 0, 0, 0, 8, 1] := by decide

theorem test_readStray :
    (ask .readStray .shore [0, 7] (withStray .inChute hall)).map (·.take 9) =
      some [1, 0, 0, 27, 5, 0, 7, 5, 1] := by decide

/-- R177: STALL of group 0 is returned, and in AUTO its flag is cleared. -/
theorem test_fetchNotice :
    ask .fetchNotice .shore [] (raise .stall .hall hall) = some [1, 0, 0, 5, 1, 0, 2, 0, 0x11] := by decide

theorem test_ackGroup :
    asked .ackGroup .shore [0] (raise .stall .hall hall) (fun t => t.attention .shore) = some true := by
  decide

theorem test_clearNotice :
    asked .clearNotice .shore [0, 2] (raise .stall .hall hall) (fun t => t.flagged .shore .stall) =
      some false := by decide

/-- R181: bits of sources that hold no enable are dropped. -/
theorem test_setNoticeEnables :
    asked .setNoticeEnables .shore [255, 255, 255, 255] hall (fun t => t.notices.shore.enables) =
      some ⟨0xE8, 0xDE, 0xBE, 0xFE⟩ := by decide

theorem test_setClearMode :
    asked .setClearMode .shore [1] hall (fun t => t.notices.shore.mode) = some .manual := by decide

theorem test_readResetCause :
    ask .readResetCause .shore [] hall = some [1, 0, 0, 5, 1, 0, 0, 0, 0] := by decide

theorem test_clearResetCause :
    asked .clearResetCause .shore [] hall (·.cause) = some ⟨false, false⟩ := by decide

/-! ### Witnesses: states and operands that meet the hypotheses of the statements, clause by clause -/

/-- What the trays of a `withTray` state over `hall` hold. -/
theorem tray_withTray (t : Nat) (x : Tray) (k : Nat) :
    (withTray t x hall).tray k = if k = t ∧ t < 64 then x else .empty := by
  simp only [withTray, State.tray, hall, List.getD, List.getElem?_set, List.length_replicate,
    List.getElem?_replicate]
  split_ifs <;> simp_all

theorem tray_hall (k : Nat) : hall.tray k = .empty := by
  simp only [State.tray, hall, List.getD, List.getElem?_replicate]
  split_ifs <;> rfl

/-- The one bag of a `hallOn` state. -/
theorem bag_hallOn {x : Tray} {k : Nat} {b : BagRecord} (h : ((hallOn x).tray k).bag = some b) :
    k = 40 ∧ x.bag = some b := by
  have e : (hallOn x).tray k = if k = 40 ∧ 40 < 64 then x else .empty := tray_withTray 40 x k
  rw [e] at h
  split_ifs at h with hk
  · exact ⟨hk.1, h⟩
  · cases h

theorem test_wit_stepTakesFrontCommand :
    ({ hall with pending := [.fire, .pinReset] } : State).pending = .fire :: [.pinReset] := by decide

theorem test_wit_idleStepIsTheClock :
    State.reset.pending = [] ∧ State.reset.resetLow = false ∧ State.reset.due.flatten = [] ∧
    ({ State.reset with resetLow := true } : State).resetLow = true ∧
    (atTick 20000 hall).pending = [] ∧ (atTick 20000 hall).due.flatten ≠ [] := by decide +kernel

theorem test_wit_idleStep_bytes_and_requests :
    let v := levelsOfByte 2
    let s := { rx .shore hall with incoming := hall.incoming.set .shore [v, v] }
    s.pending = [] ∧ s.resetLow = false ∧ s.due.flatten = [] ∧ s.incoming.get .shore = v :: [v] ∧
    s.incoming.get .vesselA = [] ∧ (∀ l, State.reset.incoming.get l = []) ∧
    ((setPort .shore ⟨.taking false, true, [2, 0]⟩ hall).port .shore).state = .taking false ∧
    decodeRequest .shore [2, 0] = some (.startLoop .shore []) := by
  refine ⟨by decide +kernel, by decide +kernel, by decide +kernel, by decide +kernel, by decide +kernel,
    ?_, by decide +kernel, by decide +kernel⟩
  intro l; cases l <;> rfl

theorem test_wit_idleStep_characters :
    let s := { hall with arriving := hall.arriving.set .i0 [⟨true, 3, true⟩, ⟨false, 1, true⟩] }
    s.pending = [] ∧ s.resetLow = false ∧ s.due.flatten = [] ∧ (∀ l, s.incoming.get l = []) ∧
    s.arriving.get .i0 = ⟨true, 3, true⟩ :: [⟨false, 1, true⟩] ∧ s.arriving.get .i1 = [] ∧
    (∀ i, State.reset.arriving.get i = []) := by
  refine ⟨by decide +kernel, by decide +kernel, by decide +kernel, ?_, by decide +kernel, by decide +kernel, ?_⟩
  · intro l; cases l <;> rfl
  · intro i; cases i <;> rfl

theorem test_wit_requestFramesReadBack :
    (Instr.berth .shore [1, 1, 2]).wf = true ∧
    encodeRequest (.berth .shore [1, 1, 2]) = some (.shore, [19, 3, 1, 1, 2]) ∧
    (Instr.badCommand .vesselB 255 []).wf = true ∧
    encodeRequest (.badCommand .vesselB 255 []) = some (.vesselB, [255, 0]) := by decide

theorem test_wit_lineFramesReadBack :
    encodeLineFrame (.bagFrame .i2 9999999999 .extra) = some (.i2, 1, [9, 9, 9, 9, 9, 9, 9, 9, 9, 9, 3]) ∧
    encodeLineFrame (.failFrame .i3 65535) = some (.i3, 5, [255, 255]) := by decide

theorem test_wit_returnedRecordsHaveTheirSizes : (hall.tagWindows.get 2).digits.length ≤ 10 := by decide

theorem test_wit_portEventsMoveOnePort :
    hall.resetLow = false ∧ hall.port .vesselA = ⟨.idle, false, (hall.port .vesselA).request⟩ ∧
    (answering .shore [2, 0] [1, 0, 0, 0] (rx .shore hall)).port .shore = ⟨.answering [1, 0, 0, 0], true, [2, 0]⟩ ∧
    (setPort .shore ⟨.ended, true, []⟩ hall).port .shore = ⟨.ended, true, []⟩ ∧
    ((rx .shore hall).port .shore).selected = true ∧ ((rx .shore hall).port .shore).state ≠ .ended := by decide

theorem test_wit_portEvents_taking :
    let taking := fun (a sel : Bool) => setPort .shore ⟨.taking a, sel, [2, 0]⟩ hall
    ((taking false true).port .shore).state = .taking false ∧ ((taking false true).port .shore).selected = true ∧
    ((taking true false).port .shore).selected = false ∧ (taking true true).resetLow = false ∧
    ((taking true true).port .shore).state = .taking true ∧
    ((taking true true).port .shore).request = frameBytes (Command.code .startLoop) [] ∧
    ((setPort .shore ⟨.taking true, false, [44, 0]⟩ hall).port .shore).request = frameBytes 44 [] ∧
    unknownCode 44 = true ∧ ((rx .shore hall).port .shore).state = .receiving ∧
    (∀ a, ((rx .shore hall).port .shore).state ≠ .taking a) ∧
    frameBytes 2 [] = [2] ++ [0] ∧ (List.replicate 255 (0 : Byte)).length ≤ 255 := by decide +kernel

theorem test_wit_linkChecksRefuseInOrder :
    (rx .shore hall).hears .shore (frameBytes 0 []) = true ∧ unknownCode 0 = true ∧
    (rx .shore hall).hears .shore (frameBytes 44 [1]) = true ∧ unknownCode 44 = true ∧
    unknownCode 255 = true ∧ ([0] : Payload).length ≠ Command.length .startLoop .shore ∧
    (setPort .shore ⟨.taking false, true, [2, 1, 0]⟩ hall).hears .shore (frameBytes 2 [0]) = true ∧
    (rx .vesselB hall).hears .vesselB (frameBytes 2 []) = true ∧
    (rx .vesselB hall).hears .vesselB (frameBytes 23 []) = true ∧
    ([] : Payload).length = Command.length .startLoop .vesselB ∧ permitted .startLoop .vesselB = false ∧
    ([] : Payload).length = Command.length .cutOff .vesselB ∧ permitted .cutOff .vesselB = true ∧
    takenVacant .cutOff = false ∧ linkSlot .vesselB = some .b ∧
    ((rx .vesselB hall).slot .b).state = .vacant := by decide

theorem test_wit_everyRequestIsAnswered :
    (rx .shore hall).hears .shore (frameBytes 2 []) = true ∧
    (setPort .shore ⟨.receiving, true, [2]⟩ hall).hears .shore (frameBytes 2 []) = true ∧
    (setPort .shore ⟨.taking false, true, [2, 0]⟩ hall).hears .shore (frameBytes 2 []) = true ∧
    ask .startLoop .shore [] hall = some [3, 5, 0, 0] ∧
    ask .cutOff .vesselA [] hall = some [2, 0, 0, 0] ∧ ask .stopLoop .shore [] hall = some [1, 0, 0, 0] := by
  decide +kernel

/-- `hallArmed` with a stray, a confirm window, a raised notice, and a FIRE waiting. -/
def hallBusy : State :=
  atTick 2550 { raise .stall .hall { withStray .inChute hallArmed with nextStrayId := 9 } with pending := [.fire] }

theorem test_wit_stepIsNext : (got (step hallBusy)).isSome = true := by decide +kernel

theorem test_wit_everyStepKeepsTheManifestLaw : hallBusy.manifestLaw := by
  refine ⟨by decide +kernel, ?_, ?_, by decide +kernel⟩
  · intro e he
    have h : e = ⟨tag1, .a, 150, .onLoop false, none, false⟩ := List.mem_singleton.mp he
    subst h; decide +kernel
  · intro sl; cases sl <;> decide +kernel

theorem test_wit_everyStepKeepsCommittedUnits : hallBusy.committedLaw := by
  unfold State.committedLaw; decide +kernel

theorem test_wit_everyStepKeepsTheBounds : hallBusy.boundsLaw := by
  refine ⟨by decide +kernel, by decide +kernel, by decide +kernel, by decide +kernel, by decide +kernel,
    ?_, ?_, by decide +kernel, by decide +kernel, by decide +kernel⟩
  · intro i; cases i <;> decide +kernel
  · intro i k stored h; cases i <;> cases h

theorem test_wit_everyStepKeepsTheNoticeAndPortLaws : hallBusy.noticeLaw ∧ hallBusy.portLaw := by
  refine ⟨?_, ?_⟩
  · intro l g; cases l <;> cases g <;> decide +kernel
  · intro l
    refine ⟨?_, ?_, ?_, fun a => ?_, fun r h => ?_⟩ <;> cases l <;>
      first | decide +kernel | (cases a <;> decide +kernel) | cases h

theorem test_wit_everyStepKeepsTheStrayLaw : hallBusy.strayLaw := by
  refine ⟨by decide +kernel, by decide +kernel, ?_⟩
  exact List.pairwise_singleton _ _

/-- A WAITING bag of `tag2` on tray 40, and a BERTH that the shore link sends. -/
def hallWaiting : State := withTray 40 (waitingTray .unknownTag tag2) hall

theorem test_wit_everyStepKeepsTheWaitingLaw : hallWaiting.waitingLaw := by
  intro t b hb hw
  have e : hallWaiting.tray t = if t = 40 ∧ 40 < 64 then waitingTray .unknownTag tag2 else .empty :=
    tray_withTray 40 _ t
  rw [e] at hb ⊢
  split_ifs at hb ⊢ with ht
  · obtain rfl := Option.some.inj hb
    exact ⟨rfl, rfl, rfl, tag2, .a, rfl, rfl, by decide +kernel, by decide +kernel⟩
  · cases hb

theorem test_wit_waitingStepIsNext : (got (step hallWaiting)).isSome = true := by decide +kernel

/-- The last pitch before offset 0 comes to tray 0. -/
def hallHome (misses : Nat) : State :=
  { hall with loop := { hall.loop with pos := 63, homeMiss := misses } }

theorem test_wit_pitchEventMovesTheLoop :
    State.reset.loop.state = .stopped ∧
    (hall.loop.state = .running ∧ (hall.loop.pos + 1) % hall.T ≠ 0 ∧ hall.loop.pitchTime = some 0) ∧
    (inLoop .stalled hall).loop.state = .stalled ∧
    ({ hall.loop with state := .starting, pitchTime := none } : Loop).state ≠ .stalled ∧
    ((inLoop .starting hall).loop.state = .starting ∧ (inLoop .starting hall).loop.pitchTime = some 0) ∧
    ((hallHome 1).loop.pos + 1) % (hallHome 1).T = 0 ∧ (hallHome 1).loop.homeMiss = 1 ∧
    (hallHome 0).loop.homeMiss < 2 := by decide

/-- Windows that close and stay, a SELECTED tray that comes to its arm position, two trays selected anew. -/
theorem test_wit_pitchEvent_acts :
    let windows := withInd .i0 (fun r => { r with windows := [window40, { window40 with tray := 41, left := 2 }] }) hall
    let stalled := withTray 41 (.loaded bag1) (inLoop .stalled (hallOn (.loaded bag1)))
    (∃ w ∈ (windows.ind .i0).windows, w.tray = 40 ∧ w.left ≤ 1) ∧
    (∀ w ∈ (windows.ind .i0).windows, w.tray = 41 → 1 < w.left) ∧
    (∀ i, ∀ w ∈ (hall.ind i).windows, w.tray = 40 → 1 < w.left) ∧
    (withTray 40 (.selected bag1 0 30 1) hall).tray 40 = .selected bag1 0 30 1 ∧
    ({ hall with loop := { hall.loop with pos := 6 } } : State).offsetOf 40 = 30 ∧ 40 < hall.T ∧
    stalled.loop.state = .stalled ∧ stalled.tray 40 = .loaded bag1 ∧ stalled.tray 41 = .loaded bag1 ∧
    bag1.isWaiting = false ∧ stalled.T = 64 := by
  refine ⟨⟨window40, by decide, rfl, by decide⟩, by decide, ?_, by decide, by decide, by decide, by decide,
    by decide, by decide, by decide, by decide⟩
  intro i w hw; cases i <;> simp [hall, State.ind, PerInd.get, Induction.reset] at hw

theorem test_wit_settleHolds :
    hall.held .i0 = false ∧ (inLoop .stalled hall).held .i0 = true ∧ hall.held .i1 = true := by decide

theorem test_wit_trackSlipSuspectsEveryBag :
    let s := hallOn (.loaded bag1)
    s.loop.state ≠ .stopped ∧ 0 < s.T ∧ (s.loop.pos + 1) % s.T ≠ 0 ∧ (s.tray 40).bag = some bag1 ∧
    bag1.entryLink = some tag1 ∧ (s.entry tag1).map (·.status.isOnLoop) = some true ∧
    0 < s.onLoop .a := by decide

theorem test_wit_stallTimeoutEntersStalled :
    let s := atTick 20000 hallArmed
    s.loop.state = .running ∧ s.loop.stallFrom = some 0 ∧ 0 + s.loop.cfg.stallTimeout ≤ s.clock.tick := by
  decide

theorem test_wit_checkEyeSettlesEachRow :
    (∀ x, ∀ i, ∀ w ∈ ((hallOn x).ind i).windows, w.tray ≠ 40) ∧
    40 < (hallOn .empty).T ∧ (hallOn .empty).tray 40 = .empty ∧
    (hallOn (.reserved .i0)).tray 40 = .reserved .i0 ∧ (hallOn .suspect).tray 40 = .suspect ∧
    (hallOn (.loaded { bag1 with passes := 3 })).tray 40 = .loaded { bag1 with passes := 3 } ∧
    (hallOn (.loaded bag1)).loop.cfg.limit < 4 ∧
    ((hallOn (.loaded bag1)).entry tag1).map (·.status.isOnLoop) = some true ∧
    (hallOn (.unconfirmed bag1 0 0)).tray 40 = .unconfirmed bag1 0 0 ∧
    hallArmed.tray 40 = .armed bag1 0 := by
  refine ⟨?_, by decide⟩
  intro x i w hw; cases i <;> simp [hallOn, withTray, withEntry, hall, State.ind, PerInd.get, Induction.reset] at hw

/-- An open launch window, closed by the check eye before the row of its tray. -/
theorem test_wit_checkEye_open_window :
    let s := withInd .i0 (fun r => { r with windows := [window40] }) (hallOn (.loaded bag1))
    40 < s.T ∧ (∃ i, ∃ w ∈ (s.ind i).windows, w.tray = 40) ∧
    ((reconcile 40 true s).ind .i0).windows = [] ∧
    ((reconcile 40 true s).tray 40).bag.map (·.launchConfirmed) = some true := by
  refine ⟨by decide, ⟨.i0, window40, by decide, rfl⟩, by decide, by decide +kernel⟩

/-- A WAITING bag past the match wait and one within it; a FIRED tray with its window; the third failure. -/
theorem test_wit_checkEye_waits_and_fires :
    let b : BagRecord := { bag1 with tag := some tag2, entryLink := none, cls := .waiting .unknownTag }
    let late := withTray 40 (.loaded { b with passes := 2 }) hall
    hallWaiting.tray 40 = .loaded b ∧ late.tray 40 = .loaded { b with passes := 2 } ∧
    b.tag = some tag2 ∧ b.tag2 = none ∧ b.slot = some .a ∧ hall.decodeSlot tag2 = some .a ∧
    (hall.slot .a).state = .loading ∧ hall.entryIn .a tag2 = none ∧
    late.loop.cfg.matchWait < min 8 (2 + 1) ∧ min 8 (b.passes + 1) ≤ hall.loop.cfg.matchWait ∧
    min 8 (b.passes + 1) ≤ hall.loop.cfg.limit ∧
    hallFired.tray 40 = .fired bag1 0 0 ∧ (hallFired.chute 0).windows = [] ++ ⟨40, 5550⟩ :: [] ∧
    ((withChute 0 (fun x => { x with failures := 2 }) (hallOn (.unconfirmed bag1 0 0))).chute 0).failures = 2 ∧
    ((hallOn (.unconfirmed bag1 0 0)).entry tag1).map (·.status.isOnLoop) = some true := by decide +kernel

theorem test_wit_decodeTakesTheLongestMatch :
    (hall.tagWindows.get 2).isMatch 1900000000 = true ∧
    (∀ m, m ≠ 2 → (hall.tagWindows.get m).isMatch 1900000000 = true →
      (hall.tagWindows.get m).digits.length < (hall.tagWindows.get 2).digits.length) ∧
    (hall.tagWindows.get 0).isMatch 1900000000 = true ∧
    (∀ n, (hall.tagWindows.get n).isMatch 3000000000 = false) ∧
    ((hall.maps.get .a).get 0).valid = true ∧ ((hall.maps.get .a).get 0).first ≤ 199 ∧
    199 ≤ ((hall.maps.get .a).get 0).last ∧
    (∀ m, m ≠ 0 → ¬ (((hall.maps.get .a).get m).valid = true ∧ ((hall.maps.get .a).get m).first ≤ 199 ∧
      199 ≤ ((hall.maps.get .a).get m).last)) := by decide +kernel

/-- A bag as a claim makes it, of a tag. -/
def newBagOf (tag : Option Tag) (tag2 : Option Tag) : BagRecord :=
  { bag1 with tag := tag, tag2 := tag2, slot := none, entryLink := none, cls := .stray .noRead }

/-- A LOADED tray 40 with such a bag, with slot A in a state. -/
def hallNew (b : BagRecord) (x : SlotState) : State :=
  withSlot .a (fun r => { r with state := x }) (withTray 40 (.loaded b) hall)

theorem test_wit_classificationFollowsTheSteps :
    (hallNew (newBagOf none none) .loading).tray 40 = .loaded (newBagOf none none) ∧
    (newBagOf (some tag1) (some tag2)).tag2 = some tag2 ∧ tag2 ≠ tag1 ∧
    hall.decodeSlot 3000000000 = none ∧ hall.decodeSlot 2000000000 = some .b ∧ (hall.slot .b).state = .vacant ∧
    hall.decodeSlot tag1 = some .a ∧ hall.decodeSlot tag2 = some .a ∧
    ((hallNew (newBagOf (some tag2) none) .closed).slot .a).state = .closed ∧
    ((hallNew (newBagOf (some tag2) none) .closing).slot .a).state = .closing ∧
    (hall.slot .a).state = .loading ∧ hall.entryIn .a tag2 = none ∧
    ((hallNew (newBagOf (some tag2) none) .final).slot .a).state = .final ∧
    hall.entryIn .a tag1 = some ⟨tag1, .a, 150, .expected, none, false⟩ ∧
    ((withEntry (.sorted 0 0 false) hall).entryIn .a tag1).map (·.status.code) = some 2 ∧
    hall.lookup .a 200 = none ∧ (hall.lookup .a 150).isSome = true := by decide +kernel

/-- A stray carried by its first tag, by its second, by none, and a full list. -/
theorem test_wit_classification_records :
    let full : State := { hall with strays := List.replicate 128 (strayIn .inChute) }
    (withStray .inChute hall).strayOfTag tag2 = some (strayIn .inChute) ∧
    (withStray .inChute hall).strayOfTag tag1 = none ∧ (withStray .inChute hall).strays.length < 128 ∧
    (strayIn .inChute).slot = some (.a, (hall.slot .a).call) ∧
    (strayIn .inChute).slot ≠ some (.a, ((withSlot .a (fun r => { r with call := 2 }) hall).slot .a).call) ∧
    full.strayOfTag tag1 = none ∧ 128 ≤ full.strays.length ∧ (full.slot .a).state ≠ .vacant := by decide +kernel

/-- A tray at its arm position, with the queue free, full, and with less travel than lead. -/
theorem test_wit_armEvent :
    let s := withTray 40 (.selected bag1 0 29 1) hall
    s.offsetOf 40 = 29 ∧ s.tray 40 = .selected bag1 0 (s.offsetOf 40) 1 ∧ s.fireQueue.length < 32 ∧
    32 ≤ ({ s with fireQueue := List.replicate 32 ⟨9, 1, 100⟩ } : State).fireQueue.length ∧
    (s.chute 0).cfg.latency + s.loop.cfg.throwTime bag1.size ≤ 1 * s.period ∧
    (withTray 40 (.selected bag1 0 29 0) hall).tray 40 = .selected bag1 0 29 0 ∧
    0 * s.period < (s.chute 0).cfg.latency + s.loop.cfg.throwTime bag1.size ∧
    (∀ b c d, hall.tray 40 ≠ .selected b c (hall.offsetOf 40) d) ∧
    (hallArmed.fireQueue.Pairwise fun x y => x.due ≤ y.due) := by
  refine ⟨by decide, by decide, by decide, by decide, by decide, by decide, by decide, ?_, by decide⟩
  intro b c d h; rw [tray_hall] at h; cases h

theorem test_wit_selectionTakesTheFirstChuteAhead :
    hall.choose (.group groupA) .medium 10 = some ⟨0, 49, 1⟩ ∧ hall.choose .stray .medium 59 = none ∧
    (hall.chute 0).eligible (.group groupA) 2 = true := by decide +kernel

/-- `hall` with chute 0 FULL and chute 1 too, so that nothing is eligible. -/
def hallFull : State :=
  withChute 0 (fun x => { x with state := .full }) (withChute 1 (fun x => { x with state := .full })
    (hallOn (.loaded bag1)))

/-- `bag1` as a stray. -/
def strayBag : BagRecord := { bag1 with entryLink := none, cls := .stray .noRead }

theorem test_wit_selectionCommitsOrCounts :
    let s := hallOn (.loaded bag1)
    s.tray 40 = .loaded bag1 ∧ s.bagDest bag1 = some (.group groupA) ∧
    s.choose (.group groupA) bag1.size (s.offsetOf 40) = some ⟨0, 49, 1⟩ ∧
    hallFull.tray 40 = .loaded bag1 ∧ hallFull.bagDest bag1 = some (.group groupA) ∧
    hallFull.choose (.group groupA) bag1.size (hallFull.offsetOf 40) = none ∧
    hallFull.someEligible (.group groupA) (unitsOf bag1.size) = false ∧ hallFull.blocked = [] ∧
    ({ hallFull with blocked := [⟨groupA, 3, 2⟩] } : State).blocked = [] ++ ⟨groupA, 3, 2⟩ :: [] ∧
    hallFull.blockedN = 4 ∧ (withTray 40 (.loaded strayBag) hallFull).bagDest strayBag = some .stray ∧
    hallFull.someEligible .stray (unitsOf strayBag.size) = false ∧ hallFull.strayArmed = true ∧
    ({ hallFull with strayArmed := false } : State).strayArmed = false ∧
    (hallWaiting.tray 40).bag.map (·.isWaiting) = some true := by decide +kernel

theorem test_wit_claimsAndGrantsTakeTheirTrays :
    let s := withInd .i0 (fun r => { r with queue := [rec1] }) hall
    (s.ind .i0).offset ≠ 0 ∧ s.trayAt (s.ind .i0).offset < s.T ∧ (s.ind .i0).queue = rec1 :: [] ∧
    s.barred .i0 = false ∧ s.tray (s.trayAt (s.ind .i0).offset) = .empty ∧
    (withTray 59 (.reserved .i0) s).tray (s.trayAt (s.ind .i0).offset) = .reserved .i0 ∧
    (s.ind .i0).sending = none ∧ (s.ind .i0).waiting = [] ∧
    (hall.ind .i0).queue = [] ∧ (inLoop .stalled s).barred .i0 = true ∧
    ((inLoop .stalled s).ind .i0).queue ≠ [] ∧ (s.ind .i0).reservation ≠ .granted 59 ∧
    (withTray 59 .suspect s).tray (s.trayAt (s.ind .i0).offset) = .suspect ∧ s.barred .i0 = false ∧
    ((withInd .i0 (fun r => { r with reservation := .granted 59 }) hall).ind .i0).reservation =
      .granted (hall.trayAt (hall.ind .i0).offset) ∧
    hall.loop.pos < hall.T ∧ hall.tray hall.loop.pos = .empty ∧
    ((withInd .i0 (fun r => { r with reservation := .requested }) hall).ind .i0).reservation = .requested ∧
    ((withInd .i0 (fun r => { r with reservation := .requested }) hall).ind .i3).reservation ≠ .requested ∧
    (withTray 5 .suspect hall).tray 5 ≠ .empty := by decide +kernel

theorem test_wit_inductionCountEventsHappen :
    ((withInd .i0 (fun r => { r with waitCount := 16 }) hall).ind .i0).wInUse ≤ 16 ∧
    (hall.ind .i0).reservation = .none ∧
    (∃ w ∈ ((withInd .i0 (fun r => { r with windows := [{ window40 with left := 0 }] }) hall).ind .i0).windows,
      w.left = 0) ∧
    (withInd .i0 (fun r => { r with queueHold := true, resendCount := 4 }) hall).held .i0 = true ∧
    (hall.ind .i0).n ≤ 4 := by
  refine ⟨by decide, by decide, ⟨_, List.mem_singleton.mpr rfl, rfl⟩, by decide, by decide⟩

theorem test_wit_transmitListKeepsItsOrder :
    let s := withInd .i0 (fun r => { r with sending := some .hold, waiting := [.launch 3, .resume] }) hall
    (s.ind .i0).sending = some .hold ∧ (s.ind .i0).waiting = .launch 3 :: [.resume] ∧
    (s.ind .i0).waiting = [.launch 3] ++ [.resume] ∧
    ((withInd .i0 (fun r => { r with sending := some .hold }) hall).ind .i0).waiting = [] ∧
    Induction.reset.sending = none ∧ Induction.reset.waiting = [] := by decide

/-- I0 IN FRAME of BAG, with a queue. -/
def hallInBag (q : List ReadRecord) : State :=
  withInd .i0 (fun r => { r with receiver := .inFrame .bag [], queue := q }) hall

theorem test_wit_readFramesJoinTheQueue :
    readFrame (.bagFrame .i0 tag1 .medium) = some (.i0, .bag, rec1) ∧
    encodeLineFrame (.bagFrame .i0 tag1 .medium) =
      some (.i0, FrameKind.code .bag, [1, 0, 0, 0, 0, 0, 0, 0, 0, 1, 1]) ∧
    (hallInBag []).framing .i0 .bag [1, 0, 0, 0, 0, 0, 0, 0, 0, 1, 1] = true ∧
    (withInd .i0 (fun r => { r with receiver := .inFrame .bag [1, 0] }) hall).framing .i0 .bag
      [1, 0, 0, 0, 0, 0, 0, 0, 0, 1, 1] = true ∧ ((hallInBag []).ind .i0).enabled = true ∧
    ((hallInBag []).ind .i0).resync = false ∧ ((hallInBag [rec1, rec1, rec1]).ind .i0).queue.length ≤ 3 ∧
    (hallInBag []).held .i0 = false ∧ (hallInBag [rec1, rec1]).held .i0 = false ∧
    (inLoop .stopped (hallInBag [])).held .i0 = true ∧
    ((hallInBag []).ind .i0).resendCount + 1 < ((hallInBag []).ind .i0).n ∧
    ((withInd .i0 (fun r => { r with resendCount := 3 }) (hallInBag [])).ind .i0).n ≤ 3 + 1 := by decide

theorem test_wit_readFramesThatAreNotQueued :
    readFrame (.noreadFrame .i1 .small) = some (.i1, .noread, ⟨.noread, .small⟩) ∧
    encodeLineFrame (.noreadFrame .i1 .small) = some (.i1, FrameKind.code .noread, [0]) ∧
    hall.framing .i1 .noread [0] = false ∧ (hall.ind .i1).enabled = false ∧
    (hallInBag [rec1, rec1, rec1, rec1]).framing .i0 .bag [1, 0, 0, 0, 0, 0, 0, 0, 0, 1, 1] = true ∧
    4 ≤ ((hallInBag [rec1, rec1, rec1, rec1]).ind .i0).queue.length ∧
    ((withInd .i0 (fun r => { r with resync := true }) (hallInBag [])).ind .i0).resync = true := by decide

/-- I0 IN FRAME of a launch answer, with or without its window for tray 40. -/
def hallAnswer (k : FrameKind) (ws : List LaunchWindow) (x : Tray) : State :=
  withInd .i0 (fun r => { r with receiver := .inFrame k [], windows := ws }) (hallOn x)

theorem test_wit_launchAnswersCloseWindows :
    ((hallAnswer .done [window40] (.loaded bag1)).ind .i0).enabled = true ∧
    (hallAnswer .done [window40] (.loaded bag1)).framing .i0 .done (trayChars 40) = true ∧
    (∃ w ∈ ((hallAnswer .done [window40] (.loaded bag1)).ind .i0).windows, w.tray = (40 : BitVec 16).toNat) ∧
    (∀ w ∈ ((hallAnswer .fail [window40] (.loaded bag1)).ind .i0).windows, w.tray ≠ (41 : BitVec 16).toNat) ∧
    (hallAnswer .fail [] (.loaded bag1)).framing .i0 .fail (trayChars 41) = true ∧
    (hallAnswer .done [] (.loaded bag1)).framing .i0 .done (trayChars 41) = true := by
  refine ⟨by decide, by decide, ⟨_, List.mem_singleton.mpr rfl, rfl⟩, by decide, by decide, by decide⟩

theorem test_wit_failedLaunchIsTakenBack :
    let s := hallAnswer .fail [window40] (.loaded bag1)
    (s.ind .i0).enabled = true ∧ s.framing .i0 .fail (trayChars 40) = true ∧
    (s.tray 40).bag.bind (·.entryLink) = some tag1 ∧
    ((hallAnswer .fail [window40] (.loaded { bag1 with entryLink := none, cls := .stray .withdrawn })).tray 40).bag.bind
      (·.entryLink) = none ∧
    (s.ind .i0).windows.find? (fun v => v.tray = (40 : BitVec 16).toNat) = some window40 ∧
    (s.tray 40).bag.isSome = true ∧ ((hallAnswer .fail [window40] .suspect).tray 40).bag = none ∧
    (s.entry tag1).map (·.status.isOnLoop) = some true ∧ (s.ind .i0).resync = false ∧
    (s.ind .i0).queue.length ≤ 3 ∧
    ((hallAnswer .fail [window40] (.armed bag1 0)).tray 40) = .armed bag1 0 ∧
    ((withInd .i0 (fun r => { r with resync := true }) s).ind .i0).resync = true ∧
    4 ≤ ((withInd .i0 (fun r => { r with queue := [rec1, rec1, rec1, rec1] }) s).ind .i0).queue.length := by
  decide

/-- A failed launch of a SELECTED, FIRED or UNCONFIRMED tray, with what the note says of the Stray List. -/
theorem test_wit_failedLaunch_gives_back :
    let at_ := fun (x : Tray) => hallAnswer .fail [window40] x
    let noted := fun (n : UndoStray) (e : StrayEntry) =>
      { hallAnswer .fail [{ window40 with note := ⟨none, some n⟩ }] (.loaded bag1) with strays := [e] }
    (at_ (.selected bag1 0 49 1)).tray 40 = .selected bag1 0 49 1 ∧
    (at_ (.fired bag1 0 0)).tray 40 = .fired bag1 0 0 ∧
    (at_ (.unconfirmed bag1 0 1)).tray 40 = .unconfirmed bag1 0 1 ∧ (hall.chute 0).gen = 0 ∧
    ((withChute 0 (fun x => { x with windows := [⟨40, 5550⟩] }) (at_ (.fired bag1 0 0))).chute 0).windows =
      [] ++ ⟨40, 5550⟩ :: [] ∧
    window40.note.entry = some ⟨tag1, .expected, none⟩ ∧ window40.note.stray = none ∧
    (noted (.appended 7) { strayIn .routing with times := 1 }).strayOfId 7 = some { strayIn .routing with times := 1 } ∧
    (noted (.appended 7) { strayIn .inChute with times := 2 }).strayOfId 7 = some { strayIn .inChute with times := 2 } ∧
    (noted (.moved 7 .inChute .noRead false 1 .routing 2) { strayIn .routing with times := 2 }).strayOfId 7 =
      some { strayIn .routing with times := 2 } := by decide +kernel

theorem test_wit_lineReceiverMoves :
    (hall.ind .i0).enabled = true ∧ (hall.ind .i0).receiver = .idle ∧
    ((hallInBag []).ind .i0).receiver = .inFrame .bag [] ∧
    ((withInd .i0 (fun r => { r with receiver := .skipping }) hall).ind .i0).receiver = .skipping ∧
    ((hallIn .bag [1]).ind .i0).receiver = .inFrame .bag [1] ∧ FrameKind.badAt .bag 1 10 = true ∧
    FrameKind.badAt .bag 1 9 = false ∧
    encodeLineFrame (.failFrame .i0 258) = some (.i0, FrameKind.code .fail, [1] ++ [2]) ∧
    10 ≤ (10 : Byte).toNat ∧ 10 ≤ (255 : Byte).toNat ∧ 4 ≤ (4 : Byte).toNat ∧
    (hall.ind .i1).enabled = false := by decide

theorem test_wit_hallClockAndTiltPulse :
    (atTick 10000 hall).clock.secondAt + 10000 ≤ (atTick 10000 hall).clock.tick ∧
    ((withChute 0 (fun x => { x with pulseEnd := some 300 }) hall).chute 0).pulseEnd = some 300 ∧
    300 ≤ (atTick 300 hall).clock.tick := by decide

theorem test_wit_fireTakesTheArmedTray :
    let s := atTick 2550 hallArmed
    s.fireQueue = ⟨40, 0, 2550⟩ :: [] ∧ 2550 ≤ s.clock.tick ∧ s.tray 40 = .armed bag1 0 ∧
    (s.chute 0).filling = true ∧ (s.chute 0).state = .isOpen ∧ (s.chute 0).windows.length < 4 ∧
    ((withChute 0 (fun x => { x with fill := 38 }) s).chute 0).cfg.capacity ≤ 38 + unitsOf bag1.size ∧
    ((withChute 0 (fun x => { x with fill := 30 }) s).chute 0).cfg.nearFull ≤ 30 + unitsOf bag1.size ∧
    ((withChute 0 (fun x => { x with state := .disabled }) s).chute 0).filling = false ∧
    ((withChute 0 (fun x => { x with windows := [⟨1, 1⟩, ⟨2, 2⟩, ⟨3, 3⟩, ⟨4, 4⟩] }) s).chute 0).windows =
      ⟨1, 1⟩ :: [⟨2, 2⟩, ⟨3, 3⟩, ⟨4, 4⟩] := by decide

/-- Chute 3 is an idle standby that covers chute 0, whose 39 units the fire makes 40 or more. -/
theorem test_wit_fire_takeover :
    let s := withChute 0 (fun x => { x with fill := 38 }) (atTick 2550 hallArmed)
    s.idleCover 3 0 ∧ (s.chute 0).filling = true ∧ (s.chute 0).state ≠ .full ∧
    (s.chute 0).cfg.capacity ≤ (s.chute 0).fill + unitsOf bag1.size ∧ (s.chute 0).cfg.role = .sort ∧
    (s.chute 0).group.isSome = true ∧ (s.chute 0).released = false ∧ ¬ s.idleCover 1 0 := by
  unfold State.idleCover; decide

/-- A standby judged: with a FULL chute in its cover list, and with none. -/
theorem test_wit_standbyJudged :
    let full := withChute 0 (fun x => { x with state := .full }) hall
    (0 : ChuteId) ∈ (hall.chute 3).cfg.cover ∧ full.fullGroup 0 ∧
    (∀ j ∈ (hall.chute 3).cfg.cover, full.fullGroup j → 0 ≤ j) ∧
    (∀ k ∈ (hall.chute 3).cfg.cover, ¬ hall.fullGroup k) ∧ (hall.chute 3).jam = false ∧
    (hall.chute 3).fault = false ∧ (hall.chute 3).cfg.role = .standby ∧
    (hall.chute 3).state = .standbyIdle := by
  unfold State.fullGroup; decide

theorem test_wit_fire_without_its_tray :
    ∀ b, (withTray 40 (.loaded bag1) hallArmed).tray 40 ≠ .armed b 0 := by
  intro b h; exact absurd h (by show Tray.loaded bag1 ≠ Tray.armed b 0; exact Tray.noConfusion)

theorem test_wit_confirmWindowsSettleTheirTrays :
    (hall.chute 0).eye = false ∧ (hall.chute 0).windows = [] ∧ (hallFired.chute 0).windows = ⟨40, 5550⟩ :: [] ∧
    hallFired.tray 40 = .fired bag1 0 0 ∧ (hallFired.entry tag1).map (·.status.isOnLoop) = some true ∧
    (atTick 5550 hallFired).clock.tick = 5550 ∧
    ((withChute 0 (fun x => { x with windows := [⟨9, 9000⟩, ⟨40, 5550⟩, ⟨8, 9000⟩] }) hallFired).chute 0).windows =
      [⟨9, 9000⟩] ++ ⟨40, 5550⟩ :: [⟨8, 9000⟩] := by decide

/-- A routed bag that follows a stray entry, and a stray bag, at their chute. -/
theorem test_wit_confirmed_strays :
    let b : BagRecord := { bag1 with strayId := some 7 }
    let fired := fun (b : BagRecord) (x : StrayState) =>
      withChute 0 (fun x => { x with windows := [⟨40, 5550⟩] }) (withStray x (hallOn (.fired b 0 0)))
    (fired b .reinducted).tray 40 = .fired b 0 0 ∧ b.entryLink = some tag1 ∧
    b.strayId.or (((fired b .reinducted).entry tag1).bind (·.strayLink)) = some 7 ∧
    (fired b .reinducted).strayOfId 7 = some (strayIn .reinducted) ∧ (strayIn .matched).state ≠ .reinducted ∧
    (let y : BagRecord := { strayBag with strayId := some 7 }
     (fired y .routing).tray 40 = .fired y 0 0 ∧ y.entryLink = none ∧ y.isStray = true ∧ y.strayId = some 7) ∧
    strayBag.entryLink = none ∧ strayBag.strayId = none := by decide +kernel

theorem test_wit_jamFlagFollowsTheEye :
    let s := atTick 30000 (withChute 0 (fun x => { x with eye := true, occludedFrom := some 0 }) hall)
    (s.chute 0).occludedFrom = some 0 ∧ (s.chute 0).jam = false ∧ 0 + (s.chute 0).cfg.jamTime ≤ s.clock.tick ∧
    (s.chute 0).group = some groupA ∧ (s.chute 0).released = false ∧ (s.chute 0).cfg.role ≠ .stray ∧
    (s.chute 0).eye = true ∧ (s.chute 0).cfg.role ≠ .standby := by decide

theorem test_wit_raiseFlagsTheScopesLinks :
    LinkId.vesselA = slotLink .a ∧
    ((raise .stall .hall hall).notices.get .shore).pending .loop = true ∧
    (hall.notices.get .shore).latches.get .loop = .clear ∧ hall.flagged .shore .stall = false ∧
    Notice.trackSlip.number ≠ Notice.stall.number := by decide

/-- The whole of R188's checks passed by a request. -/
def passes (k : Command) (l : LinkId) (p : Payload) (s : State) : Bool := (rx l s).admits k l p

theorem test_wit_readsReturnTheirRecords :
    passes .readTray .shore [0, 63] hall ∧ u16 [0, 63] 0 < hall.T ∧ passes .readTray .shore [0, 64] hall ∧
    hall.T ≤ u16 [0, 64] 0 ∧ passes .readInduction .shore [3] hall ∧ indOf (u8 [3] 0) = some .i3 ∧
    passes .readInduction .shore [4] hall ∧ passes .readWindow .vesselA [7] hall ∧ u8 [7] 0 < 8 ∧
    passes .readWindow .shore [8] hall ∧ passes .readBag .vesselA [0x10, 0, 0, 0, 1] hall ∧
    tagAt [0x10, 0, 0, 0, 1] 0 = some tag1 ∧ (hall.entry tag1).isSome = true ∧
    passes .readBag .vesselB [0x10, 0, 0, 0, 1] (withSlot .b (fun r => { r with state := .loading }) hall) ∧
    hall.entry tag2 = none ∧ tagAt [0xA0, 0, 0, 0, 1] 0 = none ∧
    passes .readCabinRange .vesselA [95] hall ∧ u8 [95] 0 < 96 ∧ passes .readCabinRange .shore [1, 95] hall ∧
    slotOf (u8 [1, 95] 0) = some .b ∧ u8 [1, 95] 1 < 96 ∧ passes .shipStatus .vesselB [] hall ∧
    passes .shipStatus .shore [1] hall ∧ passes .readChute .vesselA [47] hall ∧
    passes .readChute .shore [48] hall ∧ 47 < u8 [48] 0 ∧ passes .readStrayList .shore [127] hall ∧
    u8 [127] 0 ≤ 127 ∧ passes .readStrayList .shore [128] hall ∧ 127 < u8 [128] 0 ∧
    passes .readStray .vesselA [0, 7] hall ∧
    (withStray .inChute hall).view .vesselA = [] ++ strayIn .inChute :: [] ∧
    (strayIn .inChute).id = BitVec.ofNat 16 (u16 [0, 7] 0) ∧ hall.view .shore = [] ∧
    passes .readCabinRange .vesselA [96] hall ∧ 95 < u8 [96] 0 ∧ passes .readCabinRange .shore [2, 0] hall ∧
    1 < u8 [2, 0] 0 ∧ passes .readCabinRange .shore [0, 96] hall ∧ 95 < u8 [0, 96] 1 ∧
    passes .shipStatus .shore [2] hall ∧ 1 < u8 [2] 0 ∧
    passes .readResetCause .shore [] hall := by decide +kernel

theorem test_wit_configureLoopClampsAndStores :
    passes .configureLoop .shore (loopPayload 64) hall ∧ hall.loop.state ≠ .stopped ∧
    (inLoop .stopped hall).loop.state = .stopped ∧ u16 (loopPayload 64) 0 = hall.T ∧
    64 ≤ u16 (loopPayload 64) 0 ∧ u16 (loopPayload 64) 0 ≤ 512 ∧
    passes .configureLoop .shore (loopPayload 64) State.reset ∧ u16 (loopPayload 64) 0 ≠ State.reset.T ∧
    State.reset.someOccupied = false ∧ State.reset.offsetBeyond 64 = false ∧
    u16 (2 :: 0 :: (loopPayload 64).drop 2) 0 = 512 := by decide +kernel

theorem test_wit_startAndStopLoop :
    passes .startLoop .shore [] hall ∧ hall.loop.state ≠ .stopped ∧ passes .startLoop .shore [] State.reset ∧
    State.reset.loop.state = .stopped ∧ passes .stopLoop .shore [] State.reset ∧
    passes .stopLoop .shore [] hallArmed ∧ hallArmed.tray 40 = .armed bag1 0 := by decide

theorem test_wit_resetLoopClearsTheMotion :
    passes .resetLoop .shore [] hall ∧ hall.loop.state = .running ∧
    (inLoop .stalled (hallOn (.loaded bag1))).loop.state = .stalled ∧
    passes .resetLoop .shore [] (inLoop .stalled (hallOn (.loaded bag1))) ∧
    0 < (hallOn (.loaded bag1)).onLoop .a ∧
    ((withSlot .a (fun r => { r with state := .closing }) hall).slot .a).state = .closing := by decide

theorem test_wit_configureInduction :
    let p : Payload := [1, 0, 63, 16, 64, 1]
    passes .configureInduction .shore p hall ∧ indOf (u8 p 0) = some .i1 ∧ yesNoOf (u8 p 5) = some true ∧
    u8 p 3 = 16 ∧ 1 ≤ u8 p 4 ∧ u8 p 4 ≤ 64 ∧ u16 p 1 < hall.T ∧ u16 p 1 ≠ 0 ∧
    (hall.ind .i1).enabled = false ∧ u16 p 1 ≠ (hall.ind .i1).offset ∧
    (hall.ind .i0).offset ≠ u16 p 1 ∧ (hall.ind .i2).offset ≠ u16 p 1 ∧ (hall.ind .i3).offset ≠ u16 p 1 ∧
    (hall.ind .i1).sending = none ∧ (hall.ind .i1).waiting = [] ∧
    ((withInd .i1 (fun r => { r with reservation := .granted 40 }) (hallOn (.reserved .i1))).ind .i1).reservation =
      .granted 40 := by decide

/-- An enabled induction keeps its offset, or is refused a new one. -/
theorem test_wit_configureInduction_enabled :
    let p : Payload := [0, 0, 10, 1, 1, 0]
    let q : Payload := [0, 0, 11, 1, 1, 1]
    passes .configureInduction .shore p hall ∧ u16 p 1 = (hall.ind .i0).offset ∧ (hall.ind .i0).enabled = true ∧
    yesNoOf (u8 p 5) = some false ∧ passes .configureInduction .shore q hall ∧
    u16 q 1 ≠ (hall.ind .i0).offset ∧ yesNoOf (u8 q 5) = some true := by decide

theorem test_wit_inductionResume :
    passes .inductionResume .shore [4] hall ∧ 3 < u8 [4] 0 ∧ passes .inductionResume .shore [0] hall ∧
    (hall.ind .i0).resync = false ∧
    ((withInd .i0 (fun r => { r with resync := true }) hall).ind .i0).resync = true := by decide

theorem test_wit_windowsAreWrittenAndCleared :
    let p : Payload := [4, 2, 0x35, 0, 0, 0, 0, 1]
    let q : Payload := [0, 10, 0x12, 0x34, 0x56, 0x78, 0x90, 2]
    passes .setWindow .shore p hall ∧ targetOf (u8 p 7) = some .slotB ∧
    (halfBytes p 2 5).take (u8 p 1) = [3, 5] ∧ 1 ≤ u8 p 1 ∧
    (∀ m, m ≠ 4 → (hall.tagWindows.get m).digits ≠ [3, 5]) ∧ hall.windowInUse (hall.tagWindows.get 4) = false ∧
    (∀ m, m ≠ 4 → hall.windowServes (hall.tagWindows.get m) = true →
      prefixRelated [3, 5] (hall.tagWindows.get m).digits = false) ∧
    passes .setWindow .shore q hall ∧ u8 q 1 ≤ 10 ∧ hall.windowInUse (hall.tagWindows.get 0) = true ∧
    (∀ m, m ≠ 0 → (hall.tagWindows.get m).digits ≠ [1, 2, 3, 4, 5, 6, 7, 8, 9, 0]) ∧
    passes .clearWindow .shore [0] hall ∧ passes .clearWindow .shore [1] hall ∧
    hall.windowInUse (hall.tagWindows.get 1) = false := by decide +kernel

theorem test_wit_addBagTakesAnEntry :
    let p : Payload := [0x10, 0, 0, 0, 2, 0, 150]
    let full := withSlot .a (fun r => { r with quota := 1 }) hall
    passes .addBag .vesselA p hall ∧ tagAt p 0 = some tag2 ∧ u16 p 5 ≠ 0 ∧ (hall.slot .a).state = .loading ∧
    ((hallNew (newBagOf none none) .final).slot .a).state = .final ∧
    hall.decodeSlot tag2 = some .a ∧ hall.entry tag2 = none ∧ hall.entryCount .a < (hall.slot .a).quota ∧
    (full.slot .a).quota ≤ full.entryCount .a ∧ tagAt [0x10, 0, 0, 0, 1, 0, 150] 0 = some tag1 ∧
    (hall.entry tag1).isSome = true ∧ hall.matchable .a tag2 = none ∧
    (withStray .inChute hall).matchable .a tag2 = some (strayIn .inChute) := by decide +kernel

/-- No bag of `hall` waits, and one of `hallWaiting` does. -/
theorem test_wit_addBag_waiting :
    (∀ k b, (hall.tray k).bag = some b → b.slot = some .a → b.tag = some tag2 → b.cls ≠ .waiting .unknownTag) ∧
    passes .addBag .vesselA [0x10, 0, 0, 0, 2, 0, 150] hallWaiting = true ∧ 40 < hallWaiting.T ∧
    hallWaiting.tray 40 = waitingTray .unknownTag tag2 ∧
    (∀ j b', j ≠ 40 → (hallWaiting.tray j).bag = some b' → b'.slot = some .a → b'.tag = some tag2 →
      b'.cls ≠ .waiting .unknownTag) ∧ (hallWaiting.lookup .a 150).isSome = true := by
  refine ⟨?_, by decide +kernel, by decide, by decide, ?_, by decide +kernel⟩
  · intro k b h; rw [tray_hall] at h; cases h
  · intro j b' hj h
    have e : hallWaiting.tray j = if j = 40 ∧ 40 < 64 then waitingTray .unknownTag tag2 else .empty :=
      tray_withTray 40 _ j
    rw [e, if_neg (fun x => hj x.1)] at h
    cases h

/-- The one tray that links an entry. -/
theorem test_wit_oneTrayOfAnEntry (x : Tray) :
    ∀ j b', ((hallOn x).tray j).bag = some b' → b'.entryLink = some tag1 → j = 40 :=
  fun _ _ h _ => (bag_hallOn h).1

theorem test_wit_withdrawBagReturnsTheEntry :
    let p : Payload := [0x10, 0, 0, 0, 1]
    passes .withdrawBag .vesselA p hall ∧ tagAt p 0 = some tag1 ∧ (hall.entryIn .a tag1).isSome = true ∧
    ({ hall with pool := [] } : State).entryIn .a tag1 = none ∧
    passes .withdrawBag .vesselA p (hallOn (.loaded bag1)) ∧ 40 < (hallOn (.loaded bag1)).T ∧
    ((hallOn (.loaded bag1)).entryIn .a tag1).map (·.status.isOnLoop) = some true ∧
    ((hallOn (.fired bag1 0 0)).tray 40).bag = some bag1 ∧ bag1.entryLink = some tag1 ∧
    (hallOn (.loaded bag1)).tray 40 = .loaded bag1 ∧
    (hallOn (.selected bag1 0 49 1)).tray 40 = .selected bag1 0 49 1 ∧
    (hallOn (.unconfirmed bag1 0 0)).tray 40 = .unconfirmed bag1 0 0 ∧ (hallOn .empty).chute 0 = hall.chute 0 ∧
    (hall.chute 0).cfg.role ≠ .stray ∧ hallArmed.tray 40 = .armed bag1 0 := by decide

theorem test_wit_changeCabinFollowsTheStatus :
    let p : Payload := [0x10, 0, 0, 0, 1, 0, 151]
    passes .changeCabin .vesselA p hall ∧ u16 p 5 ≠ 0 ∧ u16 p 5 ≠ 150 ∧
    u16 [0x10, 0, 0, 0, 1, 0, 150] 5 = 150 ∧
    hall.entryIn .a tag1 = some ⟨tag1, .a, 150, .expected, none, false⟩ ∧
    ((withEntry (.sorted 0 0 false) hall).entryIn .a tag1).map (·.status) = some (.sorted 0 0 false) ∧
    passes .changeCabin .vesselA p (hallOn (.loaded bag1)) ∧
    ((hallOn (.loaded bag1)).entryIn .a tag1).map (·.status.isOnLoop) = some true ∧
    (hallOn (.loaded bag1)).tray 40 = .loaded bag1 ∧
    (hallOn (.unconfirmed bag1 0 0)).tray 40 = .unconfirmed bag1 0 0 ∧
    (hallOn (.selected bag1 0 49 1)).tray 40 = .selected bag1 0 49 1 ∧ hallArmed.tray 40 = .armed bag1 0 := by
  decide

/-- A bag of `tag1` that waits for a cabin range on tray 40. -/
def hallUnmapped : State := withTray 40 (waitingTray .cabinUnmapped tag1) hall

theorem test_wit_changeCabin_wakes :
    (hallUnmapped.entryIn .a tag1).map (fun e => (e.status.isOnLoop, e.status.sort.isNone)) = some (false, true) ∧
    passes .changeCabin .vesselA [0x10, 0, 0, 0, 1, 0, 151] hallUnmapped ∧
    ((hallUnmapped.tray 40).bag.map (fun b => (b.cls, b.slot, b.tag))) =
      some (.waiting .cabinUnmapped, some .a, some tag1) ∧
    (∀ k b, (hall.tray k).bag = some b → b.slot = some .a → b.cls ≠ .waiting .cabinUnmapped) := by
  refine ⟨by decide, by decide, by decide, ?_⟩
  intro k b h; rw [tray_hall] at h; cases h

theorem test_wit_cabinRangesAreWritten :
    let p : Payload := [95, 0, 200, 0xFF, 0xFF, 20, 6]
    let q : Payload := [1, 0, 199, 0, 199, 1, 1]
    passes .setCabinRange .vesselA p hall ∧ u8 p 0 = 95 ∧ u16 p 1 ≠ 0 ∧ u16 p 1 ≤ u16 p 3 ∧ u8 p 5 = 20 ∧
    u8 p 6 = 6 ∧ rangeOverlaps (hall.maps.get .a) 95 (u16 p 1) (u16 p 3) = false ∧
    passes .setCabinRange .vesselA q hall ∧ rangeOverlaps (hall.maps.get .a) 1 (u16 q 1) (u16 q 3) = true ∧
    (hall.maps.get .a).get 95 ≠ ⟨true, u16 p 1, u16 p 3, u8 p 5, u8 p 6⟩ ∧
    (hall.maps.get .a).get 0 = ⟨true, 100, 199, 3, 1⟩ ∧ passes .setCabinRange .vesselA [0, 0, 100, 0, 199, 3, 1] hall ∧
    rangeOverlaps (hall.maps.get .a) 0 100 199 = false ∧
    passes .clearCabinRange .vesselA [0] hall ∧ ((hall.maps.get .a).get 0).valid = true ∧
    ((hall.maps.get .a).get 95).valid = false := by decide +kernel

theorem test_wit_wakesReachWaitingTraysOnly :
    let b : BagRecord := { bag1 with tag := some tag2, entryLink := none, cls := .waiting .unknownTag }
    hallWaiting.tray 40 = .loaded b ∧ b.isWaiting = true ∧ b.slot = some .a ∧ b.tag2 = none ∧
    hallWaiting.decodeSlot tag2 = some .a ∧ (hallWaiting.slot .a).state = .loading ∧
    ((withSlot .a (fun r => { r with state := .closing }) hallWaiting).slot .a).state = .closing ∧
    ((withSlot .a (fun r => { r with state := .final }) hallWaiting).slot .a).state = .final ∧
    hallWaiting.entryIn .a tag2 = none ∧ bag1.isWaiting = false ∧ hallWaiting.loop.pos < hallWaiting.T ∧
    (hallUnmapped.tray 40).bag.map (fun x => (x.isWaiting, x.slot, x.tag, x.tag2)) =
      some (true, some .a, some tag1, none) ∧ hallUnmapped.decodeSlot tag1 = some .a ∧
    (hallUnmapped.entryIn .a tag1).map (fun e => e.status.code) = some 0 ∧
    hallUnmapped.lookup .a 150 = some groupA := by decide +kernel

theorem test_wit_berthAndSetQuota :
    slotOf (u8 [1, 0x20, 0] 0) = some .b ∧ u16 [1, 0x20, 0] 1 = 8192 ∧ passes .berth .shore [1, 0x20, 0] hall ∧
    (hall.slot .b).state = .vacant ∧ 8192 < u16 [1, 0x20, 0] 1 + (hall.slot .a).quota ∧
    u16 [1, 0x1F, 0xF6] 1 + (hall.slot .a).quota = 8192 ∧ hall.entryCount .b = 0 ∧
    (hall.slot .a).state ≠ .vacant ∧ passes .setQuota .shore [0, 0, 1] hall ∧
    u16 [0, 0, 1] 1 + (hall.slot .b).quota ≤ 8192 ∧ hall.entryCount .a ≤ u16 [0, 0, 1] 1 ∧
    u16 [0, 0, 0] 1 < hall.entryCount .a := by decide

theorem test_wit_manifestFinalAndReopen :
    LinkId.vesselA = slotLink .a ∧ (rx .vesselA hall).hears .vesselA (frameBytes 20 []) = true ∧
    (rx .vesselA hall).hears .vesselA (frameBytes 21 []) = true ∧
    (hall.slot .a).state = .loading ∧ LinkId.vesselB = slotLink .b ∧
    (rx .vesselB hall).hears .vesselB (frameBytes 20 []) = true ∧
    (rx .vesselB hall).hears .vesselB (frameBytes 21 []) = true ∧ (hall.slot .b).state = .vacant ∧
    ((withSlot .a (fun r => { r with state := .closed }) hall).slot .a).state = .closed ∧
    ((withSlot .a (fun r => { r with state := .final }) hall).slot .a).state = .final := by decide

theorem test_wit_cutOffDrainsAndUnberthClears :
    passes .cutOff .vesselA [] hallWaiting ∧ passes .cutOff .shore [0] hallWaiting ∧
    slotOf (u8 [0] 0) = some .a ∧ (hallWaiting.slot .a).state = .loading ∧ 0 < hallWaiting.onLoop .a ∧
    hall.onLoop .a = 0 ∧ (hallWaiting.tray 40).bag.map (·.isWaiting) = some true ∧
    passes .unberth .shore [0] hall ∧ (hall.slot .a).state ≠ .closed ∧
    ((withSlot .a (fun r => { r with state := .closed }) hall).slot .a).state = .closed ∧
    (hall.chute 0).cfg.role ≠ .standby ∧ (hall.chute 0).group = some groupA ∧
    (hall.chute 0).cfg.role = .sort ∧ (hall.chute 0).state ≠ .swapping ∧ (hall.chute 0).fill = 0 ∧
    (hall.chute 1).group = none ∧
    ((withChute 0 (fun x => { x with state := .swapping, fill := 3 }) hall).chute 0).state = .swapping := by
  decide

/-- No chute of `hall` is assigned to slot B, and a standby can stand OPEN for slot A. -/
theorem test_wit_unberth_chutes :
    (∀ c g, (hall.chute c).group = some g → g.slot ≠ .b) ∧
    (let x := (withChute 3 (fun x => { x with state := .isOpen, group := some groupA }) hall).chute 3
     x.cfg.role = .standby ∧ x.state ≠ .swapping ∧ x.state ≠ .standbyIdle ∧ x.fill = 0) := by
  have h : ∀ c, (hall.chute c).group = none ∨ (hall.chute c).group = some groupA := by decide +kernel
  refine ⟨fun c g hg => ?_, by decide⟩
  rcases h c with e | e <;> rw [e] at hg
  · cases hg
  · obtain rfl := Option.some.inj hg; decide

theorem test_wit_configureChuteClampsAndStores :
    let p := chutePayload 2 0 42
    passes .configureChute .shore p hall ∧ u8 p 0 = (2 : ChuteId).val ∧ roleOf (u8 p 1) = some .sort ∧
    sideOf (u8 p 4) = some .left ∧ u16 p 2 < hall.T ∧ hall.coverOf 2 .sort p = some [] ∧
    (hall.chute 2).filling = false ∧ hall.placeTaken 2 42 .left = false ∧ (hall.chute 2).state ≠ .swapping ∧
    passes .configureChute .shore (chutePayload 0 0 0) hall ∧ (hall.chute 0).filling = true ∧
    passes .configureChute .shore (chutePayload 47 1 63) hall ∧ roleOf (u8 (chutePayload 47 1 63) 1) = some .standby ∧
    hall.placeTaken 47 63 .left = false ∧ roleOf 2 = some .stray ∧
    ((withChute 0 (fun x => { x with state := .swapping, fill := 40 }) hall).chute 0).fill ≤
      max 1 (u8 (chutePayload 0 0 42) 15) := by decide +kernel

theorem test_wit_assignAndReleaseChutes :
    let p : Payload := [2, 0, 20, 6]
    passes .assignChute .shore p hall ∧ u8 p 0 = (2 : ChuteId).val ∧ slotOf (u8 p 1) = some .a ∧
    u8 p 2 = 20 ∧ u8 p 3 = 6 ∧ (hall.chute 2).cfg.role = .sort ∧ (hall.chute 2).state = .unassigned ∧
    (hall.slot .a).state = .loading ∧ (hall.chute 1).cfg.role ≠ .sort ∧
    passes .releaseChute .shore [0] hall ∧ (hall.chute 0).group.isSome = true ∧
    (hall.chute 0).released = false ∧ (hall.chute 0).state = .isOpen ∧ (hall.chute 0).fill = 0 ∧
    (hall.chute 0).committed = 0 ∧ 0 < (hallArmed.chute 0).committed ∧ (hall.chute 2).group = none ∧
    ((withChute 3 (fun x => { x with state := .isOpen, group := some groupA, tookOver := some 0 }) hall).chute 3).cfg.role =
      .standby := by decide

theorem test_wit_swapsEmptyTheChute :
    passes .swapBegin .shore [0] hallArmed ∧ u8 [0] 0 = (0 : ChuteId).val ∧ (hallArmed.chute 0).filling = true ∧
    0 < hallArmed.T ∧ hallArmed.loop.pos < hallArmed.T ∧ (hallArmed.tray 40).boundFor 0 = true ∧
    (hallArmed.tray 40).bag = some bag1 ∧ (hall.chute 2).filling = false ∧
    passes .swapEnd .shore [0] hall ∧ (hall.chute 0).state ≠ .swapping ∧
    ((withChute 0 (fun x => { x with state := .swapping }) hall).chute 0).state = .swapping ∧
    (hall.chute 0).cfg.offset ≠ 0 ∧ (hall.chute 4).cfg.offset = 0 ∧ (hall.chute 0).cfg.role = .sort ∧
    (hall.chute 1).cfg.role = .stray ∧ (hall.chute 3).cfg.role = .standby := by decide

theorem test_wit_swapBegin_committed : hallArmed.committedLaw := by
  unfold State.committedLaw; decide +kernel

theorem test_wit_setBlockedIntervalRestartsTheCounts :
    passes .setBlockedInterval .shore [16] hall ∧ u8 [16] 0 = 16 ∧ passes .setBlockedInterval .shore [2] hall := by
  decide

theorem test_wit_resolveStrayLinksTheEntry :
    let s := withStray .inChute hall
    let p : Payload := [0, 7, 0, 150]
    passes .resolveStray .shore p s ∧ u16 p 2 ≠ 0 ∧
    s.strayOfId (BitVec.ofNat 16 (u16 p 0)) = some (strayIn .inChute) ∧ (strayIn .inChute).tag = some tag2 ∧
    (strayIn .inChute).state ≠ .reinducted ∧ s.decodeSlot tag2 = some .a ∧ (s.slot .a).state = .loading ∧
    s.entry tag2 = none ∧ s.entryCount .a < (s.slot .a).quota ∧
    (withSlot .a (fun r => { r with quota := 1 }) s).entryCount .a = 1 ∧
    (({ s with pool := [⟨tag2, .a, 150, .onLoop false, none, false⟩] } : State).entry tag2).map
      (·.status.isOnLoop) = some true ∧
    (({ s with pool := [⟨tag2, .a, 150, .expected, none, false⟩] } : State).entry tag2).map
      (·.status.isOnLoop) = some false := by decide +kernel

theorem test_wit_discardStrayRemovesTheEntry :
    passes .discardStray .shore [0, 7] hall ∧ (7 : BitVec 16) = BitVec.ofNat 16 (u16 [0, 7] 0) ∧
    (∀ e ∈ hall.strays, e.id ≠ 7) ∧ (withStray .inChute hall).strayOfId 7 = some (strayIn .inChute) ∧
    (strayIn .inChute).state ≠ .reinducted ∧ (strayIn .reinducted).untracked = false := by decide

theorem test_wit_fetchNoticeTakesTheLowest :
    let r := (raise .stall .hall hall).notices.get .shore
    passes .fetchNotice .shore [] hall ∧ (hall.notices.get .shore).latches.loop ≠ .set ∧
    r.latches.get .loop = .set ∧ (r.calling .loop).getLsbD 2 = true ∧ (r.calling .loop).getLsbD 1 = false ∧
    NoticeGroup.loop.code = 0 := by decide

/-- No latch of `hall` is set, and no group comes before group 0. -/
theorem test_wit_fetchNotice_order :
    (∀ g, (hall.notices.get .shore).latches.get g ≠ .set) ∧
    ∀ h : NoticeGroup, h.code < NoticeGroup.loop.code →
      ((raise .stall .hall hall).notices.get .shore).latches.get h ≠ .set := by
  refine ⟨fun g => ?_, fun h => ?_⟩
  · cases g <;> decide
  · cases h <;> decide

theorem test_wit_noticeRequestsActOnTheOwnRecord :
    passes .ackGroup .vesselA [3] hall ∧ u8 [3] 0 = NoticeGroup.ships.code ∧ passes .ackGroup .shore [4] hall ∧
    3 < u8 [4] 0 ∧ passes .clearNotice .shore [3, 7] hall ∧ u8 [3, 7] 1 = 7 ∧
    passes .clearNotice .shore [0, 0] hall ∧ passes .clearNotice .shore [0, 8] hall ∧ 7 < u8 [0, 8] 1 ∧
    passes .clearNotice .shore [4, 0] hall ∧ passes .setNoticeEnables .vesselB [1, 2, 3, 4] hall ∧
    passes .setClearMode .shore [0] hall ∧ passes .setClearMode .shore [1] hall ∧
    passes .setClearMode .shore [2] hall ∧ passes .clearResetCause .shore [] hall := by decide

end Sys2Proof.Tests
end

/-! ## Proofs: the loop and its trays (chapter 1) -/

section
/-! SUPPORT. What an admitted request leaves, by the answer of its owning block. -/

namespace Sys2Proof.Machine

/-- An admitted request that its block answers with a record changes its port alone (R189). -/
theorem exec_answeredWith {s : State} {k : Command} {l : LinkId} {p : Payload} {data : List Byte}
    (h : s.admits k l p = true) (ho : Command.own k l p s = .ok (s, .data data)) :
    exec (Instr.ofRequest l k p) s = .next (answeredWith k l p data s) := by
  rw [exec_ofRequest, takeRequest_accepted h ho]; rfl

/-- An admitted request that its block accepts with nothing to return (R189). -/
theorem exec_answeredOk {s t : State} {k : Command} {l : LinkId} {p : Payload}
    (h : s.admits k l p = true) (ho : Command.own k l p s = .ok (t, .ok)) :
    exec (Instr.ofRequest l k p) s = .next (answeredOk k l p t) := by
  rw [exec_ofRequest, takeRequest_accepted h ho]; rfl

/-- An admitted request that its block refuses changes its port alone (R188). -/
theorem exec_refusedWith {s : State} {k : Command} {l : LinkId} {p : Payload} {r : Reason}
    (h : s.admits k l p = true) (ho : Command.own k l p s = .error r) :
    exec (Instr.ofRequest l k p) s = .next (refusedWith k l p r s) := by
  rw [exec_ofRequest, takeRequest_refused h ho]; rfl

/-! ### Numbers that name nothing (Table 11-1) -/

theorem indOf_eq_none {n : Nat} (h : 3 < n) : indOf n = none := by
  unfold indOf; split <;> first | omega | rfl

theorem slotOf_eq_none {n : Nat} (h : 1 < n) : slotOf n = none := by
  unfold slotOf; split <;> first | omega | rfl

theorem windowOf_of_lt {n : Nat} (h : n < 8) : windowOf n = some ⟨n, h⟩ := dif_pos h
theorem windowOf_eq_none {n : Nat} (h : 7 < n) : windowOf n = none := dif_neg (by omega)
theorem rangeOf_of_lt {n : Nat} (h : n < 96) : rangeOf n = some ⟨n, h⟩ := dif_pos h
theorem rangeOf_eq_none {n : Nat} (h : 95 < n) : rangeOf n = none := dif_neg (by omega)
theorem chuteOf_of_lt {n : Nat} (h : n < 48) : chuteOf n = some ⟨n, h⟩ := dif_pos h
theorem chuteOf_eq_none {n : Nat} (h : 47 < n) : chuteOf n = none := dif_neg (by omega)

theorem linkSlot_eq_none {l : LinkId} : linkSlot l = none ↔ l = .shore := by
  cases l <;> simp [linkSlot]

theorem linkSlot_of_ne_shore {l : LinkId} (h : l ≠ .shore) : ∃ sl, linkSlot l = some sl :=
  Option.ne_none_iff_exists'.mp (mt linkSlot_eq_none.mp h)

end Sys2Proof.Machine
end

section
/-! O39. Each read, by its owning block's rule. -/

namespace Sys2Proof.Machine

variable {l : LinkId} {p : Payload} {s : State}

/-- R24. -/
theorem exec_readTray (h : s.admits .readTray l p = true) :
    (u16 p 0 < s.T → exec (.readTray l p) s = .next (answeredWith .readTray l p
      (loopHeader s ++ trayBytes (u16 p 0) (s.tray (u16 p 0))) s)) ∧
    (s.T ≤ u16 p 0 → exec (.readTray l p) s = .next (refusedWith .readTray l p .badValue s)) :=
  ⟨fun hn => exec_answeredWith h (if_neg (by omega)), fun hn => exec_refusedWith h (if_pos hn)⟩

/-- R49. -/
theorem exec_readInduction (h : s.admits .readInduction l p = true) :
    (∀ i, indOf (u8 p 0) = some i → exec (.readInduction l p) s =
      .next (answeredWith .readInduction l p (inductionBytes s i) s)) ∧
    (3 < u8 p 0 → exec (.readInduction l p) s =
      .next (refusedWith .readInduction l p .badValue s)) := by
  refine ⟨fun i hi => exec_answeredWith h ?_, fun hn => exec_refusedWith h ?_⟩
  · simp [Command.own, readInduction, hi]
  · simp [Command.own, readInduction, indOf_eq_none hn]

/-- R55. -/
theorem exec_readWindow (h : s.admits .readWindow l p = true) :
    (∀ hn : u8 p 0 < 8, exec (.readWindow l p) s =
      .next (answeredWith .readWindow l p (windowBytes s (s.tagWindows.get ⟨u8 p 0, hn⟩)) s)) ∧
    (7 < u8 p 0 → exec (.readWindow l p) s = .next (refusedWith .readWindow l p .badValue s)) := by
  refine ⟨fun hn => exec_answeredWith h ?_, fun hn => exec_refusedWith h ?_⟩
  · simp [Command.own, readWindow, windowOf_of_lt hn]
  · simp [Command.own, readWindow, windowOf_eq_none hn]

/-- The entry that READ BAG sees on the shore link and on the link of the entry's own slot (R68). -/
theorem entryFor_own {tag : Tag} {e : BagEntry} (he : s.entry tag = some e)
    (hl : l = .shore ∨ l = slotLink e.slot) : s.entryFor l tag = some e := by
  rcases hl with rfl | rfl
  · exact he
  · simp [State.entryFor, linkSlot_slotLink, State.entryIn, he]

/-- The other slot's link sees no such entry (R68). -/
theorem entryFor_other {tag : Tag} {e : BagEntry} (he : s.entry tag = some e)
    (hl : l = slotLink e.slot.other) : s.entryFor l tag = none := by
  have hne : e.slot ≠ e.slot.other := by cases e.slot <;> decide
  simp [State.entryFor, hl, linkSlot_slotLink, State.entryIn, he, hne]

theorem entryFor_none {tag : Tag} (he : s.entry tag = none) : s.entryFor l tag = none := by
  unfold State.entryFor State.entryIn
  split <;> simp [he]

/-- R68. -/
theorem exec_readBag (h : s.admits .readBag l p = true) :
    (∀ tag e, tagAt p 0 = some tag → s.entry tag = some e →
      (l = .shore ∨ l = slotLink e.slot → exec (.readBag l p) s =
        .next (answeredWith .readBag l p (entryBytes e) s)) ∧
      (l = slotLink e.slot.other →
        exec (.readBag l p) s = .next (refusedWith .readBag l p .notFound s))) ∧
    (∀ tag, tagAt p 0 = some tag → s.entry tag = none →
      exec (.readBag l p) s = .next (refusedWith .readBag l p .notFound s)) ∧
    (tagAt p 0 = none → exec (.readBag l p) s = .next (refusedWith .readBag l p .badValue s)) := by
  refine ⟨fun tag e ht he => ⟨fun hl => exec_answeredWith h ?_, fun hl => exec_refusedWith h ?_⟩,
    fun tag ht he => exec_refusedWith h ?_, fun ht => exec_refusedWith h ?_⟩
  · simp [Command.own, readBag, ht, entryFor_own he hl]
  · simp [Command.own, readBag, ht, entryFor_other he hl]
  · simp [Command.own, readBag, ht, entryFor_none he]
  · simp [Command.own, readBag, ht]

/-- R73: the vessel form names an index, the shore form a slot and an index. -/
theorem exec_readCabinRange (h : s.admits .readCabinRange l p = true) :
    (∀ sl, ∀ hn : u8 p 0 < 96, l = slotLink sl → exec (.readCabinRange l p) s =
      .next (answeredWith .readCabinRange l p (rangeBytes ((s.maps.get sl).get ⟨u8 p 0, hn⟩)) s)) ∧
    (∀ sl, ∀ hn : u8 p 1 < 96, l = .shore → slotOf (u8 p 0) = some sl →
      exec (.readCabinRange l p) s = .next (answeredWith .readCabinRange l p
        (rangeBytes ((s.maps.get sl).get ⟨u8 p 1, hn⟩)) s)) ∧
    ((l ≠ .shore ∧ 95 < u8 p 0) ∨ (l = .shore ∧ (1 < u8 p 0 ∨ 95 < u8 p 1)) →
      exec (.readCabinRange l p) s = .next (refusedWith .readCabinRange l p .badValue s)) := by
  refine ⟨fun sl hn hl => exec_answeredWith h ?_, fun sl hn hl hs => exec_answeredWith h ?_,
    fun hbad => exec_refusedWith h ?_⟩
  · simp [Command.own, readCabinRange, hl, linkSlot_slotLink, rangeOf_of_lt hn]
  · simp [Command.own, readCabinRange, linkSlot_eq_none.mpr hl, hs, rangeOf_of_lt hn]
  · rcases hbad with ⟨hl, hn⟩ | ⟨hl, hn⟩
    · obtain ⟨sl, hsl⟩ := linkSlot_of_ne_shore hl
      simp [Command.own, readCabinRange, hsl, rangeOf_eq_none hn]
    · rcases hn with hn | hn
      · simp [Command.own, readCabinRange, linkSlot_eq_none.mpr hl, slotOf_eq_none hn]
      · simp [Command.own, readCabinRange, linkSlot_eq_none.mpr hl, rangeOf_eq_none hn]

/-- R91. -/
theorem exec_shipStatus (h : s.admits .shipStatus l p = true) :
    (∀ sl, l = slotLink sl ∨ (l = .shore ∧ slotOf (u8 p 0) = some sl) →
      exec (.shipStatus l p) s = .next (answeredWith .shipStatus l p (statusBytes s sl) s)) ∧
    (l = .shore → 1 < u8 p 0 →
      exec (.shipStatus l p) s = .next (refusedWith .shipStatus l p .badValue s)) := by
  refine ⟨fun sl hl => exec_answeredWith h ?_, fun hl hn => exec_refusedWith h ?_⟩
  · have hfor : slotFor l p = some sl := by
      rcases hl with rfl | ⟨hl, hs⟩
      · simp [slotFor, linkSlot_slotLink]
      · simp [slotFor, linkSlot_eq_none.mpr hl, hs]
    simp [Command.own, shipStatus, hfor]
  · simp [Command.own, shipStatus, slotFor, linkSlot_eq_none.mpr hl, slotOf_eq_none hn]

/-- R134. -/
theorem exec_readChute (h : s.admits .readChute l p = true) :
    (∀ hn : u8 p 0 < 48, exec (.readChute l p) s =
      .next (answeredWith .readChute l p (chuteBytes s ⟨u8 p 0, hn⟩) s)) ∧
    (47 < u8 p 0 → exec (.readChute l p) s = .next (refusedWith .readChute l p .badValue s)) := by
  refine ⟨fun hn => exec_answeredWith h ?_, fun hn => exec_refusedWith h ?_⟩
  · simp [Command.own, readChute, chuteOf_of_lt hn]
  · simp [Command.own, readChute, chuteOf_eq_none hn]

/-- R168. -/
theorem exec_readStrayList (h : s.admits .readStrayList l p = true) :
    (u8 p 0 ≤ 127 → exec (.readStrayList l p) s =
      .next (answeredWith .readStrayList l p (strayListBytes s (s.view l) (u8 p 0)) s)) ∧
    (127 < u8 p 0 → exec (.readStrayList l p) s =
      .next (refusedWith .readStrayList l p .badValue s)) :=
  ⟨fun hn => exec_answeredWith h (if_neg (by omega)), fun hn => exec_refusedWith h (if_pos hn)⟩

/-- R169: the first entry of the link's view that holds the id, with its position in the view. -/
theorem exec_readStray (h : s.admits .readStray l p = true) :
    (∀ pre e post, s.view l = pre ++ e :: post → e.id = BitVec.ofNat 16 (u16 p 0) →
      (∀ x ∈ pre, x.id ≠ e.id) → exec (.readStray l p) s =
        .next (answeredWith .readStray l p (strayBytes e ++ b1 pre.length) s)) ∧
    ((∀ e ∈ s.view l, e.id ≠ BitVec.ofNat 16 (u16 p 0)) → exec (.readStray l p) s =
      .next (refusedWith .readStray l p .notFound s)) := by
  refine ⟨fun pre e post hv he hpre => exec_answeredWith h ?_, fun hv => exec_refusedWith h ?_⟩
  · have hfind : (s.view l).find? (fun x => x.id = e.id) = some e := by
      rw [hv, List.find?_append, List.find?_eq_none.mpr (by simpa using hpre)]; simp
    have hidx : (s.view l).findIdx (fun x => x.id = e.id) = pre.length := by
      rw [hv, List.findIdx_append, List.findIdx_eq_length.mpr (by simpa using hpre)]
      simp [List.findIdx_cons]
    simp [Command.own, readStray, ← he, hfind, hidx]
  · have hfind : (s.view l).find? (fun x => x.id = BitVec.ofNat 16 (u16 p 0)) = none :=
      List.find?_eq_none.mpr (by simpa using hv)
    simp [Command.own, readStray, hfind]

/-- R192. -/
theorem exec_readResetCause (h : s.admits .readResetCause l p = true) :
    exec (.readResetCause l p) s = .next (answeredWith .readResetCause l p (causeBytes s) s) :=
  exec_answeredWith h rfl

/-- Settles O39: each read answers with its record over the state as it was. -/
theorem readsReturnTheirRecords : Obligations.readsReturnTheirRecords := fun _ _ _ =>
  ⟨exec_readTray, exec_readInduction, exec_readWindow, exec_readBag, exec_readCabinRange,
    exec_shipStatus, exec_readChute, exec_readStrayList, exec_readStray, exec_readResetCause⟩

end Sys2Proof.Machine
end

section
/-! O6. The power-on values, block by block, of the state that both resets leave. -/

namespace Sys2Proof.Machine

variable (cause : ResetCause) (low : Bool) (s : State)

theorem resetBlocks_loop : (resetBlocks cause low s).loop = .reset := rfl

theorem resetBlocks_ind (i : IndId) : (resetBlocks cause low s).ind i = .reset := by cases i <;> rfl

theorem resetBlocks_slot (sl : Slot) : (resetBlocks cause low s).slot sl = .reset := by cases sl <;> rfl

theorem resetBlocks_window (n : Fin 8) : (resetBlocks cause low s).tagWindows.get n = .reset :=
  Vector.get_replicate 8 TagWindow.reset n

theorem resetBlocks_map (sl : Slot) :
    (resetBlocks cause low s).maps.get sl = Vector.replicate 96 .reset := by cases sl <;> rfl

theorem resetBlocks_chute (c : ChuteId) : (resetBlocks cause low s).chute c = (s.chute c).cleared :=
  Vector.get_map s.chutes _ c

/-- A loop of EMPTY trays carries no bag (R26). -/
theorem counts_of_trays_empty {s : State} {n : Nat} (h : s.loop.trays = List.replicate n .empty) :
    s.occupancy = 0 ∧ ∀ sl, s.onLoop sl = 0 ∧ s.waiting sl = 0 := by
  simp [State.occupancy, State.onLoop, State.waiting, h, List.countP_replicate, Tray.occupied, Tray.slot,
    Tray.bag]

/-- With every tag window invalid no tag decodes (R52, R75). -/
theorem decode_of_windows_invalid {s : State} (h : s.tagWindows = Vector.replicate 8 .reset) (tag : Tag) :
    s.decode tag = none := by
  simp [State.decode, h, List.replicate, longerMatch, TagWindow.isMatch, TagWindow.reset]

/-- With every range invalid every cabin is UNMAPPED (R69, R75). -/
theorem lookup_of_ranges_invalid {s : State} {sl : Slot}
    (h : s.maps.get sl = Vector.replicate 96 .reset) (cabin : Nat) : s.lookup sl cabin = none := by
  simp [State.lookup, rangeWith, h, CabinRange.reset]

/-- A window without digits serves no slot and is not in use (R53). -/
theorem window_invalid_unused {s : State} {w : TagWindow} (h : w.digits = []) :
    s.windowServes w = false ∧ s.windowInUse w = false := by
  simp [State.windowServes, State.windowInUse, h]

/-- R26. -/
theorem resetBlocks_loopValues {v : State} (hv : v = resetBlocks cause low s) :
    v.loop.state = .stopped ∧ v.loop.pos = 0 ∧ v.loop.trays = List.replicate 256 .empty ∧
      v.loop.cfg = ⟨3750, 20000, 224, 192, 3, 2, 0, 200, 400, 600⟩ ∧
      v.period = 3750 ∧ v.periodMark = 0 ∧ v.loop.measured = 0 ∧ v.loop.homeMiss = 0 ∧ v.occupancy = 0 ∧
      (∀ sl, v.onLoop sl = 0 ∧ v.waiting sl = 0) ∧ v.loop.hold = false ∧ v.loop.stallFrom = none := by
  subst hv
  obtain ⟨hocc, hslots⟩ := counts_of_trays_empty (s := resetBlocks cause low s) (n := 256) rfl
  exact ⟨rfl, rfl, rfl, rfl, rfl, rfl, rfl, rfl, hocc, hslots, rfl, rfl⟩

/-- R51: an induction after a reset, held by the loop at rest and as disabled. -/
theorem resetBlocks_indValues {v : State} (hv : v = resetBlocks cause low s) (i : IndId) :
    (v.ind i).offset = 0 ∧ (v.ind i).n = 4 ∧ (v.ind i).w = 16 ∧ (v.ind i).enabled = false ∧
      (v.ind i).queue = [] ∧ (v.ind i).queueHold = false ∧ (v.ind i).resync = false ∧
      (v.ind i).reservation = .none ∧ (v.ind i).waitCount = 0 ∧ (v.ind i).resendCount = 0 ∧
      (v.ind i).windows = [] ∧ (v.ind i).receiver = .idle ∧ (v.ind i).sending = none ∧
      (v.ind i).waiting = [] ∧ v.heldCauses i = [false, false, false, true, true] ∧ v.barred i = true := by
  subst hv
  have hrest : (resetBlocks cause low s).atRest = true := rfl
  have hhold : (resetBlocks cause low s).loop.hold = false := rfl
  simp [State.heldCauses, State.barred, State.barredWith, heldByLoop, resetBlocks_ind, hrest, hhold,
    Induction.reset]

/-- R75. -/
theorem resetBlocks_manifestValues {v : State} (hv : v = resetBlocks cause low s) :
    (∀ tag, v.decode tag = none) ∧
      (∀ n, v.tagWindows.get n = { digits := [], target := .slotA } ∧
        v.windowServes (v.tagWindows.get n) = false ∧
        v.windowInUse (v.tagWindows.get n) = false) ∧
      v.pool = [] ∧ (∀ sl, v.entryCount sl = 0 ∧ (v.slot sl).quota = 0 ∧ (v.slot sl).state = .vacant) ∧
      v.freeEntries = 8192 ∧
      (∀ sl n, (v.maps.get sl).get n = { valid := false, first := 0, last := 0, deck := 0, zone := 0 }) ∧
      ∀ sl cabin, v.lookup sl cabin = none := by
  subst hv
  refine ⟨decode_of_windows_invalid rfl, fun n => ?_, rfl, fun sl => ?_, rfl, fun sl n => ?_,
    fun sl => lookup_of_ranges_invalid (resetBlocks_map cause low s sl)⟩
  · rw [resetBlocks_window]
    exact ⟨rfl, window_invalid_unused rfl⟩
  · rw [resetBlocks_slot]
    exact ⟨rfl, rfl, rfl⟩
  · rw [resetBlocks_map]
    exact Vector.get_replicate 96 CabinRange.reset n

/-- R136. -/
theorem resetBlocks_chuteValues {v : State} (hv : v = resetBlocks cause low s) :
    (∀ c, (v.chute c).state = .disabled ∧
      (v.chute c).cfg = ⟨.sort, 0, .left, 1000, 300, 3000, 30000, 40, 32, []⟩ ∧
      (v.chute c).group = none ∧ (v.chute c).released = false ∧ (v.chute c).tookOver = none ∧
      (v.chute c).fill = 0 ∧ (v.chute c).committed = 0 ∧ (v.chute c).jam = false ∧
      (v.chute c).fault = false ∧ (v.chute c).failures = 0 ∧ (v.chute c).gen = 0 ∧
      (v.chute c).windows = [] ∧ (v.chute c).occludedFrom = none) ∧
      v.blocked = [] ∧ v.blockedN = 4 ∧ v.strayArmed = true := by
  subst hv
  refine ⟨fun c => ?_, rfl, rfl, rfl⟩
  rw [resetBlocks_chute]
  exact ⟨rfl, rfl, rfl, rfl, rfl, rfl, rfl, rfl, rfl, rfl, rfl, rfl, rfl⟩

/-- Settles O6: both resets leave `resetBlocks`, whose blocks hold their power-on values. -/
theorem resetsLeavePowerOnValues : Obligations.resetsLeavePowerOnValues := by
  refine fun s => ⟨_, _, rfl, rfl, rfl, rfl, rfl, fun v hv => ?_⟩
  obtain ⟨cause, low, hv⟩ : ∃ cause low, v = resetBlocks cause low s :=
    hv.elim (fun e => ⟨_, _, e⟩) (fun e => ⟨_, _, e⟩)
  exact ⟨resetBlocks_loopValues cause low s hv, resetBlocks_indValues cause low s hv,
    resetBlocks_manifestValues cause low s hv, resetBlocks_chuteValues cause low s hv⟩

end Sys2Proof.Machine
end

section
/-! SUPPORT. Notice flags: a raise sets its flag on the links of its scope and clears none (R173, R174). -/

namespace Sys2Proof.Machine

@[simp] theorem NoticeRecord.judge_flags (r : NoticeRecord) (g : NoticeGroup) :
    (r.judge g).flags = r.flags := by
  unfold NoticeRecord.judge; split <;> rfl

theorem raise_notices_get (n : Notice) (sc : Scope) (s : State) (l : LinkId) :
    (raise n sc s).notices.get l = raiseIn n sc l (s.notices.get l) := by
  cases l <;> rfl

theorem Notice.sourceBit_self (n : Notice) : (sourceBit n.number).getLsbD n.number = true := by
  cases n <;> decide

/-- A raise sets its flag on every link that its scope names. -/
theorem flagged_raise (n : Notice) {sc : Scope} {l : LinkId} (h : sc.names l = true) (s : State) :
    (raise n sc s).flagged l n = true := by
  simp [State.flagged, raise_notices_get, raiseIn, h, NoticeRecord.raise, n.sourceBit_self]

/-- A raise clears no flag. -/
theorem flagged_raise_of_flagged {l : LinkId} {m : Notice} {s : State} (h : s.flagged l m = true)
    (n : Notice) (sc : Scope) : (raise n sc s).flagged l m = true := by
  unfold State.flagged at *
  rw [raise_notices_get]
  unfold raiseIn
  split
  · by_cases hg : m.group = n.group
    · simp_all [NoticeRecord.raise]
    · simpa [NoticeRecord.raise, hg] using h
  · exact h

/-- Every scope names the shore link (R173). -/
@[simp] theorem Scope.names_shore (sc : Scope) : sc.names .shore = true := by cases sc <;> rfl

/-- The scope of a slot names its vessel link (R173). -/
@[simp] theorem Scope.names_slotLink (sl : Slot) : (Scope.slot sl).names (slotLink sl) = true := by
  cases sl <;> decide

end Sys2Proof.Machine
end

section
/-! SUPPORT. HOLD and RESUME (R37): what settling the holds leaves at each induction. -/

namespace Sys2Proof.Machine

section Send
variable (f : TxFrame) (r : Induction)

/-- A frame joining the transmit list leaves every other field. -/
theorem Induction.send_eq : r.send f = { r with sending := (r.send f).sending, waiting := (r.send f).waiting } := by
  unfold Induction.send
  split
  · rfl
  · split <;> rfl

@[simp] theorem Induction.send_offset : (r.send f).offset = r.offset := by rw [send_eq]
@[simp] theorem Induction.send_enabled : (r.send f).enabled = r.enabled := by rw [send_eq]
@[simp] theorem Induction.send_receiver : (r.send f).receiver = r.receiver := by rw [send_eq]
@[simp] theorem Induction.send_queue : (r.send f).queue = r.queue := by rw [send_eq]
@[simp] theorem Induction.send_queueHold : (r.send f).queueHold = r.queueHold := by rw [send_eq]
@[simp] theorem Induction.send_resync : (r.send f).resync = r.resync := by rw [send_eq]
@[simp] theorem Induction.send_windows : (r.send f).windows = r.windows := by rw [send_eq]

end Send

/-- R37 for the record of one induction, held or not before and after. -/
def Induction.settled (was now : Bool) (r : Induction) : Induction :=
  if was = now then r
  else if now = true then { r.send .hold with resendCount := 0 }
  else r.send .resume

section Settled
variable (was now : Bool) (r : Induction)

theorem Induction.settled_same : r.settled was was = r := if_pos rfl

/-- A settled induction keeps every field but its transmit list and re-send count. -/
theorem Induction.settled_eq : r.settled was now =
    { r with
      sending := (r.settled was now).sending, waiting := (r.settled was now).waiting
      resendCount := (r.settled was now).resendCount } := by
  unfold Induction.settled
  split
  · rfl
  · split <;> rw [Induction.send_eq]

@[simp] theorem Induction.settled_offset : (r.settled was now).offset = r.offset := by rw [settled_eq]
@[simp] theorem Induction.settled_enabled : (r.settled was now).enabled = r.enabled := by rw [settled_eq]
@[simp] theorem Induction.settled_receiver : (r.settled was now).receiver = r.receiver := by rw [settled_eq]
@[simp] theorem Induction.settled_queue : (r.settled was now).queue = r.queue := by rw [settled_eq]
@[simp] theorem Induction.settled_queueHold : (r.settled was now).queueHold = r.queueHold := by
  rw [settled_eq]
@[simp] theorem Induction.settled_resync : (r.settled was now).resync = r.resync := by rw [settled_eq]
@[simp] theorem Induction.settled_windows : (r.settled was now).windows = r.windows := by rw [settled_eq]

end Settled

theorem modInd_ind_eq (i k : IndId) (f : Induction → Induction) (s : State) :
    (modInd i f s).ind k = if k = i then f (s.ind k) else s.ind k := by
  split
  · next h => subst h; exact modInd_ind k f s
  · next h => exact modInd_ind_ne i k f s h

theorem modInd_self {i : IndId} {f : Induction → Induction} {s : State} (h : f (s.ind i) = s.ind i) :
    modInd i f s = s := by
  have : s.inds.set i (f (s.inds.get i)) = s.inds := by
    rw [show f (s.inds.get i) = s.inds.get i from h]; cases i <;> rfl
  unfold modInd; rw [this]

theorem settleHold_eq (v u : State) (i : IndId) :
    settleHold v u i = modInd i (Induction.settled (v.held i) (u.held i)) u := by
  unfold settleHold Induction.settled
  split <;> next hv hu => simp [hv, hu, modInd_self]

theorem modInd_held {i : IndId} {f : Induction → Induction} {s : State}
    (hq : (f (s.ind i)).queueHold = (s.ind i).queueHold) (hr : (f (s.ind i)).resync = (s.ind i).resync)
    (he : (f (s.ind i)).enabled = (s.ind i).enabled) (k : IndId) : (modInd i f s).held k = s.held k := by
  have hrest : (modInd i f s).atRest = s.atRest := rfl
  rw [State.held, State.barred, State.barredWith, hrest, modInd_loop, modInd_ind_eq]
  split
  · next h => subst h; rw [hq, hr, he]; rfl
  · rfl

theorem settleHold_held (v u : State) (i k : IndId) : (settleHold v u i).held k = u.held k := by
  rw [settleHold_eq]
  exact modInd_held (Induction.settled_queueHold ..) (Induction.settled_resync ..)
    (Induction.settled_enabled ..) k

theorem foldl_settleHold_ind (v : State) {is : List IndId} (h : is.Nodup) (u : State) (i : IndId) :
    (is.foldl (settleHold v) u).ind i =
      if i ∈ is then (u.ind i).settled (v.held i) (u.held i) else u.ind i := by
  induction is generalizing u with
  | nil => simp
  | cons k r ih =>
    obtain ⟨hk, hr⟩ := List.nodup_cons.mp h
    rw [List.foldl_cons, ih hr, settleHold_held, settleHold_eq, modInd_ind_eq]
    by_cases hik : i = k
    · subst hik; simp [hk]
    · simp [hik]

/-- R37: the induction records that settling the holds leaves. -/
theorem settleHolds_ind (v u : State) (i : IndId) :
    (settleHolds v u).ind i = (u.ind i).settled (v.held i) (u.held i) := by
  rw [settleHolds, foldl_settleHold_ind v (by decide), if_pos (by cases i <;> decide)]

theorem settleHolds_held (v u : State) (k : IndId) : (settleHolds v u).held k = u.held k :=
  foldl_keeps (fun s => s.held k) _ (fun s i => settleHold_held v s i k) _ u

/-- Where no held state has changed nothing is sent. -/
theorem settleHolds_of_held {v u : State} (h : ∀ i, v.held i = u.held i) : settleHolds v u = u := by
  have hinds : (settleHolds v u).inds = u.inds := PerInd.ext_get fun i => by
    have := settleHolds_ind v u i
    rw [h i, Induction.settled_same] at this
    exact this
  have hframe := settleHolds_frame v u
  cases hs : settleHolds v u; cases u
  simp_all [State.sansInds]

end Sys2Proof.Machine
end

section
/-! SUPPORT. What the bags on the loop can bring about, said once for every operation that moves them: the
frame `sansTraffic`, the number of trays, the fields of slots, inductions and chutes that only requests set,
the bounds of the queues, and no notice flag cleared. -/

namespace Sys2Proof.Machine

/-- R34, R35: a read queue within its bound, and empty in RESYNC. -/
def Induction.QueueOk (r : Induction) : Prop := r.queue.length ≤ 4 ∧ (r.resync = true → r.queue = [])

/-- What traffic can do to an induction: its settings and receiver stand, its queue stays bounded. -/
structure Induction.Moves (r r' : Induction) : Prop where
  offset : r'.offset = r.offset
  enabled : r'.enabled = r.enabled
  receiver : r'.receiver = r.receiver
  queue : r.QueueOk → r'.QueueOk

/-- What traffic can do to a chute: its configuration and eye stand, its confirm list stays bounded. -/
structure Chute.Moves (x x' : Chute) : Prop where
  cfg : x'.cfg = x.cfg
  eye : x'.eye = x.eye
  windows : x.windows.length ≤ 4 → x'.windows.length ≤ 4

/-- What traffic can do to the state. -/
structure State.Moves (s t : State) : Prop where
  frame : t.sansTraffic = s.sansTraffic
  trays : t.T = s.T
  slots : ∀ sl, (t.slot sl).quota = (s.slot sl).quota ∧ (t.slot sl).call = (s.slot sl).call
  inds : ∀ i, (s.ind i).Moves (t.ind i)
  chutes : ∀ c, (s.chute c).Moves (t.chute c)
  fires : s.fireQueue.length ≤ 32 → t.fireQueue.length ≤ 32
  blocked : s.blocked.length ≤ 16 → t.blocked.length ≤ 16
  flags : ∀ l n, s.flagged l n = true → t.flagged l n = true

theorem Induction.Moves.refl (r : Induction) : r.Moves r := ⟨rfl, rfl, rfl, id⟩

theorem Induction.Moves.trans {a b c : Induction} (h : a.Moves b) (k : b.Moves c) : a.Moves c :=
  ⟨k.offset.trans h.offset, k.enabled.trans h.enabled, k.receiver.trans h.receiver, k.queue ∘ h.queue⟩

theorem Chute.Moves.refl (x : Chute) : x.Moves x := ⟨rfl, rfl, id⟩

theorem Chute.Moves.trans {a b c : Chute} (h : a.Moves b) (k : b.Moves c) : a.Moves c :=
  ⟨k.cfg.trans h.cfg, k.eye.trans h.eye, k.windows ∘ h.windows⟩

theorem State.Moves.trans {a b c : State} (h : a.Moves b) (k : b.Moves c) : a.Moves c where
  frame := k.frame.trans h.frame
  trays := k.trays.trans h.trays
  slots sl := ⟨(k.slots sl).1.trans (h.slots sl).1, (k.slots sl).2.trans (h.slots sl).2⟩
  inds i := (h.inds i).trans (k.inds i)
  chutes c := (h.chutes c).trans (k.chutes c)
  fires := k.fires ∘ h.fires
  blocked := k.blocked ∘ h.blocked
  flags l n := k.flags l n ∘ h.flags l n

/-- A change of what traffic may change freely: the bags themselves, the pool, the strays. -/
theorem State.Moves.quiet {s t : State} (frame : t.sansTraffic = s.sansTraffic := by rfl)
    (trays : t.T = s.T := by rfl)
    (slots : t.slots = s.slots := by rfl) (inds : t.inds = s.inds := by rfl)
    (chutes : t.chutes = s.chutes := by rfl) (fires : t.fireQueue = s.fireQueue := by rfl)
    (blocked : t.blocked = s.blocked := by rfl) (notices : t.notices = s.notices := by rfl) : s.Moves t where
  frame := frame
  trays := trays
  slots sl := by simp [State.slot, slots]
  inds i := by rw [State.ind, State.ind, inds]; exact .refl _
  chutes c := by rw [State.chute, State.chute, chutes]; exact .refl _
  fires := by rw [fires]; exact id
  blocked := by rw [blocked]; exact id
  flags l n := by rw [State.flagged, State.flagged, notices]; exact id

theorem State.Moves.refl (s : State) : s.Moves s := .quiet

/-- A fold moves what each of its steps moves. -/
theorem foldl_moves {α : Type} {f : State → α → State} (h : ∀ (s : State) (a : α), s.Moves (f s a)) (xs : List α)
    (s : State) : s.Moves (xs.foldl f s) := by
  induction xs generalizing s with
  | nil => exact .refl s
  | cons x r ih => exact (h s x).trans (ih _)

theorem ite_moves {p : Prop} [Decidable p] {s a b : State} (ha : p → s.Moves a) (hb : ¬p → s.Moves b) :
    s.Moves (if p then a else b) := by
  split
  · next h => exact ha h
  · next h => exact hb h

/-! ### Notices, slots, trays, the loop hold -/

theorem raise_moves (n : Notice) (sc : Scope) (s : State) : s.Moves (raise n sc s) :=
  { State.Moves.refl s with flags := fun _ _ h => flagged_raise_of_flagged h n sc }

theorem State.Moves.raised {s t : State} (h : s.Moves t) {n : Notice} {sc : Scope} :
    s.Moves (raise n sc t) := h.trans (raise_moves ..)

theorem raiseIf_moves (b : Bool) (n : Notice) (sc : Scope) (s : State) : s.Moves (raiseIf b n sc s) :=
  ite_moves (fun _ => raise_moves n sc s) fun _ => .refl s

theorem modSlot_moves {sl : Slot} {f : SlotRecord → SlotRecord} {s : State}
    (hq : (f (s.slot sl)).quota = (s.slot sl).quota) (hc : (f (s.slot sl)).call = (s.slot sl).call) :
    s.Moves (modSlot sl f s) :=
  { State.Moves.refl s with
    frame := rfl
    slots := fun k => by
      by_cases h : k = sl
      · subst h; rw [modSlot_slot]; exact ⟨hq, hc⟩
      · rw [modSlot_slot_ne _ _ _ _ h]; exact ⟨rfl, rfl⟩ }

theorem reportZero_moves (sl : Slot) (s : State) : s.Moves (reportZero sl s) :=
  ite_moves (fun _ => (modSlot_moves rfl rfl).trans (raise_moves ..)) fun _ => .refl s

theorem reportCount_moves (sl : Slot) (s : State) : s.Moves (reportCount sl s) :=
  ite_moves (fun _ => reportZero_moves sl s) fun _ => .refl s

theorem judgeLoopHold_moves (s : State) : s.Moves (judgeLoopHold s) :=
  ite_moves (fun _ => .raised .quiet) fun _ =>
    ite_moves (fun _ => .quiet) fun _ => .refl s

theorem putTray_moves (t : Nat) (x : Tray) (s : State) : s.Moves (putTray t x s) :=
  .quiet (trays := putTray_T t x s)

theorem emptyTray_moves (t : Nat) (s : State) : s.Moves (emptyTray t s) := by
  refine (putTray_moves t .empty s).trans (.trans ?_ (judgeLoopHold_moves _))
  split
  · exact reportCount_moves ..
  · exact .refl _

theorem loadTray_moves (t : Nat) (b : BagRecord) (s : State) : s.Moves (loadTray t b s) :=
  (putTray_moves ..).trans (judgeLoopHold_moves _)

theorem modBag_moves (t : Nat) (f : BagRecord → BagRecord) (s : State) : s.Moves (modBag t f s) :=
  putTray_moves ..

/-! ### Inductions -/

theorem modInd_moves {i : IndId} {f : Induction → Induction} {s : State}
    (h : (s.ind i).Moves (f (s.ind i))) : s.Moves (modInd i f s) :=
  { State.Moves.refl s with
    frame := rfl
    inds := fun k => by
      rw [modInd_ind_eq]
      split
      · next e => subst e; exact h
      · exact .refl _ }

/-- A change of an induction that keeps its settings, receiver, queue and RESYNC. -/
theorem Induction.Moves.quiet {r r' : Induction} (offset : r'.offset = r.offset := by rfl)
    (enabled : r'.enabled = r.enabled := by rfl) (receiver : r'.receiver = r.receiver := by rfl)
    (queue : r'.queue = r.queue := by rfl) (resync : r'.resync = r.resync := by rfl) : r.Moves r' :=
  ⟨offset, enabled, receiver, by unfold Induction.QueueOk; rw [queue, resync]; exact id⟩

theorem Induction.send_moves (f : TxFrame) (r : Induction) : r.Moves (r.send f) :=
  .quiet (send_offset f r) (send_enabled f r) (send_receiver f r) (send_queue f r) (send_resync f r)

theorem Induction.settled_moves (was now : Bool) (r : Induction) : r.Moves (r.settled was now) :=
  .quiet (settled_offset ..) (settled_enabled ..) (settled_receiver ..) (settled_queue ..)
    (settled_resync ..)

theorem settleHold_moves (v u : State) (i : IndId) : u.Moves (settleHold v u i) := by
  rw [settleHold_eq]; exact modInd_moves (Induction.settled_moves ..)

theorem settleHolds_moves (v u : State) : u.Moves (settleHolds v u) :=
  foldl_moves (settleHold_moves v) _ u

theorem requestReservation_moves (i : IndId) (s : State) : s.Moves (requestReservation i s) :=
  ite_moves (fun _ => modInd_moves .quiet) fun _ => .refl s

theorem loseReservation_moves (i : IndId) (t : Nat) (s : State) : s.Moves (loseReservation i t s) :=
  ite_moves (fun _ => modInd_moves .quiet) fun _ => .refl s

theorem resendHold_moves (i : IndId) (s : State) : s.Moves (resendHold i s) :=
  ite_moves (fun _ => modInd_moves ((Induction.send_moves ..).trans .quiet)) fun _ => .refl s

theorem dropWindows_moves (s : State) : s.Moves (dropWindows s) :=
  foldl_moves (f := fun s i => modInd i (fun r => { r with windows := [] }) s)
    (fun _ _ => modInd_moves .quiet) _ s

theorem writeNote_moves (t : Nat) (n : UndoNote) (s : State) : s.Moves (writeNote t n s) := by
  unfold writeNote
  split
  · exact modInd_moves .quiet
  · exact .refl s

/-! ### Chutes and what is judged after them -/

theorem chute_set (c k : ChuteId) (x : Chute) {s t : State} (h : t.chutes = s.chutes.set c x) :
    t.chute k = if k = c then x else s.chute k := by
  have e : t.chute k = (putChute c x s).chute k := by rw [State.chute, State.chute, h]; rfl
  rw [e]
  split
  · next hk => subst hk; exact putChute_chute k x s
  · next hk => exact putChute_chute_ne c k x s hk

theorem Chute.Moves.quiet {x x' : Chute} (cfg : x'.cfg = x.cfg := by rfl) (eye : x'.eye = x.eye := by rfl)
    (windows : x'.windows = x.windows := by rfl) : x.Moves x' :=
  ⟨cfg, eye, by rw [windows]; exact id⟩

theorem putChute_moves {c : ChuteId} {x : Chute} {s : State} (h : (s.chute c).Moves x) :
    s.Moves (putChute c x s) :=
  { State.Moves.refl s with
    frame := rfl
    chutes := fun k => by
      rw [chute_set (s := s) (t := putChute c x s) c k x rfl]
      split
      · next e => subst e; exact h
      · exact .refl _ }

theorem judgeBlocked_moves (s : State) : s.Moves (judgeBlocked s) :=
  { State.Moves.refl s with
    frame := rfl, blocked := fun h => (List.length_filter_le _ _).trans h }

theorem judgeStrayArmed_moves (s : State) : s.Moves (judgeStrayArmed s) :=
  ite_moves (fun _ => .quiet) fun _ => .refl s

theorem setChute_moves {c : ChuteId} {x : Chute} {s : State} (h : (s.chute c).Moves x) :
    s.Moves (setChute c x s) :=
  ite_moves (fun _ => putChute_moves h) fun _ => ite_moves
    (fun _ => ((putChute_moves h).trans (judgeBlocked_moves _)).trans (judgeStrayArmed_moves _))
    fun _ => (putChute_moves h).trans (judgeBlocked_moves _)

theorem modChute_moves {c : ChuteId} {f : Chute → Chute} {s : State}
    (h : (s.chute c).Moves (f (s.chute c))) : s.Moves (modChute c f s) := setChute_moves h

theorem takeOver_moves (k c : ChuteId) (s : State) : s.Moves (takeOver k c s) :=
  (modChute_moves .quiet).trans (raise_moves ..)

theorem coverFull_moves (c : ChuteId) (s : State) : s.Moves (coverFull c s) :=
  ite_moves (fun _ => foldl_moves (fun s k => takeOver_moves k c s) _ s) fun _ => .refl s

theorem judgeStandby_moves (c : ChuteId) (s : State) : s.Moves (judgeStandby c s) := by
  refine ite_moves (fun _ => ?_) fun _ => .refl s
  split
  · exact takeOver_moves ..
  · exact .refl s

theorem judgeFill_moves (c : ChuteId) (s : State) : s.Moves (judgeFill c s) :=
  ite_moves
    (fun _ => ite_moves
      (fun _ => ((modChute_moves .quiet).trans (raise_moves ..)).trans (coverFull_moves ..))
      fun _ => (modChute_moves .quiet).trans (raiseIf_moves ..))
    fun _ => .refl s

theorem returnCommitted_moves (c : ChuteId) (u : Nat) (s : State) : s.Moves (returnCommitted c u s) :=
  modChute_moves .quiet

theorem returnFill_moves (c : ChuteId) (g : BitVec 8) (u : Nat) (s : State) :
    s.Moves (returnFill c g u s) :=
  ite_moves (fun _ => (modChute_moves .quiet).trans (judgeFill_moves ..)) fun _ => .refl s

theorem tiltFailed_moves (c : ChuteId) (s : State) : s.Moves (tiltFailed c s) :=
  ite_moves (fun _ => .refl s) fun _ => ite_moves
    (fun _ => (modChute_moves .quiet).trans (raiseIf_moves ..)) fun _ => modChute_moves .quiet

theorem length_dropOwnWindow_le (t : Nat) (ws : List ConfirmWindow) :
    (dropOwnWindow t ws).length ≤ ws.length := by
  induction ws with
  | nil => exact le_refl _
  | cons w r ih =>
    unfold dropOwnWindow
    split
    · exact Nat.le_succ _
    · exact Nat.succ_le_succ ih

theorem removeWindow_moves (c : ChuteId) (t : Nat) (s : State) : s.Moves (removeWindow c t s) :=
  putChute_moves ⟨rfl, rfl, fun h => (length_dropOwnWindow_le t _).trans h⟩

theorem blockedSelection_moves (g : Group) (s : State) : s.Moves (blockedSelection g s) := by
  unfold blockedSelection
  split
  · refine .trans ?_ (raiseIf_moves ..)
    exact { State.Moves.refl s with frame := rfl, blocked := fun h => (List.length_map _).trans_le h }
  · refine .trans (ite_moves (fun h => ?_) fun _ => .refl s) (raise_moves ..)
    exact { State.Moves.refl s with
      frame := rfl, blocked := fun _ => by simpa using Nat.succ_le_of_lt h }

theorem noChute_moves (d : Dest) (u : Nat) (s : State) : s.Moves (noChute d u s) := by
  refine ite_moves (fun _ => .refl s) fun _ => ?_
  split
  · exact blockedSelection_moves ..
  · exact ite_moves (fun _ => .raised .quiet) fun _ => .refl s

/-! ### Selections and fires -/

/-- Some records leave the fire queue. -/
theorem filterFires_moves (f : FireRecord → Bool) (s : State) :
    s.Moves { s with fireQueue := s.fireQueue.filter f } :=
  { State.Moves.refl s with
    frame := rfl, fires := fun h => (List.length_filter_le _ _).trans h }

theorem removeFire_moves (t : Nat) (s : State) : s.Moves (removeFire t s) := filterFires_moves _ s

theorem cancelSelection_moves (t : Nat) (s : State) : s.Moves (cancelSelection t s) := by
  unfold cancelSelection
  split
  case h_1 => exact (returnCommitted_moves ..).trans (putTray_moves ..)
  case h_2 => exact ((removeFire_moves t s).trans (returnCommitted_moves ..)).trans (putTray_moves ..)
  all_goals exact .refl s

theorem passToSelection_moves (t : Nat) (s : State) : s.Moves (passToSelection t s) := by
  unfold passToSelection
  split
  case h_1 =>
    split
    · split
      · exact (putTray_moves ..).trans (modChute_moves .quiet)
      · exact noChute_moves ..
    · exact .refl s
  all_goals exact .refl s

theorem cancelAll_moves (want : Tray → Bool) (s : State) : s.Moves (cancelAll want s) :=
  foldl_moves (fun s t => cancelSelection_moves t s) _ s

theorem length_insertFire (r : FireRecord) (q : List FireRecord) :
    (insertFire r q).length = q.length + 1 := by
  induction q with
  | nil => rfl
  | cons x q ih => unfold insertFire; split <;> simp [ih]

/-- A fire record joins a queue that has room for it (R143, R144). -/
theorem insertFire_moves {s : State} (h : s.fireQueue.length < 32) (r : FireRecord) :
    s.Moves { s with fireQueue := insertFire r s.fireQueue } :=
  { State.Moves.refl s with
    frame := rfl, fires := fun _ => (length_insertFire r _).trans_le (Nat.succ_le_of_lt h) }

theorem armTray_moves (t : Nat) (s : State) : s.Moves (armTray t s) := by
  unfold armTray
  split
  case h_1 =>
    refine ite_moves (fun _ => ite_moves (fun _ => ?_) fun hq => ?_) fun _ => .refl s
    · exact ((returnCommitted_moves ..).trans (putTray_moves ..)).trans (raise_moves ..)
    · exact ((insertFire_moves (Nat.lt_of_not_le hq) _).trans (putTray_moves ..)).trans (raiseIf_moves ..)
  all_goals exact .refl s

theorem closeUnconfirmed_moves (c : ChuteId) (w : ConfirmWindow) (later : List ConfirmWindow)
    (s : State) : s.Moves (closeUnconfirmed c w later s) := by
  unfold closeUnconfirmed
  split
  case h_1 => exact ite_moves (fun _ => putTray_moves ..) fun _ => .refl s
  all_goals exact .refl s

theorem setWindows_moves {c : ChuteId} {ws : List ConfirmWindow} {s : State}
    (h : (s.chute c).windows.length ≤ 4 → ws.length ≤ 4) : s.Moves (setWindows c ws s) :=
  putChute_moves ⟨rfl, rfl, h⟩

theorem openWindow_moves (c : ChuteId) (t : Nat) (s : State) : s.Moves (openWindow c t s) := by
  unfold openWindow
  dsimp only
  split
  next o r hw =>
    refine ite_moves (fun _ => ?_) fun h4 => setWindows_moves fun _ => ?_
    · refine .trans (setWindows_moves fun h => ?_) (closeUnconfirmed_moves ..)
      rw [hw] at h; simpa using h
    · simpa using Nat.lt_of_not_le h4
  next => exact setWindows_moves fun _ => by simp

theorem fireRecord_moves (r : FireRecord) (s : State) : s.Moves (fireRecord r s) := by
  unfold fireRecord
  split
  case h_1 =>
    refine ite_moves (fun _ => ?_) fun _ => .refl s
    refine .trans (.trans ?_ (putTray_moves ..)) (openWindow_moves ..)
    exact ((putChute_moves .quiet).trans (modChute_moves .quiet)).trans (judgeFill_moves ..)
  all_goals exact .refl s

theorem fireHead_moves (s : State) : s.Moves (fireHead s) := by
  unfold fireHead
  split
  next r q hq =>
    refine ite_moves (fun _ => .trans ?_ (fireRecord_moves ..)) fun _ => .refl s
    exact { State.Moves.refl s with
      frame := rfl
      fires := fun h => by rw [hq] at h; exact (Nat.le_succ _).trans h }
  next => exact .refl s

/-! ### Bags, entries and strays -/

theorem modEntry_moves (tag : Tag) (f : BagEntry → BagEntry) (s : State) : s.Moves (modEntry tag f s) :=
  .quiet

theorem modStray_moves (id : BitVec 16) (f : StrayEntry → StrayEntry) (s : State) :
    s.Moves (modStray id f s) := .quiet

theorem sortEntry_moves (tag : Tag) (c : ChuteId) (u : Bool) (s : State) :
    s.Moves (sortEntry tag c u s) := by
  unfold sortEntry
  split
  · split
    case h_1 => exact (modEntry_moves ..).trans (raiseIf_moves ..)
    all_goals exact .refl s
  · exact .refl s

theorem countStray_moves (sl : Option Slot) (s : State) : s.Moves (countStray sl s) := by
  unfold countStray
  split
  · exact modSlot_moves rfl rfl
  · exact .refl s

theorem recordStray_moves (q : StrayRequest) (s : State) : s.Moves (recordStray q s).state := by
  refine (countStray_moves q.slot s).trans ?_
  unfold recordStray
  dsimp only
  split
  · exact modStray_moves ..
  · split
    · exact .raised .quiet
    · exact .raised .quiet

theorem reinductStray_moves (tag : Tag) (sl : Slot) (s : State) :
    s.Moves (reinductStray tag sl s).state := by
  unfold reinductStray
  split
  · exact modStray_moves ..
  · exact .refl s

theorem removeStray_moves (id : BitVec 16) (s : State) : s.Moves (removeStray id s) :=
  .quiet (trays := List.length_map _)

theorem straySorted_moves (id : Option (BitVec 16)) (s : State) : s.Moves (straySorted id s) := by
  unfold straySorted
  split
  · exact ite_moves (fun _ => removeStray_moves ..) fun _ => .refl s
  · exact .refl s

theorem strayUntracked_moves (id : Option (BitVec 16)) (s : State) : s.Moves (strayUntracked id s) := by
  unfold strayUntracked
  split
  · exact modStray_moves ..
  · exact .refl s

theorem undoStray_moves (u : UndoStray) (s : State) : s.Moves (undoStray u s) := by
  unfold undoStray
  split
  · split
    · exact ite_moves (fun _ => removeStray_moves ..) fun _ =>
        ite_moves (fun _ => modStray_moves ..) fun _ => .refl s
    · exact .refl s
  · split
    · exact ite_moves (fun _ => modStray_moves ..) fun _ => .refl s
    · exact .refl s

theorem undoNote_moves (linked : Option Tag) (n : UndoNote) (s : State) :
    s.Moves (undoNote linked n s) := by
  have h : ∀ u : UndoEntry, s.Moves (if linked = some u.tag then restoreEntry u s else s) := fun u =>
    ite_moves (fun _ => modEntry_moves ..) fun _ => .refl s
  unfold undoNote
  dsimp only
  split
  · refine .trans ?_ (undoStray_moves ..)
    split
    · exact h _
    · exact .refl s
  · split
    · exact h _
    · exact .refl s

theorem sortBag_moves (b : BagRecord) (c : ChuteId) (u : Bool) (s : State) :
    s.Moves (sortBag b c u s) := by
  unfold sortBag
  split
  · exact (sortEntry_moves ..).trans (straySorted_moves ..)
  · split
    · exact ite_moves (fun _ => modStray_moves ..) fun _ => .refl s
    · exact .refl s

theorem loseBag_moves (b : BagRecord) (s : State) : s.Moves (loseBag b s) := by
  refine .trans ?_ (strayUntracked_moves ..)
  split
  · exact modEntry_moves ..
  · exact .refl s

/-! ### Classification -/

theorem makeStray_moves (t : Nat) (q : StrayRequest) (s : State) : s.Moves (makeStray t q s).state :=
  (recordStray_moves q s).trans (modBag_moves ..)

theorem makeWaiting_moves (t : Nat) (r : WaitReason) (s : State) : s.Moves (makeWaiting t r s).state :=
  modBag_moves ..

theorem routeBag_moves (t : Nat) (sl : Slot) (e : BagEntry) (s : State) :
    s.Moves (routeBag t sl e s).state :=
  ((modEntry_moves ..).trans (reinductStray_moves ..)).trans (modBag_moves ..)

theorem classifyEntry_moves (t : Nat) (tag : Tag) (sl : Slot) (e : BagEntry) (s : State) :
    s.Moves (classifyEntry t tag sl e s).state := by
  unfold classifyEntry
  split
  case h_1 => exact (raise_moves ..).trans (makeStray_moves ..)
  case h_2 => exact (raise_moves ..).trans (makeStray_moves ..)
  all_goals
    split
    · exact routeBag_moves ..
    · split
      · exact makeWaiting_moves ..
      · exact makeStray_moves ..

theorem classifyInSlot_moves (t : Nat) (tag : Tag) (sl : Slot) (s : State) :
    s.Moves (classifyInSlot t tag sl s).state := by
  unfold classifyInSlot
  split
  · exact makeStray_moves ..
  · split
    · exact classifyEntry_moves ..
    · split
      · exact makeWaiting_moves ..
      · exact makeStray_moves ..

theorem classifyTag_moves (t : Nat) (tag : Tag) (s : State) : s.Moves (classifyTag t tag s).state := by
  unfold classifyTag
  split
  · exact makeStray_moves ..
  · split
    case h_1 => exact makeStray_moves ..
    case h_2 => exact makeStray_moves ..
    all_goals exact (modBag_moves ..).trans (classifyInSlot_moves ..)

theorem classify_moves (t : Nat) (s : State) : s.Moves (classify t s).state := by
  unfold classify
  split
  · exact .refl s
  · split
    · exact makeStray_moves ..
    · split
      · exact makeStray_moves ..
      · exact (modBag_moves ..).trans (classifyTag_moves ..)

/-! ### Wakes and the check eye -/

theorem raiseExpired_moves (t : Nat) (s : State) : s.Moves (raiseExpired t s) := by
  unfold raiseExpired
  split
  · exact raiseIf_moves ..
  · exact .refl s

theorem wakeTray_moves (t : Nat) (s : State) : s.Moves (wakeTray t s) := by
  unfold wakeTray
  split
  case h_1 =>
    refine ite_moves (fun _ => ?_) fun _ => .refl s
    exact (((classify_moves t s).trans (writeNote_moves ..)).trans (raiseExpired_moves ..)).trans
      (passToSelection_moves ..)
  all_goals exact .refl s

theorem wakeWhere_moves (sl : Slot) (want : BagRecord → Bool) (s : State) :
    s.Moves (wakeWhere sl want s) := foldl_moves (fun s t => wakeTray_moves t s) _ s

theorem judgeWait_moves (t : Nat) (s : State) : s.Moves (judgeWait t s) := by
  refine (classify_moves t s).trans ?_
  unfold judgeWait
  dsimp only
  split
  · split
    · exact ite_moves (fun _ => (makeStray_moves ..).trans (raise_moves ..)) fun _ => .refl _
    · exact .refl _
    · exact raiseExpired_moves ..
  · exact .refl _

theorem judgeLimit_moves (t : Nat) (s : State) : s.Moves (judgeLimit t s) := by
  unfold judgeLimit
  split
  · refine ite_moves (fun _ => ?_) fun _ => .refl s
    dsimp only
    split
    · exact (makeStray_moves ..).trans (modEntry_moves ..)
    · exact makeStray_moves ..
  · exact .refl s

theorem newPass_moves (t : Nat) (s : State) : s.Moves (newPass t s) := by
  unfold newPass
  dsimp only
  refine .trans ?_ ((judgeLimit_moves ..).trans (passToSelection_moves ..))
  split
  · split
    · exact (modBag_moves ..).trans (judgeWait_moves ..)
    · exact modBag_moves ..
  · exact modBag_moves ..

theorem loadOrphan_moves (t : Nat) (s : State) : s.Moves (loadOrphan t s) :=
  ((loadTray_moves ..).trans (makeStray_moves ..)).trans (passToSelection_moves ..)

theorem orphanFound_moves (t : Nat) (s : State) : s.Moves (orphanFound t s) := by
  refine .trans ?_ ((raise_moves ..).trans (loadOrphan_moves ..))
  split
  case h_1 => exact loseReservation_moves ..
  all_goals exact .refl s

theorem lostBag_moves (t : Nat) (b : BagRecord) (s : State) : s.Moves (lostBag t b s) :=
  ((raise_moves ..).trans (loseBag_moves ..)).trans (emptyTray_moves ..)

theorem settleLoaded_moves (t : Nat) (b : BagRecord) (eye : Bool) (s : State) :
    s.Moves (settleLoaded t b eye s) := ite_moves (fun _ => newPass_moves ..) fun _ => lostBag_moves ..

theorem settleUnconfirmed_moves (t : Nat) (b : BagRecord) (c : ChuteId) (g : BitVec 8) (eye : Bool)
    (s : State) : s.Moves (settleUnconfirmed t b c g eye s) :=
  ite_moves
    (fun _ => (((returnFill_moves ..).trans (tiltFailed_moves ..)).trans (putTray_moves ..)).trans
      (newPass_moves ..))
    fun _ => ((sortBag_moves ..).trans (raise_moves ..)).trans (emptyTray_moves ..)

theorem settleRow_moves (t : Nat) (eye : Bool) (s : State) : s.Moves (settleRow t eye s) := by
  unfold settleRow
  split
  case h_1 => exact ite_moves (fun _ => orphanFound_moves ..) fun _ => .refl s
  case h_2 => exact ite_moves (fun _ => orphanFound_moves ..) fun _ => .refl s
  case h_3 => exact settleLoaded_moves ..
  case h_4 => exact settleUnconfirmed_moves ..
  case h_5 => exact ((cancelSelection_moves ..).trans (raise_moves ..)).trans (settleLoaded_moves ..)
  case h_6 => exact ((removeWindow_moves ..).trans (putTray_moves ..)).trans (settleUnconfirmed_moves ..)
  case h_7 => exact ite_moves (fun _ => loadOrphan_moves ..) fun _ => emptyTray_moves ..
  case h_8 => exact .refl s

theorem confirmLaunch_moves (t : Nat) (s : State) : s.Moves (confirmLaunch t s) := modBag_moves ..

theorem closeLaunch_moves (t : Nat) (s : State) : s.Moves (closeLaunch t s) :=
  ite_moves
    (fun _ => (foldl_moves (f := fun s i =>
        modInd i (fun r => { r with windows := r.windows.filter fun w => w.tray != t }) s)
      (fun _ _ => modInd_moves .quiet) _ s).trans (confirmLaunch_moves ..))
    fun _ => .refl s

theorem reconcile_moves (t : Nat) (eye : Bool) (s : State) : s.Moves (reconcile t eye s) :=
  (closeLaunch_moves ..).trans (settleRow_moves ..)

/-! ### Claims, grants and the acts of a pitch event -/

theorem grantReservation_moves (s : State) : s.Moves (grantReservation s) := by
  refine ite_moves (fun _ => ?_) fun _ => .refl s
  split
  · exact (putTray_moves ..).trans (modInd_moves .quiet)
  · exact .refl s

theorem Induction.judgeQueue_eq (r : Induction) :
    r.judgeQueue = { r with queueHold := r.judgeQueue.queueHold } := by
  unfold Induction.judgeQueue
  split
  · rfl
  · split <;> rfl

theorem Induction.judgeQueue_moves (r : Induction) : r.Moves r.judgeQueue := by
  rw [Induction.judgeQueue_eq]; exact .quiet

/-- R40 step 4: the head record leaves the queue. -/
theorem Induction.dequeue_moves {r : Induction} {rec : ReadRecord} {q : List ReadRecord}
    (h : r.queue = rec :: q) : r.Moves { r with queue := q, waitCount := 0 }.judgeQueue := by
  refine .trans (b := { r with queue := q, waitCount := 0 }) ⟨rfl, rfl, rfl, fun hok => ?_⟩
    (Induction.judgeQueue_moves _)
  obtain ⟨hlen, hres⟩ := hok
  rw [h] at hlen hres
  exact ⟨(Nat.le_succ _).trans hlen, fun e => absurd (hres e) (List.cons_ne_nil _ _)⟩

theorem claimTray_moves (i : IndId) (t : Nat) (s : State) : s.Moves (claimTray i t s) := by
  unfold claimTray
  split
  next r q hq =>
    refine .trans (modInd_moves (f := fun x => { x with queue := q, waitCount := 0 }.judgeQueue)
      (Induction.dequeue_moves hq)) ?_
    refine .trans ?_ (modInd_moves ((Induction.send_moves ..).trans .quiet))
    exact ((loadTray_moves ..).trans (classify_moves ..)).trans (passToSelection_moves ..)
  next => exact .refl s

theorem releaseGranted_moves (i : IndId) (t : Nat) (s : State) : s.Moves (releaseGranted i t s) := by
  refine ite_moves (fun _ => .trans ?_ (modInd_moves .quiet)) fun _ => .refl s
  exact ite_moves (fun _ => putTray_moves ..) fun _ => .refl s

theorem countWait_moves (barred : Bool) (r : Induction) : r.Moves (countWait barred r) := by
  unfold countWait
  split
  · exact .quiet
  · split
    · exact .refl r
    · exact .quiet

theorem claimCheck_moves (hold : Bool) (i : IndId) (s : State) : s.Moves (claimCheck hold i s) := by
  refine ite_moves (fun _ => (claimTray_moves ..).trans (requestReservation_moves ..)) fun _ => ?_
  refine .trans ?_ ((modInd_moves (countWait_moves ..)).trans (requestReservation_moves ..))
  exact ite_moves (fun _ => releaseGranted_moves ..) fun _ => .refl s

theorem doAct_moves (hold eye : Bool) (s : State) (a : PitchAct) : s.Moves (doAct hold eye s a) := by
  refine .trans ?_ (settleHolds_moves s _)
  cases a with
  | claim i => exact claimCheck_moves ..
  | grant => exact grantReservation_moves _
  | reconcile => exact reconcile_moves ..
  | arm t => exact armTray_moves ..
  | reselect t => exact passToSelection_moves ..

theorem expireWindows_moves (i : IndId) (s : State) : s.Moves (expireWindows i s) :=
  (foldl_moves (fun s (w : LaunchWindow) => confirmLaunch_moves w.tray s) _ s).trans (modInd_moves .quiet)

theorem countWindows_moves (i : IndId) (s : State) : s.Moves (countWindows i s) := modInd_moves .quiet

theorem pitchActs_moves (hold first : Bool) (order : List Nat) (eye : Bool) (s : State) :
    s.Moves (pitchActs hold first order eye s) :=
  (foldl_moves (fun _ _ => (countWindows_moves ..).trans (expireWindows_moves ..)) _ s).trans
    (foldl_moves (doAct_moves hold eye) _ _)

end Sys2Proof.Machine
end

section
/-! SUPPORT. A state with a mask equal to another's is that other with the masked fields its own. -/

namespace Sys2Proof.Machine

theorem eq_of_sansInds {s t : State} (h : t.sansInds = s.sansInds) : t = { s with inds := t.inds } := by
  cases s; cases t; simp_all [State.sansInds]

theorem eq_of_sansSelection {s t : State} (h : t.sansSelection = s.sansSelection) :
    t = { s with
      loop := { s.loop with trays := t.loop.trays }, chutes := t.chutes, blocked := t.blocked
      strayArmed := t.strayArmed, fireQueue := t.fireQueue, notices := t.notices } := by
  obtain ⟨loop, _⟩ := s; obtain ⟨loop', _⟩ := t
  cases loop; cases loop'
  simp_all [State.sansSelection]

/-- Settling the holds changes the inductions alone (R37). -/
theorem settleHolds_eq (v u : State) : settleHolds v u = { u with inds := (settleHolds v u).inds } :=
  eq_of_sansInds (settleHolds_frame v u)

@[simp] theorem settleHolds_loop (v u : State) : (settleHolds v u).loop = u.loop := by rw [settleHolds_eq]
@[simp] theorem settleHolds_fireQueue (v u : State) : (settleHolds v u).fireQueue = u.fireQueue := by
  rw [settleHolds_eq]
@[simp] theorem settleHolds_chutes (v u : State) : (settleHolds v u).chutes = u.chutes := by
  rw [settleHolds_eq]
@[simp] theorem settleHolds_blocked (v u : State) : (settleHolds v u).blocked = u.blocked := by
  rw [settleHolds_eq]
@[simp] theorem settleHolds_pool (v u : State) : (settleHolds v u).pool = u.pool := by rw [settleHolds_eq]
@[simp] theorem settleHolds_T (v u : State) : (settleHolds v u).T = u.T := by rw [settleHolds_eq]; rfl
@[simp] theorem settleHolds_tray (v u : State) (k : Nat) : (settleHolds v u).tray k = u.tray k := by
  rw [settleHolds_eq]; rfl
@[simp] theorem settleHolds_flagged (v u : State) (l : LinkId) (n : Notice) :
    (settleHolds v u).flagged l n = u.flagged l n := by rw [settleHolds_eq]; rfl

/-- The loop at rest holds every induction (cause 4 of R37). -/
theorem held_of_atRest {s : State} (h : s.atRest = true) (i : IndId) : s.held i = true := by
  simp [State.held, State.barred, State.barredWith, h]

/-- R37: a loop that comes to rest has HOLD sent to every induction that was not held. -/
theorem settleHolds_ind_of_atRest (v : State) {u : State} (h : u.atRest = true) (i : IndId) :
    (settleHolds v u).ind i =
      if v.held i then u.ind i else { (u.ind i).send .hold with resendCount := 0 } := by
  rw [settleHolds_ind, held_of_atRest h]
  cases v.held i <;> rfl

/-- Between two states of a loop at rest nothing is sent. -/
theorem settleHolds_atRest {v u : State} (hv : v.atRest = true) (hu : u.atRest = true) :
    settleHolds v u = u :=
  settleHolds_of_held fun i => by rw [held_of_atRest hv, held_of_atRest hu]

theorem atRest_iff (s : State) : s.atRest = true ↔ s.loop.state = .stopped ∨ s.loop.state = .stalled := by
  simp [State.atRest]

end Sys2Proof.Machine
end

section
/-! SUPPORT. Selections lost (R13, R14): which trays change and what stands. -/

namespace Sys2Proof.Machine

theorem tray_of_le {s : State} {k : Nat} (h : s.T ≤ k) : s.tray k = .empty := by
  simp [State.tray, List.getD, List.getElem?_eq_none (show s.loop.trays.length ≤ k from h)]

/-- One tray rewritten: the others stand, and a number that names no tray reads as before. -/
theorem tray_of_set {s u : State} {t : Nat} {x : Tray} (h : u.loop.trays = s.loop.trays.set t x) (k : Nat) :
    u.tray k = if k = t ∧ t < s.T then x else s.tray k := by
  have e : u.tray k = (putTray t x s).tray k := by rw [State.tray, h]; rfl
  rw [e]
  split
  · next hk => obtain ⟨rfl, ht⟩ := hk; exact putTray_tray k x s ht
  · next hk =>
    by_cases hkt : k = t
    · subst hkt
      have hle : s.T ≤ k := not_lt.mp fun hlt => hk ⟨rfl, hlt⟩
      rw [tray_of_le hle, tray_of_le (by simpa using hle)]
    · exact putTray_tray_ne t k x s hkt

/-- A tray written with what it holds changes nothing. -/
theorem trays_set_self {s : State} (t : Nat) : s.loop.trays.set t (s.tray t) = s.loop.trays := by
  apply List.ext_getElem?
  intro k
  rw [List.getElem?_set]
  split
  · next h =>
    subst h
    split
    · next ht => simp [State.tray, List.getElem?_eq_getElem ht]
    · next ht => exact (List.getElem?_eq_none (not_lt.mp ht)).symm
  · rfl

@[simp] theorem Tray.unselected_unselected (x : Tray) : x.unselected.unselected = x.unselected := by
  cases x <;> rfl

theorem judgeStrayArmed_notices (s : State) : (judgeStrayArmed s).notices = s.notices := by
  unfold judgeStrayArmed; split <;> rfl

theorem setChute_notices (c : ChuteId) (x : Chute) (s : State) : (setChute c x s).notices = s.notices := by
  unfold setChute
  dsimp only
  split
  · rfl
  · split
    · exact judgeStrayArmed_notices _
    · rfl

/-- A change of a chute record leaves the loop. -/
theorem modChute_loop (c : ChuteId) (f : Chute → Chute) (s : State) : (modChute c f s).loop = s.loop :=
  (congrArg State.loop (modChute_frame c f s) :)

theorem modChute_notices (c : ChuteId) (f : Chute → Chute) (s : State) :
    (modChute c f s).notices = s.notices := setChute_notices ..

theorem returnCommitted_loop (c : ChuteId) (u : Nat) (s : State) : (returnCommitted c u s).loop = s.loop :=
  modChute_loop ..

theorem cancelSelection_trays (t : Nat) (s : State) :
    (cancelSelection t s).loop.trays = s.loop.trays.set t (s.tray t).unselected := by
  unfold cancelSelection
  split
  case h_1 h => simp [putTray, returnCommitted_loop, h, Tray.unselected]
  case h_2 h => simp [putTray, returnCommitted_loop, h, Tray.unselected]
  all_goals
    next h =>
      rw [h]
      simp only [Tray.unselected]
      rw [← h, trays_set_self]

theorem cancelSelection_notices (t : Nat) (s : State) : (cancelSelection t s).notices = s.notices := by
  unfold cancelSelection
  split
  case h_1 => exact modChute_notices ..
  case h_2 => exact modChute_notices ..
  all_goals rfl

theorem cancelSelection_tray (t k : Nat) (s : State) :
    (cancelSelection t s).tray k = if k = t then (s.tray k).unselected else s.tray k := by
  rw [tray_of_set (cancelSelection_trays t s)]
  by_cases hk : k = t
  · subst hk
    by_cases hT : k < s.T
    · simp [hT]
    · simp [hT, tray_of_le (not_lt.mp hT), Tray.unselected]
  · simp [hk]

theorem foldl_cancelSelection_tray (ts : List Nat) (k : Nat) (s : State) :
    (ts.foldl (fun s t => cancelSelection t s) s).tray k =
      if k ∈ ts then (s.tray k).unselected else s.tray k := by
  induction ts generalizing s with
  | nil => simp
  | cons t r ih =>
    rw [List.foldl_cons, ih, cancelSelection_tray]
    by_cases hk : k = t <;> simp [hk]

/-- Every tray that meets the test loses its selection, and no other changes (R6, R8). -/
theorem cancelAll_tray (want : Tray → Bool) (s : State) (k : Nat) :
    (cancelAll want s).tray k = if want (s.tray k) then (s.tray k).unselected else s.tray k := by
  unfold cancelAll
  rw [foldl_cancelSelection_tray]
  by_cases hT : k < s.T
  · simp [hT]
  · simp [hT, tray_of_le (not_lt.mp hT), Tray.unselected]

theorem cancelAll_notices (want : Tray → Bool) (s : State) : (cancelAll want s).notices = s.notices :=
  foldl_keeps State.notices _ (fun s t => cancelSelection_notices t s) _ s

theorem cancelAll_eq (want : Tray → Bool) (s : State) :
    cancelAll want s = { s with
      loop := { s.loop with trays := (cancelAll want s).loop.trays }, chutes := (cancelAll want s).chutes
      blocked := (cancelAll want s).blocked, strayArmed := (cancelAll want s).strayArmed
      fireQueue := (cancelAll want s).fireQueue } := by
  have h := eq_of_sansSelection (cancelAll_frame want s)
  rwa [cancelAll_notices] at h

end Sys2Proof.Machine
end

section
/-! O20. The stall timeout (R6). -/

namespace Sys2Proof.Machine

/-- R6: the stall timer is due in STARTING and RUNNING once the timeout has passed. -/
theorem stallDue_of_timeout {s : State} {t0 : Nat} (hst : s.loop.state = .starting ∨ s.loop.state = .running)
    (hfrom : s.loop.stallFrom = some t0) (hdue : t0 + s.loop.cfg.stallTimeout ≤ s.clock.tick) :
    s.stallDue = true := by
  have hrest : s.atRest = false := by rcases hst with h | h <;> simp [State.atRest, h]
  simp [State.stallDue, hfrom, hrest, hdue]

/-- R6: SELECTED and ARMED trays are those that a lost selection changes. -/
theorem unselected_of_bound (x : Tray) :
    (if x.isSelected || x.isArmed then x.unselected else x) = x.unselected := by
  cases x <;> rfl

/-- Settles O20: the trays by `cancelAll_tray`, the holds by `settleHolds_ind`. -/
theorem stallTimeoutEntersStalled : Obligations.stallTimeoutEntersStalled := by
  intro s t0 hst hfrom hdue
  refine ⟨enterStalled s, by
    rw [exec, execStallTimeout, if_pos (stallDue_of_timeout hst hfrom hdue)], ?_⟩
  have hc := cancelAll_eq (fun x => x.isSelected || x.isArmed) s
  have hT := (cancelAll_moves (fun x => x.isSelected || x.isArmed) s).trays
  have htray := cancelAll_tray (fun x => x.isSelected || x.isArmed) s
  unfold enterStalled
  generalize cancelAll (fun x => x.isSelected || x.isArmed) s = c at *
  refine ⟨?_, ?_, ?_, fun k => ?_, ?_, fun i => ?_⟩
  · rw [settleHolds_eq, hc]; rfl
  · rw [settleHolds_loop, hc]; rfl
  · rw [settleHolds_T]; exact hT
  · rw [settleHolds_tray, ← unselected_of_bound]; exact htray k
  · rw [settleHolds_flagged]; exact flagged_raise _ (Scope.names_shore _) _
  · rw [settleHolds_ind_of_atRest s rfl]
    have hi : c.ind i = s.ind i := by rw [hc]; rfl
    rw [← hi]; rfl

end Sys2Proof.Machine
end

section
/-! O41. START LOOP and STOP LOOP (R4, R8). -/

namespace Sys2Proof.Machine

variable {l : LinkId} {p : Payload} {s : State}

/-- R4: START LOOP of a loop in STOPPED; RESUME goes to every induction that is held no longer. -/
theorem exec_startLoop (h : s.admits .startLoop l p = true) :
    (s.loop.state ≠ .stopped →
      exec (.startLoop l p) s = .next (refusedWith .startLoop l p .state s)) ∧
    (s.loop.state = .stopped →
      ∃ u, exec (.startLoop l p) s = .next (answeredOk .startLoop l p u) ∧
        u = { s with
          inds := u.inds
          loop := { s.loop with
            state := .starting, measured := 0, intervals := [], pitchTime := none
            stallFrom := some s.clock.tick } } ∧
        ∀ i, u.ind i = if u.held i then s.ind i else (s.ind i).send .resume) := by
  refine ⟨fun hst => exec_refusedWith h (if_neg hst), fun hst => ⟨_, exec_answeredOk h (if_pos hst), ?_⟩⟩
  refine ⟨settleHolds_eq .., fun i => ?_⟩
  rw [settleHolds_held, settleHolds_ind, held_of_atRest ((atRest_iff s).mpr (.inl hst))]
  generalize hu : State.held _ i = now
  cases now <;> rfl

/-- R8: STOP LOOP; HOLD goes to every induction that was not held. -/
theorem exec_stopLoop (h : s.admits .stopLoop l p = true) :
    (s.loop.state = .stopped →
      exec (.stopLoop l p) s = .next (answeredOk .stopLoop l p s)) ∧
    (s.loop.state ≠ .stopped →
      ∃ u, exec (.stopLoop l p) s = .next (answeredOk .stopLoop l p u) ∧
        u = { s with
          inds := u.inds, chutes := u.chutes, blocked := u.blocked, strayArmed := u.strayArmed
          fireQueue := []
          loop := { s.loop with
            trays := u.loop.trays, state := .stopped, stallFrom := none, pitchTime := none
            measured := 0, intervals := [] } } ∧
        u.T = s.T ∧
        (∀ k, (∀ b c, s.tray k ≠ .armed b c) → u.tray k = s.tray k) ∧
        (∀ k b c, s.tray k = .armed b c → u.tray k = .loaded b) ∧
        ∀ i, u.ind i =
          if s.held i then s.ind i else { (s.ind i).send .hold with resendCount := 0 }) := by
  refine ⟨fun hst => exec_answeredOk h (if_pos hst), fun hst => ⟨_, exec_answeredOk h (if_neg hst), ?_⟩⟩
  have hc := cancelAll_eq Tray.isArmed s
  have hT := (cancelAll_moves Tray.isArmed s).trays
  have htray : ∀ k, (stopMotion s).tray k = _ := fun k =>
    (settleHolds_tray s _ k).trans (cancelAll_tray Tray.isArmed s k)
  unfold stopMotion at *
  generalize cancelAll Tray.isArmed s = c at *
  refine ⟨?_, ?_, fun k hk => ?_, fun k b d hk => ?_, fun i => ?_⟩
  · rw [settleHolds_eq, hc]
  · rw [settleHolds_T]; exact hT
  · rw [htray]
    cases hx : s.tray k with
    | armed b d => exact absurd hx (hk b d)
    | _ => rfl
  · rw [htray, hk]; rfl
  · rw [settleHolds_ind_of_atRest s rfl]
    have hi : c.ind i = s.ind i := by rw [hc]; rfl
    rw [← hi]; rfl

/-- Settles O41. -/
theorem startAndStopLoop : Obligations.startAndStopLoop := fun _ _ _ => ⟨exec_startLoop, exec_stopLoop⟩

end Sys2Proof.Machine
end

section
/-! O40. CONFIGURE LOOP (R1 to R3, R16). -/

namespace Sys2Proof.Machine

/-- R2: the values of Table 1-1 that a request for `t` trays stores. -/
theorem clamped_requestedConfig (t : Nat) (p : Payload) :
    (requestedConfig p).clamped t =
      let high := max 2 (min t (u16 p 6))
      let low := if high ≤ max 1 (u16 p 8) then high - 1 else max 1 (u16 p 8)
      ⟨max 500 (min 30000 (u16 p 2)), max 2000 (min 60000 (u16 p 4)), high, low,
        max 1 (min 7 (u8 p 10)), min 7 (u8 p 11), min 2000 (u16 p 12), min 2000 (u16 p 14),
        min 2000 (u16 p 16), min 2000 (u16 p 18)⟩ := by
  simp [requestedConfig, LoopConfig.clamped, clampTo]

theorem dropWindows_ind (s : State) (i : IndId) :
    (dropWindows s).ind i = { s.ind i with windows := [] } := by cases i <;> rfl

/-- R3: the induction records that a rebuilt tray table leaves. -/
theorem rebuildTrays_ind (t : Nat) (s : State) (i : IndId) :
    (rebuildTrays t s).ind i =
      { s.ind i with windows := [], reservation := (s.ind i).reservation.rebuild } := by
  cases i <;> rfl

theorem rebuild_ne_granted (r : Reservation) (k : Nat) : r.rebuild ≠ .granted k := by
  cases r <;> simp [Reservation.rebuild]

theorem rebuild_eq_requested {r : Reservation} (h : r ≠ .none) : r.rebuild = .requested := by
  cases r <;> simp_all [Reservation.rebuild]

/-- R16: what judging the loop hold leaves but for the hold and the notices. -/
theorem judgeLoopHold_eq (s : State) :
    judgeLoopHold s = { s with
      loop := { s.loop with hold := (judgeLoopHold s).loop.hold }
      notices := (judgeLoopHold s).notices } := by
  unfold judgeLoopHold
  split
  · rfl
  · split <;> rfl

theorem judgeLoopHold_state (s : State) : (judgeLoopHold s).loop.state = s.loop.state :=
  congrArg (·.loop.state) (judgeLoopHold_eq s)

/-- R16: asserted at the high mark or above while released, released at the low mark or below. -/
theorem judgeLoopHold_hold (s : State) :
    (judgeLoopHold s).loop.hold = true ↔
      (s.loop.hold = false ∧ s.loop.cfg.highMark ≤ s.occupancy) ∨
        (s.loop.hold = true ∧ s.loop.cfg.lowMark < s.occupancy) := by
  unfold judgeLoopHold
  split
  · next h => simp [h.1, h.2]
  · next h =>
    split
    · next h' => simp [h'.1, h'.2]
    · next h' => cases hh : s.loop.hold <;> simp_all

/-- R16: LOOP_HOLD is raised where the hold comes to be asserted. -/
theorem judgeLoopHold_flagged {s : State} (h : s.loop.hold = false)
    (ha : (judgeLoopHold s).loop.hold = true) : (judgeLoopHold s).flagged .shore .loopHold = true := by
  have hm : s.loop.cfg.highMark ≤ s.occupancy := by simpa [h] using (judgeLoopHold_hold s).mp ha
  rw [judgeLoopHold, if_pos ⟨h, hm⟩]
  exact flagged_raise _ (Scope.names_shore _) _

/-- What an accepted CONFIGURE LOOP for `t` trays stores, before the loop hold is judged (R2, R3). -/
def State.reconfigured (t : Nat) (cfg : LoopConfig) (s : State) : State :=
  let s1 := if t ≠ s.T then rebuildTrays t s else s
  { s1 with loop := { s1.loop with cfg := cfg } }

section Reconfigured
variable (t : Nat) (cfg : LoopConfig) (s : State)

theorem reconfigured_eq :
    s.reconfigured t cfg = { s with
      loop := (s.reconfigured t cfg).loop, inds := (s.reconfigured t cfg).inds } := by
  unfold State.reconfigured
  split <;> rfl

theorem reconfigured_cfg : (s.reconfigured t cfg).loop.cfg = cfg := rfl

theorem reconfigured_hold : (s.reconfigured t cfg).loop.hold = s.loop.hold := by
  unfold State.reconfigured
  split <;> rfl

theorem reconfigured_state : (s.reconfigured t cfg).loop.state = s.loop.state := by
  unfold State.reconfigured
  split <;> rfl

theorem reconfigured_T : (s.reconfigured t cfg).T = t := by
  unfold State.reconfigured
  split
  · exact List.length_replicate
  · next h => exact (not_not.mp h).symm

theorem reconfigured_same (h : t = s.T) :
    (s.reconfigured t cfg).loop.trays = s.loop.trays ∧ (s.reconfigured t cfg).loop.pos = s.loop.pos ∧
      (s.reconfigured t cfg).inds = s.inds := by
  rw [State.reconfigured, if_neg (not_not.mpr h)]
  exact ⟨rfl, rfl, rfl⟩

theorem reconfigured_rebuilt (h : t ≠ s.T) :
    (s.reconfigured t cfg).loop.trays = List.replicate t .empty ∧ (s.reconfigured t cfg).loop.pos = 0 ∧
      (s.reconfigured t cfg).loop.homeMiss = 0 ∧
      ∀ i, (s.reconfigured t cfg).ind i =
        { s.ind i with windows := [], reservation := (s.ind i).reservation.rebuild } := by
  rw [State.reconfigured, if_pos h]
  exact ⟨rfl, rfl, rfl, rebuildTrays_ind t s⟩

end Reconfigured

/-- An accepted CONFIGURE LOOP: the loop stays in STOPPED, and so no HOLD and no RESUME is sent. -/
theorem configureLoop_accepted {p : Payload} {s : State} (hst : s.loop.state = .stopped)
    (hlo : 64 ≤ u16 p 0) (hhi : u16 p 0 ≤ 512)
    (hT : u16 p 0 = s.T ∨ (s.someOccupied = false ∧ s.offsetBeyond (u16 p 0) = false)) :
    configureLoop p s =
      .ok (judgeLoopHold (s.reconfigured (u16 p 0) ((requestedConfig p).clamped (u16 p 0))),
        { accepted := false, clamped := (requestedConfig p).clamped (u16 p 0) ≠ requestedConfig p
          payload := [] }) := by
  have hocc : ¬ (u16 p 0 ≠ s.T ∧ s.someOccupied = true) := by
    rcases hT with h | ⟨h, -⟩ <;> simp [h]
  have hoff : ¬ (u16 p 0 ≠ s.T ∧ s.offsetBeyond (u16 p 0) = true) := by
    rcases hT with h | ⟨-, h⟩ <;> simp [h]
  have hsettle := settleHolds_atRest (v := s)
    (u := judgeLoopHold (s.reconfigured (u16 p 0) ((requestedConfig p).clamped (u16 p 0))))
    ((atRest_iff s).mpr (.inl hst))
    ((atRest_iff _).mpr (.inl ((judgeLoopHold_state _).trans ((reconfigured_state _ _ s).trans hst))))
  rw [configureLoop, if_neg (not_not.mpr hst), if_neg (by omega), if_neg hocc, if_neg hoff, ← hsettle]
  rfl

/-- Settles O40. -/
theorem configureLoopClampsAndStores : Obligations.configureLoopClampsAndStores := by
  refine fun l p s h => ⟨fun hst => exec_refusedWith h (if_pos hst), fun hst hlo hhi hT => ?_⟩
  have hcfg := clamped_requestedConfig (u16 p 0) p
  have hok := takeRequest_accepted (own := Command.own .configureLoop l p) h
    (configureLoop_accepted hst hlo hhi hT)
  dsimp only at hcfg ⊢
  rw [← hcfg]
  generalize hc : (requestedConfig p).clamped (u16 p 0) = cfg at *
  have hu := judgeLoopHold_eq (s.reconfigured (u16 p 0) cfg)
  have hhold := judgeLoopHold_hold (s.reconfigured (u16 p 0) cfg)
  have hflag := @judgeLoopHold_flagged (s.reconfigured (u16 p 0) cfg)
  generalize judgeLoopHold (s.reconfigured (u16 p 0) cfg) = u at *
  have hocc : u.occupancy = (s.reconfigured (u16 p 0) cfg).occupancy := by rw [hu]; rfl
  rw [reconfigured_hold, reconfigured_cfg, ← hocc, ← hc] at hhold
  have hloop := congrArg State.loop hu
  have hinds := congrArg State.inds hu
  refine ⟨u, ?_, ?_, congrArg Loop.cfg hloop, ?_, ?_, ?_, ?_, fun hs => ?_, fun hs => ?_⟩
  · refine congrArg Host.Outcome.next (hok.trans ?_)
    by_cases hreq : cfg = requestedConfig p <;> simp [responseBytes, hreq, Command.code]
  · rw [hu, reconfigured_eq]
  · exact (congrArg (·.trays.length) hloop).trans (reconfigured_T (u16 p 0) cfg s)
  · exact (congrArg Loop.state hloop).trans ((reconfigured_state _ cfg s).trans hst)
  · rw [hhold]; simp [requestedConfig, LoopConfig.clamped, clampTo]
  · rwa [reconfigured_hold] at hflag
  · obtain ⟨htrays, hpos, hi⟩ := reconfigured_same (u16 p 0) cfg s hs
    exact ⟨(congrArg Loop.trays hloop).trans htrays, (congrArg Loop.pos hloop).trans hpos, hinds.trans hi⟩
  · obtain ⟨htrays, hpos, hmiss, hi⟩ := reconfigured_rebuilt (u16 p 0) cfg s hs
    refine ⟨(congrArg Loop.trays hloop).trans htrays, (congrArg Loop.pos hloop).trans hpos,
      (congrArg Loop.homeMiss hloop).trans hmiss, fun i => ?_⟩
    rw [show u.ind i = _ from (congrArg (PerInd.get · i) hinds).trans (hi i)]
    exact ⟨rfl, rebuild_ne_granted _, rebuild_eq_requested⟩

end Sys2Proof.Machine
end

section
/-! O42. RESET LOOP (R25, R50, R74, R135, R164). -/

namespace Sys2Proof.Machine

/-- R25: the tables that RESET LOOP clears, before the notices and the slots are told. -/
def State.motionCleared (s : State) : State :=
  { s with
    loop :=
      { s.loop with
        state := .stopped, pos := 0, trays := List.replicate s.T .empty, homeMiss := 0
        hold := false, stallFrom := none, intervals := [] }
    inds :=
      { i0 := s.inds.i0.loopReset, i1 := s.inds.i1.loopReset, i2 := s.inds.i2.loopReset
        i3 := s.inds.i3.loopReset }
    pool := s.pool.map (·.loopReset)
    chutes := s.chutes.map (·.loopReset)
    blocked := []
    fireQueue := []
    strays := s.strays.map (·.loopReset (s.loop.trays.filterMap fun x => x.bag.bind (·.strayId))) }

theorem eq_of_sansSlots {s t : State} (h : t.sansSlots = s.sansSlots) :
    t = { s with slots := t.slots, notices := t.notices } := by
  cases s; cases t; simp_all [State.sansSlots]

theorem judgeStrayArmed_eq (s : State) :
    judgeStrayArmed s = { s with strayArmed := (judgeStrayArmed s).strayArmed } := by
  unfold judgeStrayArmed
  split <;> rfl

theorem raiseUntracked_frame (v s : State) : (raiseUntracked v s).sansNotices = s.sansNotices := by
  unfold raiseUntracked
  rw [raiseIf_frame, raiseIf_frame]

theorem raiseUntracked_sansSlots (v s : State) : (raiseUntracked v s).sansSlots = s.sansSlots :=
  (congrArg State.sansSlots (raiseUntracked_frame v s) :)

theorem raiseUntracked_moves (v s : State) : s.Moves (raiseUntracked v s) :=
  (raiseIf_moves ..).trans (raiseIf_moves ..)

/-- R12, R25: BAG_UNTRACKED in the scope of each slot that had a bag on the loop. -/
theorem raiseUntracked_flagged {v : State} {sl : Slot} (h : 0 < v.onLoop sl) (s : State) :
    (raiseUntracked v s).flagged (slotLink sl) .bagUntracked = true := by
  have hraise : ∀ u : State, (raiseIf (0 < v.onLoop sl) .bagUntracked (.slot sl) u).flagged
      (slotLink sl) .bagUntracked = true := fun u => by
    rw [raiseIf, if_pos (by simpa using h)]
    exact flagged_raise _ (Scope.names_slotLink sl) u
  cases sl with
  | a => exact (raiseIf_moves ..).flags _ _ (hraise s)
  | b => exact hraise _

/-- R86: CUTOFF_COMPLETE at a report of 0 for a slot in CLOSING. -/
theorem reportZero_flagged {sl : Slot} {s : State} (h : (s.slot sl).state = .closing) :
    (reportZero sl s).flagged (slotLink sl) .cutoffComplete = true := by
  rw [reportZero, if_pos h]
  exact flagged_raise _ (Scope.names_slotLink sl) _

/-- The state after RESET LOOP has told the slots and the links, before R132 judges the armed flag. -/
def State.motionTold (s : State) : State :=
  reportZero .b (reportZero .a (raiseUntracked s s.motionCleared))

theorem resetMotion_def (s : State) : resetMotion s = judgeStrayArmed s.motionTold := rfl

theorem motionTold_eq (s : State) :
    s.motionTold = { s.motionCleared with slots := s.motionTold.slots, notices := s.motionTold.notices } := by
  refine eq_of_sansSlots ?_
  rw [State.motionTold, reportZero_frame, reportZero_frame, raiseUntracked_sansSlots]

theorem resetMotion_eq (s : State) :
    resetMotion s = { s.motionCleared with
      slots := s.motionTold.slots, strayArmed := (resetMotion s).strayArmed
      notices := s.motionTold.notices } := by
  rw [resetMotion_def]
  exact (judgeStrayArmed_eq s.motionTold).trans
    (congrArg (fun u => { u with strayArmed := (judgeStrayArmed s.motionTold).strayArmed })
      (motionTold_eq s))

theorem motionCleared_told_slot (s : State) (sl : Slot) :
    (raiseUntracked s s.motionCleared).slot sl = s.slot sl :=
  (congrArg (State.slot · sl) (raiseUntracked_frame s s.motionCleared) :)

/-- R25, R86: every slot in CLOSING closes, the others stand. -/
theorem motionTold_slot_state (s : State) (sl : Slot) :
    (s.motionTold.slot sl).state =
      if (s.slot sl).state = .closing then .closed else (s.slot sl).state := by
  have h := motionCleared_told_slot s
  rw [State.motionTold, reportZero_slot, reportZero_slot, reportZero_slot, h, h, h]
  cases sl with
  | a => by_cases hc : (s.slot .a).state = .closing <;> simp [hc]
  | b => by_cases hc : (s.slot .b).state = .closing <;> simp [hc]

theorem motionTold_flagged (s : State) (sl : Slot) :
    (0 < s.onLoop sl → s.motionTold.flagged (slotLink sl) .bagUntracked = true) ∧
      ((s.slot sl).state = .closing → s.motionTold.flagged (slotLink sl) .cutoffComplete = true) := by
  have h := motionCleared_told_slot s
  refine ⟨fun hon => ?_, fun hc => ?_⟩
  · exact ((reportZero_moves ..).trans (reportZero_moves ..)).flags _ _ (raiseUntracked_flagged hon _)
  · cases sl with
    | a => exact (reportZero_moves ..).flags _ _ (reportZero_flagged ((congrArg _ (h .a)).trans hc))
    | b =>
      refine reportZero_flagged ?_
      rw [reportZero_slot, if_neg (by simp), h]
      exact hc

/-- R50: the induction records that RESET LOOP leaves. -/
theorem motionCleared_ind (s : State) (i : IndId) : s.motionCleared.ind i = (s.ind i).loopReset := by
  cases i <;> rfl

/-- R74. -/
theorem BagEntry.loopReset_eq (e : BagEntry) :
    e.loopReset = if e.status.isOnLoop then { e with status := .untracked } else e := by
  unfold BagEntry.loopReset
  cases e.status <;> rfl

/-- The stray ids that the bag records on the loop carry. -/
theorem contains_carriedIds (trays : List Tray) (id : BitVec 16) :
    (trays.filterMap fun x => x.bag.bind (·.strayId)).contains id = true ↔
      ∃ x ∈ trays, x.bag.bind (·.strayId) = some id := by
  simp [List.mem_filterMap]

/-- Settles O42: between two states of a loop at rest no HOLD or RESUME is sent. -/
theorem resetLoopClearsTheMotion : Obligations.resetLoopClearsTheMotion := by
  refine fun l p s h => ⟨fun hst => exec_refusedWith h (if_neg ?_), fun hst => ?_⟩
  · rcases hst with hst | hst <;> simp [hst]
  have hu := resetMotion_eq s
  have hsettle : settleHolds s (resetMotion s) = resetMotion s :=
    settleHolds_atRest ((atRest_iff s).mpr hst)
      ((atRest_iff _).mpr (.inl (congrArg (·.loop.state) hu)))
  refine ⟨resetMotion s, exec_answeredOk h ((if_pos hst).trans (by rw [hsettle])), ?_⟩
  generalize resetMotion s = u at *
  have hloop := congrArg State.loop hu
  have hnotices := congrArg State.notices hu
  have hslots := congrArg State.slots hu
  refine ⟨?_, congrArg Loop.state hloop, congrArg Loop.pos hloop, congrArg Loop.homeMiss hloop,
    congrArg Loop.hold hloop, congrArg Loop.stallFrom hloop, (congrArg Loop.cfg hloop :),
    congrArg Loop.trays hloop, fun i => ?_, fun c => ?_, ?_, ?_, fun sl => ?_, fun sl => ?_⟩
  · rw [hu]; rfl
  · rw [show u.ind i = _ from (congrArg (State.ind · i) hu).trans (motionCleared_ind s i)]
    exact ⟨rfl, rfl, rfl, rfl, rfl, rfl, rfl, rfl, rfl⟩
  · exact (congrArg (State.chute · c) hu).trans (Vector.get_map s.chutes _ c)
  · exact (congrArg State.pool hu).trans (List.map_congr_left fun e _ => e.loopReset_eq)
  · refine (congrArg State.strays hu).trans (List.map_congr_left fun e _ => ?_)
    simp only [StrayEntry.loopReset, contains_carriedIds]
  · rw [← motionTold_slot_state]
    exact congrArg (fun v => (v.get sl).state) hslots
  · have hflag : ∀ n, u.flagged (slotLink sl) n = s.motionTold.flagged (slotLink sl) n := fun n => by
      rw [State.flagged, State.flagged, hnotices]
    rw [hflag, hflag]
    exact motionTold_flagged s sl

end Sys2Proof.Machine
end

section
/-! SUPPORT. What a selection, a stray recorded and an orphan bag leave at the tray they are about, and that no
other tray changes (R18, R101, R120, R155). -/

namespace Sys2Proof.Machine

/-! ### Selection -/

/-- A selection that ends with no chute reaches the judged lists and the notices alone (R121, R130, R132). -/
theorem noChute_eq (d : Dest) (u : Nat) (s : State) :
    noChute d u s = { s with
      blocked := (noChute d u s).blocked, strayArmed := (noChute d u s).strayArmed
      notices := (noChute d u s).notices } := by
  unfold noChute
  split
  · rfl
  · split
    · unfold blockedSelection raiseIf
      split
      · dsimp only; split <;> rfl
      · split <;> rfl
    · split <;> rfl

/-- R120: the tray becomes SELECTED for a chute whose committed units rise, or a selection ends with no
chute, or the bag is not selected at all. -/
theorem passToSelection_cases (t : Nat) (s : State) :
    (∃ (b : BagRecord) (k : Choice), s.tray t = .loaded b ∧ passToSelection t s =
      modChute k.chute (fun x => { x with committed := x.committed + unitsOf b.size })
        (putTray t (.selected b k.chute k.arm k.d) s)) ∨
    passToSelection t s = { s with
      blocked := (passToSelection t s).blocked, strayArmed := (passToSelection t s).strayArmed
      notices := (passToSelection t s).notices } := by
  unfold passToSelection
  split
  case h_1 b hb =>
    split
    · split
      · exact .inl ⟨b, _, hb, rfl⟩
      · exact .inr (noChute_eq ..)
    · exact .inr rfl
  all_goals exact .inr rfl

/-- What stands at a selection: the inductions, the bag entries, the fire queue. -/
theorem passToSelection_keeps (t : Nat) (s : State) :
    (passToSelection t s).inds = s.inds ∧ (passToSelection t s).pool = s.pool ∧
      (passToSelection t s).fireQueue = s.fireQueue := by
  rcases passToSelection_cases t s with ⟨b, k, -, h⟩ | h
  · have hf := modChute_frame k.chute (fun x => { x with committed := x.committed + unitsOf b.size })
      (putTray t (.selected b k.chute k.arm k.d) s)
    rw [h]
    exact ⟨(congrArg State.inds hf :), (congrArg State.pool hf :), (congrArg State.fireQueue hf :)⟩
  · rw [h]
    exact ⟨rfl, rfl, rfl⟩

/-- The tray passed is SELECTED with the bag it carried, or stands; the other trays stand. -/
theorem passToSelection_trays (t : Nat) (s : State) :
    (passToSelection t s).loop.trays = s.loop.trays ∨
      ∃ b c a d, s.tray t = .loaded b ∧
        (passToSelection t s).loop.trays = s.loop.trays.set t (.selected b c a d) := by
  rcases passToSelection_cases t s with ⟨b, k, hb, h⟩ | h
  · refine .inr ⟨b, k.chute, k.arm, k.d, hb, ?_⟩
    rw [h, modChute_loop]
    rfl
  · exact .inl (congrArg (·.loop.trays) h)

theorem passToSelection_tray_ne {t k : Nat} (h : k ≠ t) (s : State) :
    (passToSelection t s).tray k = s.tray k := by
  rcases passToSelection_trays t s with ht | ⟨b, c, a, d, -, ht⟩
  · rw [State.tray, ht]; rfl
  · rw [tray_of_set ht, if_neg fun e => h e.1]

theorem tray_loaded_lt {s : State} {t : Nat} {b : BagRecord} (h : s.tray t = .loaded b) : t < s.T := by
  by_contra hle
  rw [tray_of_le (not_lt.mp hle)] at h
  cases h

theorem passToSelection_tray {s : State} {t : Nat} {b : BagRecord} (h : s.tray t = .loaded b) :
    (passToSelection t s).tray t = .loaded b ∨
      ∃ c a d, (passToSelection t s).tray t = .selected b c a d := by
  rcases passToSelection_trays t s with ht | ⟨b', c, a, d, hb, ht⟩
  · left; rw [← h, State.tray, ht]; rfl
  · obtain rfl : b = b' := by rw [h] at hb; exact Tray.loaded.inj hb
    exact .inr ⟨c, a, d, by rw [tray_of_set ht, if_pos ⟨rfl, tray_loaded_lt h⟩]⟩

/-- A selection leaves every bag record on its tray. -/
theorem passToSelection_bag (t k : Nat) (s : State) :
    ((passToSelection t s).tray k).bag = (s.tray k).bag := by
  rcases passToSelection_trays t s with ht | ⟨b, c, a, d, hb, ht⟩
  · rw [State.tray, ht]; rfl
  · rw [tray_of_set ht]
    split
    · next hk => rw [hk.1, hb]; rfl
    · rfl

/-- A selection changes no field of a chute record but its committed units (R122). -/
theorem passToSelection_chute (t : Nat) (s : State) (c : ChuteId) :
    ∃ n, (passToSelection t s).chute c = { s.chute c with committed := n } := by
  rcases passToSelection_cases t s with ⟨b, k, -, h⟩ | h
  · rw [h, chute_set _ c _ (modChute_chutes ..)]
    split
    · next hc => subst hc; exact ⟨_, rfl⟩
    · exact ⟨_, rfl⟩
  · rw [h]
    exact ⟨_, rfl⟩

/-! ### Strays recorded and bags lost -/

theorem recordStray_loop (q : StrayRequest) (s : State) : (recordStray q s).state.loop = s.loop := by
  have h : (countStray q.slot s).loop = s.loop := (congrArg State.loop (countStray_frame q.slot s) :)
  unfold recordStray
  dsimp only
  split
  · exact h
  · split <;> exact h

theorem recordStray_pool (q : StrayRequest) (s : State) : (recordStray q s).state.pool = s.pool := by
  have h : (countStray q.slot s).pool = s.pool := (congrArg State.pool (countStray_frame q.slot s) :)
  unfold recordStray
  dsimp only
  split
  · exact h
  · split <;> exact h

@[simp] theorem Tray.bag_mapBag (f : BagRecord → BagRecord) (x : Tray) :
    (x.mapBag f).bag = x.bag.map f := by cases x <;> rfl

/-- The bag record of the tray rewritten; a number that names no tray reads as before. -/
theorem modBag_tray (t : Nat) (f : BagRecord → BagRecord) (s : State) :
    (modBag t f s).tray t = (s.tray t).mapBag f := by
  by_cases ht : t < s.T
  · exact putTray_tray t _ s ht
  · have h := tray_of_le (not_lt.mp ht)
    rw [tray_of_le (by simpa [modBag] using ht), h]
    rfl

/-- R101: the bag of the tray is the stray recorded; no other tray changes. -/
theorem makeStray_tray (t : Nat) (q : StrayRequest) (s : State) :
    (makeStray t q s).state.tray t = (s.tray t).mapBag fun b =>
      { b with cls := .stray q.cause, strayId := (recordStray q s).id, entryLink := none } := by
  refine (modBag_tray ..).trans ?_
  rw [State.tray, State.tray, recordStray_loop]

theorem makeStray_tray_ne {t k : Nat} (h : k ≠ t) (q : StrayRequest) (s : State) :
    (makeStray t q s).state.tray k = s.tray k := by
  refine (putTray_tray_ne t k _ (recordStray q s).state h).trans ?_
  rw [State.tray, State.tray, recordStray_loop]

theorem makeStray_pool (t : Nat) (q : StrayRequest) (s : State) :
    (makeStray t q s).state.pool = s.pool := recordStray_pool q s

theorem strayUntracked_eq (id : Option (BitVec 16)) (s : State) :
    strayUntracked id s = { s with strays := (strayUntracked id s).strays } := by
  unfold strayUntracked
  split <;> rfl

/-- R12, R20, R164: losing a bag reaches its entry and its stray entry alone. -/
theorem loseBag_eq (b : BagRecord) (s : State) :
    loseBag b s = { s with pool := (loseBag b s).pool, strays := (loseBag b s).strays } := by
  unfold loseBag strayUntracked
  cases b.entryLink <;> cases b.strayId <;> rfl

theorem strayUntracked_pool (id : Option (BitVec 16)) (s : State) :
    (strayUntracked id s).pool = s.pool := by
  rw [strayUntracked_eq]

/-- Untrack (Table 3-4): an ON_LOOP entry becomes UNTRACKED, as at RESET LOOP (R74). -/
theorem untrackEntry_entry (tag other : Tag) (s : State) :
    (untrackEntry tag s).entry other =
      if other = tag then (s.entry other).map BagEntry.loopReset else s.entry other := by
  unfold untrackEntry
  split
  · next h =>
    subst h
    rw [modEntry_entry_self]
    cases he : s.entry other with
    | none => rfl
    | some e =>
      have htag := (findEntry_some he).1
      simp only [Option.map_some, BagEntry.loopReset]
      cases hst : e.status <;> simp [← htag]
  · next h => exact modEntry_entry_ne h _ s

theorem loseBag_entry (b : BagRecord) (tag : Tag) (s : State) :
    (loseBag b s).entry tag =
      if b.entryLink = some tag then (s.entry tag).map BagEntry.loopReset else s.entry tag := by
  rw [State.entry, loseBag, strayUntracked_pool]
  cases hb : b.entryLink with
  | none => simp [State.entry]
  | some u =>
    refine (untrackEntry_entry u tag s).trans ?_
    by_cases h : tag = u
    · simp [h]
    · simp [h, Ne.symm h]

/-! ### An orphan bag -/

/-- R18, R23: what an orphan bag at the check eye leaves: its record on the tray, LOADED or SELECTED, and
nothing else that a bag or a launch window holds. -/
structure OrphanLoaded (t : Nat) (s u : State) : Prop where
  tray : ∃ id, u.tray t = .loaded { orphanBag with strayId := id } ∨
    ∃ c a d, u.tray t = .selected { orphanBag with strayId := id } c a d
  others : ∀ k, k ≠ t → u.tray k = s.tray k
  fires : u.fireQueue = s.fireQueue
  pool : u.pool = s.pool
  windows : ∀ i, (u.ind i).windows = (s.ind i).windows

theorem loadOrphan_loaded {t : Nat} {s : State} (ht : t < s.T) : OrphanLoaded t s (loadOrphan t s) := by
  unfold loadOrphan
  have htrays := loadTray_trays t orphanBag s
  have hframe := loadTray_frame t orphanBag s
  have hT : (loadTray t orphanBag s).T = s.T := (loadTray_moves ..).trays
  generalize loadTray t orphanBag s = v at *
  generalize hq : StrayRequest.mk .lostTrack none none none none = q
  have hv : v.tray t = .loaded orphanBag := by rw [tray_of_set htrays, if_pos ⟨rfl, ht⟩]
  have hm := makeStray_frame t q v
  obtain ⟨hinds, hpool, hfires⟩ := passToSelection_keeps t (makeStray t q v).state
  have hloaded : (makeStray t q v).state.tray t =
      .loaded { orphanBag with strayId := (recordStray q v).id } := by
    rw [makeStray_tray, hv, ← hq]; rfl
  refine ⟨⟨_, passToSelection_tray hloaded⟩, fun k hk => ?_, ?_, ?_, fun i => ?_⟩
  · rw [passToSelection_tray_ne hk, makeStray_tray_ne hk, tray_of_set htrays, if_neg fun e => hk e.1]
  · exact hfires.trans ((congrArg State.fireQueue hm :).trans (congrArg State.fireQueue hframe :))
  · exact hpool.trans ((makeStray_pool t q v).trans (congrArg State.pool hframe :))
  · have := hinds.trans ((congrArg State.inds hm :).trans (congrArg State.inds hframe :))
    rw [State.ind, this]; rfl

theorem loseReservation_windows (i k : IndId) (t : Nat) (s : State) :
    ((loseReservation i t s).ind k).windows = (s.ind k).windows := by
  unfold loseReservation
  split
  · rw [modInd_ind_eq]; split <;> rfl
  · rfl

theorem orphanFound_loaded {t : Nat} {s : State} (ht : t < s.T) : OrphanLoaded t s (orphanFound t s) := by
  have key : ∀ v : State, v.sansInds = s.sansInds → (∀ i, (v.ind i).windows = (s.ind i).windows) →
      OrphanLoaded t s (loadOrphan t (raise .orphanBag .hall v)) := by
    intro v hv hwin
    have hloop : v.loop = s.loop := (congrArg State.loop hv :)
    have hT : v.T = s.T := congrArg (·.trays.length) hloop
    have h := loadOrphan_loaded (t := t) (s := raise .orphanBag .hall v) (hT ▸ ht)
    exact ⟨h.tray, fun k hk => (h.others k hk).trans (congrArg (·.trays.getD k .empty) hloop),
      h.fires.trans (congrArg State.fireQueue hv :), h.pool.trans (congrArg State.pool hv :),
      fun i => (h.windows i).trans (hwin i)⟩
  unfold orphanFound
  dsimp only
  split
  case h_1 i _ => exact key _ (loseReservation_frame i t s) fun k => loseReservation_windows i k t s
  all_goals exact key s rfl fun _ => rfl

end Sys2Proof.Machine
end

section
/-! SUPPORT. The loop's own part of a pitch event (R5, R7, R10). -/

namespace Sys2Proof.Machine

/-- P advances and the timing is set; the trays, the values, the misses and the hold stand. -/
theorem pitchLoop_loop (s : State) :
    (pitchLoop s).loop = { (pitchLoop s).loop with
      trays := s.loop.trays, cfg := s.loop.cfg, homeMiss := s.loop.homeMiss, hold := s.loop.hold
      pos := (s.loop.pos + 1) % s.T, pitchTime := some s.clock.tick, stallFrom := some s.clock.tick } := by
  unfold pitchLoop
  dsimp only
  split
  · rfl
  · unfold Loop.measure
    split <;> rfl

theorem pitchLoop_trays (s : State) : (pitchLoop s).loop.trays = s.loop.trays :=
  (congrArg Loop.trays (pitchLoop_loop s) :)

theorem pitchLoop_pos (s : State) : (pitchLoop s).loop.pos = (s.loop.pos + 1) % s.T :=
  (congrArg Loop.pos (pitchLoop_loop s) :)

theorem pitchLoop_T (s : State) : (pitchLoop s).T = s.T := congrArg List.length (pitchLoop_trays s)

/-- The state in which a pitch event finds home to agree or not: P advanced, the holds settled. -/
def State.pitched (s : State) : State := settleHolds (drawOrder s) (pitchLoop (drawOrder s))

theorem pitched_eq (s : State) :
    s.pitched = { s with
      freeCount := s.freeCount + 1, loop := (pitchLoop s).loop, inds := s.pitched.inds } := by
  rw [State.pitched, settleHolds_eq]; rfl

theorem pitched_loop (s : State) : s.pitched.loop = (pitchLoop s).loop :=
  (congrArg State.loop (pitched_eq s) :)

theorem pitched_T (s : State) : s.pitched.T = s.T :=
  (congrArg (·.trays.length) (pitched_loop s)).trans (pitchLoop_T s)

/-- PITCH_EVENT in STOPPED: the edge is ignored (R8). -/
theorem exec_pitchEvent_stopped {s : State} (h : s.loop.state = .stopped) (home check : Bool) :
    exec (.pitchEvent home check) s = .next (drawOrder s) :=
  congrArg Host.Outcome.next (if_pos h)

/-- PITCH_EVENT where home is high and P is not 0: a track slip (R12). -/
theorem exec_pitchEvent_slip {s : State} (h : s.loop.state ≠ .stopped)
    (hp : (s.loop.pos + 1) % s.T ≠ 0) (check : Bool) :
    exec (.pitchEvent true check) s = .next (trackSlip check s.pitched) := by
  refine congrArg Host.Outcome.next ((if_neg h).trans (if_pos ⟨rfl, ?_⟩))
  rw [settleHolds_loop, pitchLoop_pos]
  exact hp

/-- PITCH_EVENT where home and P agree: the acts follow, in the order drawn (R10, log 1). -/
theorem exec_pitchEvent_agreed {s : State} (h : s.loop.state ≠ .stopped) {home : Bool}
    (hp : home = false ∨ (s.loop.pos + 1) % s.T = 0) (check : Bool) :
    exec (.pitchEvent home check) s =
      .next (pitchActs s.loop.hold s.loop.firstPitch (Config.freeOrder s.freeCount) check
        (homeSample home s.pitched)) := by
  refine congrArg Host.Outcome.next ((if_neg h).trans (if_neg ?_))
  rintro ⟨hh, hpos⟩
  rw [settleHolds_loop, pitchLoop_pos] at hpos
  exact hp.elim (fun e => by simp [e] at hh) hpos

end Sys2Proof.Machine
end

section
/-! O19. The track slip (R12). -/

namespace Sys2Proof.Machine

/-- R12 steps 1 and 2: selections and windows dropped, every tray with a bag SUSPECT, P at tray 0. -/
def State.slipCleared (s : State) : State :=
  let s1 := s.loop.trays.foldl slipUnits (dropWindows { s with fireQueue := [] })
  { s1 with loop := { s1.loop with trays := s1.loop.trays.map slipTray, pos := 0, homeMiss := 0 } }

/-- R12: every bag lost at its entry and its stray entry. -/
def State.slipLost (s : State) : State :=
  (s.loop.trays.filterMap (·.bag)).foldl (fun s b => loseBag b s) s.slipCleared

/-- R12: the counts of 0 reported. -/
def State.slipReported (s : State) : State :=
  (if 0 < s.onLoop .b then reportZero .b else id) ((if 0 < s.onLoop .a then reportZero .a else id) s.slipLost)

theorem slipTrays_def (s : State) :
    slipTrays s = raiseUntracked s (raise .trackSlip .hall s.slipReported) := rfl

theorem slipUnits_frame (s : State) (x : Tray) : (slipUnits s x).sansChutes = s.sansChutes := by
  unfold slipUnits
  split
  case h_1 => exact returnCommitted_frame ..
  case h_2 => exact returnCommitted_frame ..
  all_goals rfl

theorem slipCleared_frame (s : State) :
    s.slipCleared.sansChutes = State.sansChutes
      { dropWindows { s with fireQueue := [] } with
        loop := { s.loop with trays := s.loop.trays.map slipTray, pos := 0, homeMiss := 0 } } := by
  have h := foldl_keeps State.sansChutes slipUnits slipUnits_frame s.loop.trays
    (dropWindows { s with fireQueue := [] })
  exact (congrArg (fun u : State => State.sansChutes
    { u with loop := { u.loop with trays := u.loop.trays.map slipTray, pos := 0, homeMiss := 0 } }) h :)

theorem reportZero_if_frame {p : Prop} [Decidable p] (sl : Slot) (s : State) :
    ((if p then reportZero sl else id) s).sansSlots = s.sansSlots := by
  split
  · exact reportZero_frame sl s
  · rfl

theorem slipReported_frame (s : State) : s.slipReported.sansSlots = s.slipLost.sansSlots :=
  (reportZero_if_frame ..).trans (reportZero_if_frame ..)

/-- After the entries are lost only the slots and the notices are told. -/
theorem slipTrays_frame (s : State) : (slipTrays s).sansSlots = s.slipLost.sansSlots := by
  rw [slipTrays_def, raiseUntracked_sansSlots, ← slipReported_frame]
  rfl

theorem slipLost_keeps {β : Type} (m : State → β) (h : ∀ s b, m (loseBag b s) = m s) (s : State) :
    m s.slipLost = m s.slipCleared := foldl_keeps m _ h _ _

theorem slipTrays_loop (s : State) : (slipTrays s).loop =
    { s.loop with trays := s.loop.trays.map slipTray, pos := 0, homeMiss := 0 } :=
  (congrArg State.loop (slipTrays_frame s) :).trans
    ((slipLost_keeps State.loop (fun s b => (congrArg State.loop (loseBag_eq b s) :)) s).trans
      (congrArg State.loop (slipCleared_frame s) :))

theorem slipTrays_fireQueue (s : State) : (slipTrays s).fireQueue = [] :=
  (congrArg State.fireQueue (slipTrays_frame s) :).trans
    ((slipLost_keeps State.fireQueue (fun s b => (congrArg State.fireQueue (loseBag_eq b s) :)) s).trans
      (congrArg State.fireQueue (slipCleared_frame s) :))

theorem slipTrays_ind (s : State) (i : IndId) : (slipTrays s).ind i = { s.ind i with windows := [] } :=
  (congrArg (State.ind · i) (slipTrays_frame s) :).trans
    ((slipLost_keeps (State.ind · i) (fun s b => (congrArg (State.ind · i) (loseBag_eq b s) :)) s).trans
      ((congrArg (State.ind · i) (slipCleared_frame s) :).trans (dropWindows_ind _ i)))

theorem foldl_loseBag_entry (bags : List BagRecord) (tag : Tag) (s : State) :
    (bags.foldl (fun s b => loseBag b s) s).entry tag =
      if ∃ b ∈ bags, b.entryLink = some tag then (s.entry tag).map BagEntry.loopReset else s.entry tag := by
  induction bags generalizing s with
  | nil => simp
  | cons b r ih =>
    rw [List.foldl_cons, ih, loseBag_entry]
    have hidem : ∀ e : BagEntry, e.loopReset.loopReset = e.loopReset := by
      intro e
      unfold BagEntry.loopReset
      cases h : e.status <;> simp [h]
    by_cases hb : b.entryLink = some tag
    · cases s.entry tag <;> simp [hb, hidem]
    · simp [hb]

/-- R12: the entry that a bag on the loop links becomes UNTRACKED where it was ON_LOOP. -/
theorem slipTrays_entry {s : State} {k : Nat} {b : BagRecord} {tag : Tag} (hb : (s.tray k).bag = some b)
    (hl : b.entryLink = some tag) :
    (slipTrays s).entry tag = (s.entry tag).map BagEntry.loopReset := by
  have hk : k < s.T := by
    by_contra hle
    rw [tray_of_le (not_lt.mp hle)] at hb
    cases hb
  have hmem : b ∈ s.loop.trays.filterMap (·.bag) := by
    refine List.mem_filterMap.mpr ⟨s.tray k, ?_, hb⟩
    rw [State.tray, List.getD_eq_getElem _ _ hk]
    exact List.getElem_mem hk
  have hpool : s.slipCleared.entry tag = s.entry tag :=
    (congrArg (State.entry · tag) (slipCleared_frame s) :).trans
      (congrArg (State.entry · tag) (dropWindows_frame { s with fireQueue := [] }) :)
  refine (congrArg (State.entry · tag) (slipTrays_frame s) :).trans ?_
  exact (foldl_loseBag_entry ..).trans ((if_pos ⟨b, hmem, hl⟩).trans (by rw [hpool]))

theorem slipTrays_flagged (s : State) :
    (slipTrays s).flagged .shore .trackSlip = true ∧
      ∀ sl, 0 < s.onLoop sl → (slipTrays s).flagged (slotLink sl) .bagUntracked = true :=
  ⟨(raiseUntracked_moves ..).flags _ _ (flagged_raise _ (Scope.names_shore _) _),
    fun _ h => raiseUntracked_flagged h _⟩

theorem slipTrays_tray (s : State) (k : Nat) :
    (slipTrays s).tray k = if (s.tray k).bag.isSome then .suspect else s.tray k := by
  have h : (slipTrays s).tray k = slipTray (s.tray k) := by
    rw [State.tray, slipTrays_loop, State.tray, List.getD_eq_getElem?_getD, List.getElem?_map,
      List.getD_eq_getElem?_getD]
    cases s.loop.trays[k]? <;> rfl
  rw [h, slipTray]

/-! ### A tray without a bag at the check eye (R18, R23) -/

/-- What stands when a tray without a bag record is settled: the other trays, the fire queue, the bag
entries and the launch windows. -/
theorem settleRow_noBag {t : Nat} {s : State} (ht : t < s.T) (hbag : (s.tray t).bag = none) (eye : Bool) :
    (∀ k, k ≠ t → (settleRow t eye s).tray k = s.tray k) ∧ (settleRow t eye s).fireQueue = s.fireQueue ∧
      (settleRow t eye s).pool = s.pool ∧
      ∀ i, ((settleRow t eye s).ind i).windows = (s.ind i).windows := by
  have horphan : ∀ u, OrphanLoaded t s u → (∀ k, k ≠ t → u.tray k = s.tray k) ∧
      u.fireQueue = s.fireQueue ∧ u.pool = s.pool ∧ ∀ i, (u.ind i).windows = (s.ind i).windows :=
    fun u h => ⟨h.others, h.fires, h.pool, h.windows⟩
  unfold settleRow
  split
  case h_1 =>
    split
    · exact horphan _ (orphanFound_loaded ht)
    · exact ⟨fun _ _ => rfl, rfl, rfl, fun _ => rfl⟩
  case h_2 =>
    split
    · exact horphan _ (orphanFound_loaded ht)
    · exact ⟨fun _ _ => rfl, rfl, rfl, fun _ => rfl⟩
  case h_7 =>
    split
    · exact horphan _ (loadOrphan_loaded ht)
    · have hf := emptyTray_frame t s
      refine ⟨fun k hk => ?_, (congrArg State.fireQueue hf :), (congrArg State.pool hf :), fun i =>
        (congrArg (fun u : State => (u.ind i).windows) hf :)⟩
      rw [tray_of_set (emptyTray_trays t s), if_neg fun e => hk e.1]
  all_goals next h => rw [h] at hbag; cases hbag

theorem emptyTray_tray {t : Nat} {s : State} (ht : t < s.T) : (emptyTray t s).tray t = .empty := by
  rw [tray_of_set (emptyTray_trays t s), if_pos ⟨rfl, ht⟩]

/-- R23: an empty check eye leaves an EMPTY or RESERVED tray, and empties a SUSPECT one. -/
theorem settleRow_noBag_clear {t : Nat} {s : State} (ht : t < s.T) (hbag : (s.tray t).bag = none) :
    (settleRow t false s).tray t = match s.tray t with
      | .reserved i => .reserved i
      | _ => .empty := by
  unfold settleRow
  cases h : s.tray t with
  | empty => exact h
  | reserved i => exact h
  | suspect => exact emptyTray_tray ht
  | _ => rw [h] at hbag; cases hbag

/-- R18, R23: a bag at the check eye on a tray without one is an orphan. -/
theorem settleRow_noBag_orphan {t : Nat} {s : State} (ht : t < s.T) (hbag : (s.tray t).bag = none) :
    OrphanLoaded t s (settleRow t true s) := by
  unfold settleRow
  cases h : s.tray t with
  | empty => exact orphanFound_loaded ht
  | reserved i => exact orphanFound_loaded ht
  | suspect => exact loadOrphan_loaded ht
  | _ => rw [h] at hbag; cases hbag

/-- Settles O19: tray 0 has no bag record once every tray has slipped, and is settled as such. -/
theorem trackSlipSuspectsEveryBag : Obligations.trackSlipSuspectsEveryBag := by
  intro check s hst hT hp
  refine ⟨_, exec_pitchEvent_slip hst hp check, ?_⟩
  have hs1 := pitched_eq s
  have hT1 := pitched_T s
  have htray : ∀ k, s.pitched.tray k = s.tray k := fun k => by
    rw [State.tray, pitched_loop, pitchLoop_trays]; rfl
  have hentry : ∀ tag, s.pitched.entry tag = s.entry tag := fun tag =>
    (congrArg (State.entry · tag) hs1 :)
  have honLoop : ∀ sl, s.pitched.onLoop sl = s.onLoop sl := fun sl => by
    rw [State.onLoop, pitched_loop, pitchLoop_trays]; rfl
  generalize s.pitched = s1 at *
  have hv0 := slipTrays_tray s1 0
  have hvT : (slipTrays s1).T = s.T :=
    ((congrArg (·.trays.length) (slipTrays_loop s1)).trans (List.length_map _)).trans hT1
  have hbag : ((slipTrays s1).tray 0).bag = none := by
    rw [hv0]
    split
    · rfl
    · next h => simpa using h
  have hclose : reconcile 0 check (slipTrays s1) = settleRow 0 check (slipTrays s1) := by
    rw [reconcile, closeLaunch_of_none]
    intro i w hw
    rw [slipTrays_ind] at hw
    cases hw
  have hframe := settleRow_frame 0 check (slipTrays s1)
  have hmoves := settleRow_moves 0 check (slipTrays s1)
  obtain ⟨hothers, hfires, hpool, hwindows⟩ := settleRow_noBag (hvT ▸ hT) hbag check
  rw [trackSlip, hclose]
  refine ⟨?_, ?_, ?_, ?_, fun i => ?_, fun k hk => ?_, fun hc => ?_, fun hc => ?_, ?_, ?_, fun sl hsl => ?_⟩
  · rw [settleHolds_loop]
    exact (congrArg (·.loop.pos) hframe :).trans (congrArg Loop.pos (slipTrays_loop s1))
  · rw [settleHolds_loop]
    exact (congrArg (·.loop.homeMiss) hframe :).trans (congrArg Loop.homeMiss (slipTrays_loop s1))
  · rw [settleHolds_T, hmoves.trays, hvT]
  · rw [settleHolds_fireQueue, hfires, slipTrays_fireQueue]
  · rw [settleHolds_ind, Induction.settled_windows, hwindows, slipTrays_ind]
  · rw [settleHolds_tray, hothers k (Nat.ne_of_gt hk), slipTrays_tray, htray]
  · rw [settleHolds_tray, hc, settleRow_noBag_clear (hvT ▸ hT) hbag, hv0, htray]
    cases s.tray 0 <;> rfl
  · rw [settleHolds_tray, hc]
    exact (settleRow_noBag_orphan (hvT ▸ hT) hbag).tray
  · intro k b tag e hb hl he hon
    rw [State.entry, settleHolds_pool, hpool]
    refine (slipTrays_entry ((congrArg Tray.bag (htray k)).trans hb) hl).trans ?_
    rw [hentry, he, Option.map_some, BagEntry.loopReset_eq, if_pos hon]
  · rw [settleHolds_flagged]
    exact hmoves.flags _ _ (slipTrays_flagged s1).1
  · rw [settleHolds_flagged]
    exact hmoves.flags _ _ ((slipTrays_flagged s1).2 sl (by rwa [honLoop]))

end Sys2Proof.Machine
end

section
/-! SUPPORT. What a new pass leaves of the bag and of the chutes (R19, R102, R105). -/

namespace Sys2Proof.Machine

/-! ### What a classification keeps of a bag -/

/-- The fields of a bag record that no classification writes. -/
structure BagRecord.SameBag (b b' : BagRecord) : Prop where
  source : b'.source = b.source
  size : b'.size = b.size
  tag : b'.tag = b.tag
  passes : b'.passes = b.passes

/-- The bag of a tray, where it has one, is the same bag after. -/
structure KeepsBag (t : Nat) (s u : State) : Prop where
  bag : ∀ b, (s.tray t).bag = some b → ∃ b', (u.tray t).bag = some b' ∧ b.SameBag b'

theorem BagRecord.SameBag.refl (b : BagRecord) : b.SameBag b := ⟨rfl, rfl, rfl, rfl⟩

theorem BagRecord.SameBag.trans {a b c : BagRecord} (h : a.SameBag b) (k : b.SameBag c) : a.SameBag c :=
  ⟨k.source.trans h.source, k.size.trans h.size, k.tag.trans h.tag, k.passes.trans h.passes⟩

theorem KeepsBag.trans {t : Nat} {s u v : State} (h : KeepsBag t s u) (k : KeepsBag t u v) :
    KeepsBag t s v where
  bag b hb := by
    obtain ⟨b', hb', hs⟩ := h.bag b hb
    obtain ⟨b'', hb'', hs'⟩ := k.bag b' hb'
    exact ⟨b'', hb'', hs.trans hs'⟩

theorem keepsBag_of_tray {t : Nat} {s u : State} (h : (u.tray t).bag = (s.tray t).bag) : KeepsBag t s u :=
  ⟨fun b hb => ⟨b, h.trans hb, .refl b⟩⟩

theorem keepsBag_of_loop {s u : State} (h : u.loop = s.loop) (t : Nat) : KeepsBag t s u :=
  keepsBag_of_tray (congrArg (fun l : Loop => (l.trays.getD t .empty).bag) h)

theorem KeepsBag.refl (t : Nat) (s : State) : KeepsBag t s s := keepsBag_of_loop rfl t

theorem modBag_keepsBag {t : Nat} {f : BagRecord → BagRecord} (s : State)
    (h : ∀ b : BagRecord, b.SameBag (f b) := by exact fun _ => ⟨rfl, rfl, rfl, rfl⟩) :
    KeepsBag t s (modBag t f s) :=
  ⟨fun b hb => ⟨f b, by rw [modBag_tray, Tray.bag_mapBag, hb]; rfl, h b⟩⟩

theorem makeStray_keepsBag (t : Nat) (q : StrayRequest) (s : State) :
    KeepsBag t s (makeStray t q s).state :=
  (keepsBag_of_loop (recordStray_loop q s) t).trans (modBag_keepsBag _)

theorem makeWaiting_keepsBag (t : Nat) (r : WaitReason) (s : State) :
    KeepsBag t s (makeWaiting t r s).state := modBag_keepsBag s

theorem reinductStray_loop (tag : Tag) (sl : Slot) (s : State) :
    (reinductStray tag sl s).state.loop = s.loop := by
  unfold reinductStray
  split <;> rfl

theorem strayBagEntry_loop (tag : Tag) (id : Option (BitVec 16)) (s : State) :
    (strayBagEntry tag id s).loop = s.loop := rfl

theorem routeBag_keepsBag (t : Nat) (sl : Slot) (e : BagEntry) (s : State) :
    KeepsBag t s (routeBag t sl e s).state :=
  KeepsBag.trans (u := (reinductStray e.tag sl (linkEntry e.tag s)).state)
    (keepsBag_of_loop (s := s) (reinductStray_loop e.tag sl (linkEntry e.tag s)) t) (modBag_keepsBag _)

theorem classifyEntry_keepsBag (t : Nat) (tag : Tag) (sl : Slot) (e : BagEntry) (s : State) :
    KeepsBag t s (classifyEntry t tag sl e s).state := by
  unfold classifyEntry
  split
  case h_1 | h_2 => exact KeepsBag.trans (keepsBag_of_loop (raise_loop ..) t) (makeStray_keepsBag ..)
  all_goals
    split
    · exact routeBag_keepsBag ..
    · split
      · exact makeWaiting_keepsBag ..
      · exact makeStray_keepsBag ..

theorem classifyInSlot_keepsBag (t : Nat) (tag : Tag) (sl : Slot) (s : State) :
    KeepsBag t s (classifyInSlot t tag sl s).state := by
  unfold classifyInSlot
  split
  · exact makeStray_keepsBag ..
  · split
    · exact classifyEntry_keepsBag ..
    · split
      · exact makeWaiting_keepsBag ..
      · exact makeStray_keepsBag ..

theorem classifyTag_keepsBag (t : Nat) (tag : Tag) (s : State) :
    KeepsBag t s (classifyTag t tag s).state := by
  unfold classifyTag
  split
  · exact makeStray_keepsBag ..
  · split
    case h_1 => exact makeStray_keepsBag ..
    case h_2 => exact makeStray_keepsBag ..
    all_goals
      exact (modBag_keepsBag s).trans (classifyInSlot_keepsBag ..)

/-- A classification keeps the bag's source, size class, tag and passes. -/
theorem classify_keepsBag (t : Nat) (s : State) : KeepsBag t s (classify t s).state := by
  unfold classify
  split
  · exact .refl t s
  · split
    · exact makeStray_keepsBag ..
    · split
      · exact makeStray_keepsBag ..
      · exact (modBag_keepsBag s).trans (classifyTag_keepsBag ..)

theorem raiseExpired_loop (t : Nat) (s : State) : (raiseExpired t s).loop = s.loop :=
  (congrArg State.loop (raiseExpired_frame t s) :)

theorem judgeWait_keepsBag (t : Nat) (s : State) : KeepsBag t s (judgeWait t s) := by
  refine (classify_keepsBag t s).trans ?_
  unfold judgeWait
  dsimp only
  split
  · split
    · split
      · exact (makeStray_keepsBag ..).trans (keepsBag_of_loop (raise_loop ..) t)
      · exact .refl ..
    · exact .refl ..
    · exact keepsBag_of_loop (raiseExpired_loop ..) t
  · exact .refl ..

theorem judgeLimit_keepsBag (t : Nat) (s : State) : KeepsBag t s (judgeLimit t s) := by
  unfold judgeLimit
  split
  · split
    · dsimp only
      split
      · exact KeepsBag.trans (makeStray_keepsBag ..) (keepsBag_of_loop (strayBagEntry_loop ..) t)
      · exact makeStray_keepsBag ..
    · exact .refl ..
  · exact .refl ..

/-- R102: beyond the recirculation limit a bag is a stray. -/
theorem judgeLimit_isStray {t : Nat} {s : State} {b : BagRecord}
    (hb : ((judgeLimit t s).tray t).bag = some b) (hl : s.loop.cfg.limit < b.passes) :
    b.isStray = true := by
  cases hs : (s.tray t).bag with
  | none =>
    rw [judgeLimit, hs] at hb
    exact absurd (hs.symm.trans hb) (by simp)
  | some b0 =>
    obtain ⟨b', hb', hsame⟩ := (judgeLimit_keepsBag t s).bag b0 hs
    obtain rfl : b = b' := Option.some.inj (hb.symm.trans hb')
    rw [hsame.passes] at hl
    rw [judgeLimit, hs] at hb
    dsimp only at hb
    split at hb
    · have hm : ((makeStray t (s.strayOfBag b0 .recircLimit) s).state.tray t).bag = some b := by
        split at hb
        · exact hb
        · exact hb
      rw [makeStray_tray, Tray.bag_mapBag, hs] at hm
      rw [← Option.some.inj hm]
      rfl
    · next hn =>
      obtain rfl : b0 = b := Option.some.inj (hs.symm.trans hb)
      simpa using fun h => hn ⟨hl, h⟩

end Sys2Proof.Machine
end

section
/-! SUPPORT. What the check eye leaves of the chutes' fill and failure counts (R21, R117, R129), and how a bag
that waits for its entry is judged there (R97, R105). -/

namespace Sys2Proof.Machine

/-! ### Fill and failures -/

/-- The fields of a chute record that no takeover, no fill state and no selection writes. -/
structure Chute.SameFill (x y : Chute) : Prop where
  fill : y.fill = x.fill
  failures : y.failures = x.failures
  fault : y.fault = x.fault

/-- Every chute keeps its fill, its failures and its fault flag. -/
structure KeepsFill (s u : State) : Prop where
  chute : ∀ c, (s.chute c).SameFill (u.chute c)

theorem Chute.SameFill.refl (x : Chute) : x.SameFill x := ⟨rfl, rfl, rfl⟩

theorem Chute.SameFill.trans {x y z : Chute} (h : x.SameFill y) (k : y.SameFill z) : x.SameFill z :=
  ⟨k.fill.trans h.fill, k.failures.trans h.failures, k.fault.trans h.fault⟩

theorem KeepsFill.trans {s u v : State} (h : KeepsFill s u) (k : KeepsFill u v) : KeepsFill s v :=
  ⟨fun c => (h.chute c).trans (k.chute c)⟩

theorem keepsFill_of_chutes {s u : State} (h : u.chutes = s.chutes) : KeepsFill s u :=
  ⟨fun c => by rw [State.chute, State.chute, h]; exact .refl _⟩

theorem KeepsFill.refl (s : State) : KeepsFill s s := keepsFill_of_chutes rfl

theorem modChute_chute (c k : ChuteId) (f : Chute → Chute) (s : State) :
    (modChute c f s).chute k = if k = c then f (s.chute c) else s.chute k :=
  chute_set c k _ (modChute_chutes c f s)

theorem modChute_keepsFill (c : ChuteId) {f : Chute → Chute} (s : State)
    (h : ∀ x : Chute, x.SameFill (f x) := by exact fun _ => ⟨rfl, rfl, rfl⟩) : KeepsFill s (modChute c f s) :=
  ⟨fun k => by
    rw [modChute_chute]
    split
    · next hk => exact hk ▸ h _
    · exact .refl _⟩

theorem takeOver_keepsFill (k c : ChuteId) (s : State) : KeepsFill s (takeOver k c s) :=
  KeepsFill.trans (modChute_keepsFill k s) (keepsFill_of_chutes rfl)

theorem coverFull_keepsFill (c : ChuteId) (s : State) : KeepsFill s (coverFull c s) := by
  unfold coverFull
  split
  · clear * -
    generalize allChutes.filter _ = ks
    induction ks generalizing s with
    | nil => exact .refl s
    | cons k r ih => exact (takeOver_keepsFill k c s).trans (ih _)
  · exact .refl s

theorem raiseIf_chutes (b : Bool) (n : Notice) (sc : Scope) (s : State) :
    (raiseIf b n sc s).chutes = s.chutes := (congrArg State.chutes (raiseIf_frame b n sc s) :)

theorem judgeFill_keepsFill (c : ChuteId) (s : State) : KeepsFill s (judgeFill c s) := by
  unfold judgeFill
  dsimp only
  split
  · refine (modChute_keepsFill c (f := fun x => { x with state := x.fillState }) s).trans ?_
    split
    · exact KeepsFill.trans (keepsFill_of_chutes (raise_chutes ..)) (coverFull_keepsFill ..)
    · exact keepsFill_of_chutes (raiseIf_chutes ..)
  · exact .refl s

/-- R117: units return from fill when the generation is the chute's present one. -/
theorem returnFill_chute (c : ChuteId) (g : BitVec 8) (u : Nat) (s : State) :
    ({ s.chute c with
      fill := if (s.chute c).gen = g then (s.chute c).fill - u else (s.chute c).fill } : Chute).SameFill
      ((returnFill c g u s).chute c) := by
  unfold returnFill
  split
  · refine Chute.SameFill.trans ?_ ((judgeFill_keepsFill c _).chute c)
    rw [modChute_chute, if_pos rfl]
    exact ⟨rfl, rfl, rfl⟩
  · exact .refl _

/-- R129: the failures count up to 3, where the fault flag is set; the fill stands. -/
theorem tiltFailed_chute (c : ChuteId) (s : State) :
    ((tiltFailed c s).chute c).fill = (s.chute c).fill ∧
      ((tiltFailed c s).chute c).failures =
        (if 3 ≤ (s.chute c).failures then (s.chute c).failures else (s.chute c).failures + 1) ∧
      ((s.chute c).failures = 2 → ((tiltFailed c s).chute c).fault = true) := by
  unfold tiltFailed
  dsimp only
  split
  · exact ⟨rfl, rfl, fun h2 => by omega⟩
  · split
    · next h3 =>
      have hc : ∀ b n sc, (raiseIf b n sc (modChute c (fun x => { x with failures := 3, fault := true }) s)).chute c =
          { s.chute c with failures := 3, fault := true } := fun b n sc => by
        rw [State.chute, raiseIf_chutes, ← State.chute, modChute_chute, if_pos rfl]
      rw [hc]
      exact ⟨rfl, h3.symm, fun _ => rfl⟩
    · next h3 =>
      rw [modChute_chute, if_pos rfl]
      exact ⟨rfl, rfl, fun h2 => absurd (congrArg (· + 1) h2) h3⟩

theorem makeStray_chutes (t : Nat) (q : StrayRequest) (s : State) :
    (makeStray t q s).state.chutes = s.chutes := (congrArg State.chutes (makeStray_frame t q s) :)

theorem judgeWait_chutes (t : Nat) (s : State) : (judgeWait t s).chutes = s.chutes := by
  have hc : (classify t s).state.chutes = s.chutes := (congrArg State.chutes (classify_frame t s) :)
  refine Eq.trans ?_ hc
  unfold judgeWait
  dsimp only
  split
  · split
    · split
      · exact makeStray_chutes t ..
      · rfl
    · rfl
    · exact (congrArg State.chutes (raiseExpired_frame ..) :)
  · rfl

theorem judgeLimit_chutes (t : Nat) (s : State) : (judgeLimit t s).chutes = s.chutes := by
  unfold judgeLimit
  split
  · split
    · dsimp only
      split
      · exact makeStray_chutes t ..
      · exact makeStray_chutes t ..
    · rfl
  · rfl

/-- A bag that begins a new pass, before the recirculation limit and the selection. -/
def passJudged (t : Nat) (s : State) : State :=
  let s1 := modBag t (fun b => { b with passes := min 8 (b.passes + 1) }) s
  match (s1.tray t).bag with
  | some b => if b.isWaiting then judgeWait t s1 else s1
  | none => s1

theorem newPass_eq (t : Nat) (s : State) :
    newPass t s = passToSelection t (judgeLimit t (passJudged t s)) := rfl

theorem passJudged_chutes (t : Nat) (s : State) : (passJudged t s).chutes = s.chutes := by
  unfold passJudged
  dsimp only
  split
  · split
    · exact judgeWait_chutes ..
    · rfl
  · rfl

/-- R120: a new pass moves the committed units of chutes alone. -/
theorem newPass_keepsFill (t : Nat) (s : State) : KeepsFill s (newPass t s) :=
  (keepsFill_of_chutes ((judgeLimit_chutes ..).trans (passJudged_chutes t s))).trans
    ⟨fun c => by
      obtain ⟨n, hn⟩ := passToSelection_chute t (judgeLimit t (passJudged t s)) c
      rw [newPass_eq, hn]
      exact ⟨rfl, rfl, rfl⟩⟩

/-- R21, R117, R129: what a failed tilt leaves of its chute. -/
theorem tiltFailure_chute (t : Nat) (b : BagRecord) (c : ChuteId) (g : BitVec 8) (s : State) :
    ((tiltFailure t b c g s).chute c).failures =
        (if 3 ≤ (s.chute c).failures then (s.chute c).failures else (s.chute c).failures + 1) ∧
      ((s.chute c).failures = 2 → ((tiltFailure t b c g s).chute c).fault = true) ∧
      ((tiltFailure t b c g s).chute c).fill =
        (if (s.chute c).gen = g then (s.chute c).fill - unitsOf b.size else (s.chute c).fill) := by
  have hr := returnFill_chute c g (unitsOf b.size) s
  obtain ⟨hfill, hfail, hfault⟩ := tiltFailed_chute c (returnFill c g (unitsOf b.size) s)
  have hn := (newPass_keepsFill t
    (putTray t (.loaded b) (tiltFailed c (returnFill c g (unitsOf b.size) s)))).chute c
  refine ⟨hn.failures.trans (hfail.trans ?_), fun h2 => hn.fault.trans (hfault (hr.failures.trans h2)),
    hn.fill.trans (hfill.trans hr.fill)⟩
  rw [hr.failures]

/-! ### A new pass -/

theorem passJudged_keepsBag (t : Nat) (s : State) {b : BagRecord} (hb : (s.tray t).bag = some b) :
    ∃ b', ((passJudged t s).tray t).bag = some b' ∧
      ({ b with passes := min 8 (b.passes + 1) } : BagRecord).SameBag b' := by
  have h1 : ((modBag t (fun b => { b with passes := min 8 (b.passes + 1) }) s).tray t).bag =
      some { b with passes := min 8 (b.passes + 1) } := by rw [modBag_tray, Tray.bag_mapBag, hb]; rfl
  unfold passJudged
  dsimp only
  rw [h1]
  dsimp only
  split
  · exact (judgeWait_keepsBag t _).bag _ h1
  · exact ⟨_, h1, .refl _⟩

theorem passJudged_cfg (t : Nat) (s : State) : (passJudged t s).loop.cfg = s.loop.cfg := by
  unfold passJudged
  dsimp only
  split
  · split
    · exact (congrArg (·.loop.cfg) (judgeWait_frame t _) :)
    · rfl
  · rfl

/-- R19, R102: the bag on the tray after a new pass is the same, one pass on, and a stray beyond the limit. -/
theorem newPass_bag {t : Nat} {s : State} {b : BagRecord} (hb : (s.tray t).bag = some b) :
    ∃ b', ((newPass t s).tray t).bag = some b' ∧ b'.passes = min 8 (b.passes + 1) ∧
      b'.source = b.source ∧ b'.size = b.size ∧ b'.tag = b.tag ∧
      (s.loop.cfg.limit < b'.passes → b'.isStray = true) := by
  obtain ⟨b1, hb1, h1⟩ := passJudged_keepsBag t s hb
  obtain ⟨b2, hb2, h2⟩ := (judgeLimit_keepsBag t _).bag b1 hb1
  obtain ⟨hsource, hsize, htag, hpasses⟩ := h1.trans h2
  refine ⟨b2, by rw [newPass_eq, passToSelection_bag, hb2], hpasses, hsource, hsize, htag, fun hl => ?_⟩
  exact judgeLimit_isStray hb2 (by rw [passJudged_cfg]; exact hl)

/-! ### A bag that waits for its entry -/

/-- R97: a bag whose slot is LOADING and holds no entry for its tag waits for the tag. -/
theorem classify_unknownTag {t : Nat} {s : State} {b : BagRecord} {tag : Tag} {sl : Slot}
    (hb : s.tray t = .loaded b) (htag : b.tag = some tag) (htag2 : b.tag2 = none) (hslot : b.slot = some sl)
    (hdec : s.decodeSlot tag = some sl) (hload : (s.slot sl).state = .loading)
    (hentry : s.entryIn sl tag = none) :
    (classify t s).state.tray t =
      .loaded { b with cls := .waiting .unknownTag, strayId := none, entryLink := none } := by
  have hcls : (classify t s).state = (makeWaiting t .unknownTag
      (modBag t (fun b => { b with slot := b.slot.or (some sl) })
        (modBag t (fun b => { b with tag2 := none }) s))).state := by
    have hdec' : ∀ f, (modBag t f s).decodeSlot tag = some sl := fun _ => hdec
    have hload1 : ∀ f, ((modBag t f s).slot sl).state = .loading := fun _ => hload
    have hload2 : ∀ f g, ((modBag t g (modBag t f s)).slot sl).state = .loading := fun _ _ => hload
    have hentry' : ∀ f g, (modBag t g (modBag t f s)).entryIn sl tag = none := fun _ _ => hentry
    rw [classify, hb]
    simp [Tray.bag, htag, htag2, classifyTag, classifyInSlot, hdec', hload1, hload2, hentry']
  rw [hcls]
  refine (modBag_tray ..).trans ?_
  rw [modBag_tray, modBag_tray, hb]
  cases b
  simp_all [Tray.mapBag]

theorem Tray.bag_loaded (b : BagRecord) : (Tray.loaded b).bag = some b := rfl

theorem judgeLimit_of_within {t : Nat} {s : State} {b : BagRecord} (hb : (s.tray t).bag = some b)
    (h : b.passes ≤ s.loop.cfg.limit ∨ b.isStray = true) : judgeLimit t s = s := by
  rw [judgeLimit, hb]
  refine if_neg fun ⟨hl, hst⟩ => ?_
  rcases h with h | h
  · omega
  · rw [hst] at h; cases h

theorem classify_cfg (t : Nat) (s : State) : (classify t s).state.loop.cfg = s.loop.cfg :=
  (congrArg (·.loop.cfg) (classify_frame t s) :)

/-- R105: a bag that waits for its tag with its slot LOADING and no entry there begins a new pass. -/
theorem newPass_unknownTag {t : Nat} {s : State} {b : BagRecord} {tag : Tag} {sl : Slot}
    (hb : s.tray t = .loaded b) (hcls : b.cls = .waiting .unknownTag) (htag : b.tag = some tag)
    (htag2 : b.tag2 = none) (hslot : b.slot = some sl)
    (hdec : s.decodeSlot tag = some sl) (hload : (s.slot sl).state = .loading)
    (hentry : s.entryIn sl tag = none) :
    (s.loop.cfg.matchWait < min 8 (b.passes + 1) →
      (∃ b', ((newPass t s).tray t).bag = some b' ∧ b'.cls = .stray .unknownTag) ∧
        (newPass t s).flagged (slotLink sl) .waitExpired = true) ∧
    (min 8 (b.passes + 1) ≤ s.loop.cfg.matchWait → min 8 (b.passes + 1) ≤ s.loop.cfg.limit →
      (newPass t s).tray t =
        .loaded { b with passes := min 8 (b.passes + 1), strayId := none, entryLink := none }) := by
  have hs1 : (modBag t (fun b => { b with passes := min 8 (b.passes + 1) }) s).tray t =
      .loaded { b with passes := min 8 (b.passes + 1) } := by rw [modBag_tray, hb]; rfl
  have hj : passJudged t s =
      judgeWait t (modBag t (fun b => { b with passes := min 8 (b.passes + 1) }) s) := by
    rw [passJudged, hs1]
    exact if_pos (by simp [BagRecord.isWaiting, hcls])
  have hc := classify_unknownTag (tag := tag) (sl := sl) hs1 htag htag2 hslot hdec hload hentry
  have hcfg : (classify t (modBag t (fun b => { b with passes := min 8 (b.passes + 1) }) s)).state.loop.cfg =
      s.loop.cfg := classify_cfg ..
  rw [newPass_eq, hj, judgeWait]
  generalize (classify t (modBag t (fun b => { b with passes := min 8 (b.passes + 1) }) s)).state = s1 at *
  rw [hc, hcfg, Tray.bag_loaded]
  dsimp only
  constructor
  · intro hw
    rw [if_pos hw]
    generalize hq : s1.strayOfBag _ _ = q
    have hstray : ((raise .waitExpired (scopeOf b.slot) (makeStray t q s1).state).tray t).bag = some
        { b with
          passes := min 8 (b.passes + 1), cls := .stray .unknownTag, strayId := (recordStray q s1).id
          entryLink := none } := by
      change (State.tray (makeStray t q s1).state t).bag = _
      rw [makeStray_tray, hc, ← hq]
      rfl
    rw [judgeLimit_of_within hstray (.inr rfl)]
    refine ⟨⟨_, by rw [passToSelection_bag, hstray], rfl⟩, ?_⟩
    refine (passToSelection_moves t _).flags _ _ (flagged_raise _ ?_ _)
    rw [hslot]
    exact Scope.names_slotLink sl
  · intro hw hl
    rw [if_neg (not_lt.mpr hw), judgeLimit_of_within (congrArg Tray.bag hc) (.inl (by rw [hcfg]; exact hl)),
      passToSelection, hc]
    simp only [State.bagDest, hc, hcls]

end Sys2Proof.Machine
end

section
/-! PROOF. The check eye's reconciliation, row by row (O21). -/

namespace Sys2Proof.Machine

/-! ### A launch window closed at the check eye (R17) -/

theorem closeLaunch_eq {t : Nat} {s : State} (h : ∃ i, ∃ w ∈ (s.ind i).windows, w.tray = t) :
    closeLaunch t s = { s with
      inds := (closeLaunch t s).inds
      loop := { s.loop with trays := s.loop.trays.set t ((s.tray t).mapBag fun b =>
        { b with launchConfirmed := true }) } } := by
  obtain ⟨i, w, hw, ht⟩ := h
  have hany : (allInds.any fun i => (s.ind i).windows.any fun w => w.tray = t) = true :=
    List.any_eq_true.mpr ⟨i, by cases i <;> simp [allInds], List.any_eq_true.mpr ⟨w, hw, by simpa using ht⟩⟩
  rw [closeLaunch, if_pos hany]
  rfl

theorem closeLaunch_ind (t : Nat) (s : State) (i : IndId) :
    (closeLaunch t s).ind i = { s.ind i with windows := (s.ind i).windows.filter fun w => w.tray ≠ t } := by
  have hf : ((s.ind i).windows.filter fun w => w.tray != t) =
      (s.ind i).windows.filter fun w => w.tray ≠ t := List.filter_congr fun w _ => Bool.eq_iff_iff.mpr (by simp)
  rw [← hf, ← closeLaunch_windows]
  unfold closeLaunch
  split
  · cases i <;> rfl
  · rfl

/-- A tray whose launch windows are closed is settled by its row. -/
theorem reconcile_closeLaunch (t : Nat) (eye : Bool) (s : State) :
    reconcile t eye s = reconcile t eye (closeLaunch t s) := by
  rw [reconcile, reconcile, closeLaunch_of_none t (closeLaunch t s)]
  intro i w hw
  rw [closeLaunch_windows] at hw
  simpa using (List.mem_filter.mp hw).2

/-! ### A bag that is gone (R20, R21) -/

theorem settleRow_orphan_flagged {t : Nat} {s : State} (h : s.tray t = .empty ∨ ∃ i, s.tray t = .reserved i) :
    (settleRow t true s).flagged .shore .orphanBag = true := by
  have horphan : (orphanFound t s).flagged .shore .orphanBag = true :=
    (loadOrphan_moves ..).flags _ _ (flagged_raise _ (Scope.names_shore _) _)
  unfold settleRow
  rcases h with h | ⟨i, h⟩ <;> rw [h] <;> exact horphan

theorem emptyTray_entry (t : Nat) (s : State) (tag : Tag) : (emptyTray t s).entry tag = s.entry tag :=
  (congrArg (fun u : State => u.entry tag) (emptyTray_frame t s) :)

theorem lostBag_entry {t : Nat} {b : BagRecord} {s : State} {tag : Tag} {e : BagEntry}
    (hl : b.entryLink = some tag) (he : s.entry tag = some e) (hon : e.status.isOnLoop = true) :
    (lostBag t b s).entry tag = some { e with status := .untracked } := by
  rw [lostBag, emptyTray_entry, loseBag_entry, if_pos hl]
  refine (congrArg (Option.map BagEntry.loopReset) he).trans ?_
  rw [Option.map_some, BagEntry.loopReset_eq, if_pos hon]

theorem lostBag_flagged (t : Nat) (b : BagRecord) (s : State) :
    (lostBag t b s).flagged .shore .lostBag = true :=
  (emptyTray_moves t _).flags _ _ ((loseBag_moves ..).flags _ _ (flagged_raise _ (Scope.names_shore _) _))

theorem lostBag_tray {t : Nat} {s : State} (ht : t < s.T) (b : BagRecord) :
    (lostBag t b s).tray t = .empty :=
  emptyTray_tray ((loseBag_moves b (raise .lostBag (scopeOf b.slot) s)).trays.symm ▸ ht)

theorem removeStray_entry_status (id : BitVec 16) (tag : Tag) (s : State) :
    ((removeStray id s).entry tag).map (·.status) = (s.entry tag).map (·.status) := by
  unfold removeStray State.entry findEntry
  induction s.pool with
  | nil => rfl
  | cons e r ih => grind

/-- R163, R166: the Stray List told of a sort drops stray links alone. -/
theorem straySorted_entry_status (id : Option (BitVec 16)) (tag : Tag) (s : State) :
    ((straySorted id s).entry tag).map (·.status) = (s.entry tag).map (·.status) := by
  unfold straySorted
  split
  · split
    · exact removeStray_entry_status ..
    · rfl
  · rfl

theorem sortEntry_status {tag : Tag} {s : State} {e : BagEntry} (he : s.entry tag = some e)
    (hon : e.status.isOnLoop = true) (c : ChuteId) (u : Bool) :
    ((sortEntry tag c u s).entry tag).map (·.status) = some (.sorted c s.clock.seconds u) := by
  unfold sortEntry
  rw [he]
  dsimp only
  split
  · have hp : ∀ b n sc v, (raiseIf b n sc v).entry tag = v.entry tag := fun b n sc v =>
      (congrArg (fun u : State => u.entry tag) (raiseIf_frame b n sc v) :)
    rw [hp, modEntry_entry_self, he]
    rfl
  all_goals next h => rw [h] at hon; cases hon

theorem sortInferred_status {t : Nat} {b : BagRecord} {s : State} {tag : Tag} {e : BagEntry}
    (hl : b.entryLink = some tag) (he : s.entry tag = some e) (hon : e.status.isOnLoop = true) (c : ChuteId) :
    ((sortInferred t b c s).entry tag).map (·.status) = some (.sorted c s.clock.seconds true) := by
  rw [sortInferred, emptyTray_entry]
  change ((sortBag b c true s).entry tag).map (·.status) = _
  rw [sortBag, hl]
  exact (straySorted_entry_status ..).trans (sortEntry_status he hon c true)

theorem sortInferred_chutes (t : Nat) (b : BagRecord) (c : ChuteId) (s : State) :
    (sortInferred t b c s).chutes = s.chutes :=
  (congrArg State.chutes (emptyTray_frame t _) :).trans (congrArg State.chutes (sortBag_frame b c true s) :)

theorem sortInferred_flagged (t : Nat) (b : BagRecord) (c : ChuteId) (s : State) :
    (sortInferred t b c s).flagged .shore .unconfirmedSort = true :=
  (emptyTray_moves t _).flags _ _ (flagged_raise _ (Scope.names_shore _) _)

theorem sortInferred_tray {t : Nat} {s : State} (ht : t < s.T) (b : BagRecord) (c : ChuteId) :
    (sortInferred t b c s).tray t = .empty :=
  emptyTray_tray ((sortBag_moves b c true s).trays.symm ▸ ht)

theorem tiltFailure_bag {t : Nat} {s : State} (ht : t < s.T) (b : BagRecord) (c : ChuteId) (g : BitVec 8) :
    ∃ b', ((tiltFailure t b c g s).tray t).bag = some b' ∧ b'.passes = min 8 (b.passes + 1) := by
  have hT : (tiltFailed c (returnFill c g (unitsOf b.size) s)).T = s.T :=
    ((returnFill_moves c g _ s).trans (tiltFailed_moves c _)).trays
  unfold tiltFailure
  generalize tiltFailed c (returnFill c g (unitsOf b.size) s) = v at *
  have hb : ((putTray t (.loaded b) v).tray t).bag = some b := by rw [putTray_tray _ _ _ (hT ▸ ht)]; rfl
  obtain ⟨b', hb', hpasses, -⟩ := newPass_bag hb
  exact ⟨b', hb', hpasses⟩

/-! ### The rows of FIRED and ARMED trays (R22) -/

theorem dropOwnWindow_last {t : Nat} (pre : List ConfirmWindow) {w : ConfirmWindow} {post : List ConfirmWindow}
    (hw : w.tray = t) (hpost : ∀ v ∈ post, v.tray ≠ t) : dropOwnWindow t (pre ++ w :: post) = pre ++ post := by
  induction pre with
  | nil => exact if_pos ⟨hw, List.all_eq_true.mpr fun v hv => by simpa using hpost v hv⟩
  | cons x r ih =>
    rw [List.cons_append, dropOwnWindow, if_neg, ih, List.cons_append]
    simp [hw]

/-- The state a FIRED tray is settled in. -/
theorem fired_state {t : Nat} {s : State} {b : BagRecord} {c : ChuteId} {g : BitVec 8}
    {pre post : List ConfirmWindow} {w : ConfirmWindow} (hwin : (s.chute c).windows = pre ++ w :: post)
    (hw : w.tray = t) (hpost : ∀ v ∈ post, v.tray ≠ t) :
    putTray t (.unconfirmed b c g) (removeWindow c t s) = { s with
      chutes := s.chutes.set c { s.chute c with windows := pre ++ post }
      loop := { s.loop with trays := s.loop.trays.set t (.unconfirmed b c g) } } := by
  rw [removeWindow, hwin, dropOwnWindow_last pre hw hpost]
  rfl

/-- The state an ARMED tray is settled in. -/
theorem armed_state {t : Nat} {s : State} {b : BagRecord} {c : ChuteId} (h : s.tray t = .armed b c) :
    cancelSelection t s = { s with
      chutes := s.chutes.set c { s.chute c with committed := (s.chute c).committed - unitsOf b.size }
      loop := { s.loop with trays := s.loop.trays.set t (.loaded b) }
      fireQueue := s.fireQueue.filter fun r => r.tray ≠ t
      blocked := (cancelSelection t s).blocked, strayArmed := (cancelSelection t s).strayArmed
      notices := (cancelSelection t s).notices } := by
  have key : cancelSelection t s = putTray t (.loaded b)
      (modChute c (fun x => { x with committed := x.committed - unitsOf b.size }) (removeFire t s)) := by
    rw [cancelSelection, h]; rfl
  have hfires : (cancelSelection t s).fireQueue = s.fireQueue.filter fun r => r.tray ≠ t := by
    rw [key]
    refine (congrArg State.fireQueue (modChute_frame ..) :).trans ?_
    exact List.filter_congr fun r _ => Bool.eq_iff_iff.mpr (by simp)
  have hchutes : (cancelSelection t s).chutes =
      s.chutes.set c { s.chute c with committed := (s.chute c).committed - unitsOf b.size } := by
    rw [key]
    exact modChute_chutes ..
  have htrays : (cancelSelection t s).loop.trays = s.loop.trays.set t (.loaded b) := by
    rw [key, putTray, modChute_loop]
    rfl
  have heq := eq_of_sansSelection (cancelSelection_frame t s)
  rw [hfires, hchutes, htrays] at heq
  exact heq

/-- Settles O21: the open launch window first, then the rows of Table 1-5 one by one. -/
theorem checkEyeSettlesEachRow : Obligations.checkEyeSettlesEachRow := by
  refine ⟨fun t eye s _ hopen => ⟨closeLaunch t s, reconcile_closeLaunch t eye s, closeLaunch_eq hopen,
    closeLaunch_ind t s⟩, fun t s ht hnone => ?_⟩
  have hrow : ∀ eye, reconcile t eye s = settleRow t eye s := fun eye => by
    rw [reconcile, closeLaunch_of_none t s hnone]
  have hclosed : ∀ u : State, u.inds = s.inds → closeLaunch t u = u := fun u hu =>
    closeLaunch_of_none t u fun i => by rw [State.ind, hu]; exact hnone i
  refine ⟨fun h => ⟨?_, ?_⟩, fun h => ?_, fun h => ?_, fun b h => ?_,
    fun b tag sl h hcls htag htag2 hslot hdec hload hentry => ?_, fun b c g h => ?_,
    fun b c g eye pre w post h hwin hw hpost => ?_, fun b c eye h => ?_⟩
  · rw [hrow, settleRow]
    rcases h with h | ⟨i, h⟩ <;> rw [h] <;> rfl
  · rw [hrow]
    exact settleRow_orphan_flagged h
  · rw [hrow]
    have hbag : (s.tray t).bag = none := by
      rcases h with h | ⟨i, h⟩ | h <;> rw [h] <;> rfl
    exact (settleRow_noBag_orphan ht hbag).tray
  · rw [hrow, settleRow_noBag_clear ht (by rw [h]; rfl), h]
  · have hpresent : reconcile t true s = newPass t s := by
      rw [hrow, settleRow, h]
      exact if_pos rfl
    have hgone : reconcile t false s = lostBag t b s := by
      rw [hrow, settleRow, h]
      exact if_neg Bool.false_ne_true
    rw [hpresent, hgone]
    exact ⟨newPass_bag (by rw [h]; rfl), lostBag_tray ht b, lostBag_flagged t b s, fun tag e =>
      lostBag_entry⟩
  · have hpresent : reconcile t true s = newPass t s := by
      rw [hrow, settleRow, h]
      exact if_pos rfl
    rw [hpresent]
    exact newPass_unknownTag h hcls htag htag2 hslot hdec hload hentry
  · have hpresent : reconcile t true s = tiltFailure t b c g s := by
      rw [hrow, settleRow, h]
      exact if_pos rfl
    have hgone : reconcile t false s = sortInferred t b c s := by
      rw [hrow, settleRow, h]
      exact if_neg Bool.false_ne_true
    rw [hpresent, hgone]
    obtain ⟨hfailures, hfault, hfill⟩ := tiltFailure_chute t b c g s
    exact ⟨tiltFailure_bag ht b c g, hfailures, hfault, hfill, sortInferred_tray ht b c, sortInferred_chutes t b c s,
      sortInferred_flagged t b c s, fun tag e hl he hon => sortInferred_status hl he hon c⟩
  · rw [hrow, settleRow, h, ← fired_state (b := b) (g := g) hwin hw hpost, reconcile,
      hclosed (putTray t _ (removeWindow c t s)) rfl, settleRow,
      putTray_tray t _ (removeWindow c t s) ht]
  · have htray : (raise .armDropped (s.chute c).scope (cancelSelection t s)).tray t = .loaded b := by
      refine (cancelSelection_tray t t s).trans ?_
      rw [if_pos rfl, h]
      rfl
    have hflag : (raise .armDropped (s.chute c).scope (cancelSelection t s)).flagged .shore .armDropped = true :=
      flagged_raise _ (Scope.names_shore _) _
    have hrec : reconcile t eye s = reconcile t eye (raise .armDropped (s.chute c).scope (cancelSelection t s)) := by
      have hinds : (cancelSelection t s).inds = s.inds := (congrArg State.inds (cancelSelection_frame t s) :)
      rw [hrow, settleRow, h, reconcile, hclosed (raise ..) hinds, settleRow, htray]
    refine ⟨_, hrec, ?_, hflag, ?_⟩
    · rw [armed_state h]
      rfl
    · rw [hrec]
      exact (reconcile_moves t eye _).flags _ _ hflag

end Sys2Proof.Machine
end

section
/-! SUPPORT. The orders of a pitch event's acts: a merge keeps each thread's own order, and the trays stand by
offset from the highest to the lowest (log 1, R9). -/

namespace Sys2Proof.Machine

/-! ### A merge keeps each thread -/

/-- Every thread of a merge is found in it in its own order. -/
theorem sublist_interleave {α : Type} (fuel : Nat) (choices : List Nat) (ts : List (List α))
    (h : (ts.map (·.length)).sum ≤ fuel) : ∀ t ∈ ts, t.Sublist (interleave fuel choices ts) := by
  induction fuel generalizing choices ts with
  | zero =>
    intro t ht
    have : t.length ≤ 0 := (List.single_le_sum (by simp) _ (List.mem_map_of_mem ht)).trans h
    rw [List.length_eq_zero_iff.mp (Nat.le_zero.mp this)]
    exact List.nil_sublist _
  | succ n ih =>
    intro t ht
    by_cases hne : t = []
    · exact hne ▸ List.nil_sublist _
    have htq : t ∈ ts.filter (!·.isEmpty) := List.mem_filter.mpr ⟨ht, by simpa using hne⟩
    rw [← sum_length_filter_nonempty ts] at h
    have hq : ∀ t ∈ ts.filter (!·.isEmpty), t ≠ [] := fun t ht => by simpa using (List.mem_filter.mp ht).2
    unfold interleave
    dsimp only
    generalize ts.filter (!·.isEmpty) = q at *
    have hlt : choices.headD 0 % q.length < q.length :=
      Nat.mod_lt _ (List.length_pos_iff.mpr (List.ne_nil_of_mem htq))
    generalize choices.headD 0 % q.length = k at *
    split
    case h_1 x r hk =>
      have hrest : ((q.set k r).map (·.length)).sum ≤ n := by
        have hl := (perm_flatten_set q k x r hk).length_eq
        simp only [List.length_cons, List.length_flatten] at hl
        change (q.map List.length).sum ≤ n + 1 at h
        exact Nat.le_of_succ_le_succ (hl.trans_le h)
      obtain ⟨j, hj, rfl⟩ := List.mem_iff_getElem.mp htq
      by_cases hjk : j = k
      · subst hjk
        obtain ⟨_, hx⟩ := List.getElem?_eq_some_iff.mp hk
        rw [hx]
        exact (ih _ _ hrest r (List.mem_of_getElem? (i := j) (by simp [hlt]))).cons_cons x
      · exact (ih _ _ hrest q[j] (List.mem_of_getElem? (i := j) (by simp [Ne.symm hjk, hj]))).cons x
    case h_2 hk => exact absurd rfl (hq [] (List.mem_of_getElem? hk))
    case h_3 hk => exact absurd (List.getElem?_eq_none_iff.mp hk) (by omega)

theorem sublist_merged {α : Type} (choices : List Nat) {ts : List (List α)} {t : List α} (h : t ∈ ts) :
    t.Sublist (merged choices ts) := sublist_interleave _ _ _ (le_refl _) t h

/-! ### The trays by offset -/

theorem traysByOffset_eq (s : State) :
    s.traysByOffset = (List.range s.T).map fun k => (s.loop.pos + 1 + k) % s.T := by
  refine List.map_congr_left fun k hk => ?_
  have := List.mem_range.mp hk
  rw [State.trayAt]
  congr 1
  omega

theorem traysByOffset_nodup (s : State) : s.traysByOffset.Nodup := by
  rw [traysByOffset_eq]
  refine List.Nodup.map_on (fun j hj k hk h => ?_) List.nodup_range
  exact (Nat.ModEq.add_left_cancel' _ h).eq_of_lt_of_lt (List.mem_range.mp hj) (List.mem_range.mp hk)

theorem traysByOffset_perm (s : State) : s.traysByOffset.Perm (List.range s.T) := by
  refine List.Subperm.perm_of_length_le (List.subperm_of_subset (traysByOffset_nodup s) fun t ht => ?_) (by
    simp [State.traysByOffset])
  rw [traysByOffset_eq] at ht
  obtain ⟨k, hk, rfl⟩ := List.mem_map.mp ht
  have := List.mem_range.mp hk
  exact List.mem_range.mpr (Nat.mod_lt _ (by omega))

theorem mem_traysByOffset {s : State} {t : Nat} : t ∈ s.traysByOffset ↔ t < s.T :=
  (traysByOffset_perm s).mem_iff.trans List.mem_range

/-- The tray that comes k-th stands k places below the highest offset. -/
theorem offsetOf_nth {s : State} (hp : s.loop.pos < s.T) {k : Nat} (hk : k < s.T) :
    s.offsetOf ((s.loop.pos + 1 + k) % s.T) = s.T - 1 - k := by
  unfold State.offsetOf
  by_cases h : s.loop.pos + 1 + k < s.T
  · rw [Nat.mod_eq_of_lt h, show s.loop.pos + s.T - (s.loop.pos + 1 + k) = s.T - 1 - k by omega]
    exact Nat.mod_eq_of_lt (by omega)
  · have hw : (s.loop.pos + 1 + k) % s.T = s.loop.pos + 1 + k - s.T := by
      rw [Nat.mod_eq_sub_mod (by omega)]
      exact Nat.mod_eq_of_lt (by omega)
    rw [hw, show s.loop.pos + s.T - (s.loop.pos + 1 + k - s.T) = s.T - 1 - k + s.T by omega,
      Nat.add_mod_right]
    exact Nat.mod_eq_of_lt (by omega)

/-- R9: the trays stand from the highest offset to the lowest. -/
theorem traysByOffset_pairwise {s : State} (hp : s.loop.pos < s.T) :
    s.traysByOffset.Pairwise fun j k => s.offsetOf k < s.offsetOf j := by
  rw [traysByOffset_eq, List.pairwise_map]
  refine List.Pairwise.imp_of_mem (fun {j k} hj hk hlt => ?_) (List.pairwise_lt_range (n := s.T))
  rw [offsetOf_nth hp (List.mem_range.mp hj), offsetOf_nth hp (List.mem_range.mp hk)]
  have := List.mem_range.mp hk
  omega

/-! ### The acts of a pitch event -/

/-- An act that is a re-selection (R9). -/
def PitchAct.isReselect : PitchAct → Bool
  | .reselect _ => true
  | .claim _ | .grant | .reconcile | .arm _ => false

/-- The acts of a pitch event but for their order. -/
def State.pitchActList (s : State) (first : Bool) : List PitchAct :=
  allInds.map .claim ++ [.grant, .reconcile] ++ (s.traysByOffset.filter s.arms).map .arm ++
    (if first then s.reselects.map .reselect else [])

theorem flatten_pitchThreads (s : State) (first : Bool) :
    (s.pitchThreads first).flatten = s.pitchActList first := by
  have hsingles : ∀ {α : Type} (f : α → PitchAct) (xs : List α), (xs.map fun x => [f x]).flatten = xs.map f :=
    fun f xs => by rw [← List.flatMap_def, List.map_eq_flatMap]
  simp [State.pitchThreads, State.pitchActList, hsingles]

theorem merged_pitchThreads_perm (order : List Nat) (s : State) (first : Bool) :
    (merged order (s.pitchThreads first)).Perm (s.pitchActList first) :=
  flatten_pitchThreads s first ▸ merged_perm order _

theorem pitchActList_nodup (s : State) (first : Bool) : (s.pitchActList first).Nodup := by
  have harms : ((s.traysByOffset.filter s.arms).map PitchAct.arm).Nodup :=
    ((traysByOffset_nodup s).filter _).map fun _ _ h => PitchAct.arm.inj h
  have hreselects : (if first then s.reselects.map PitchAct.reselect else []).Nodup := by
    split
    · exact ((traysByOffset_nodup s).filter _).map fun _ _ h => PitchAct.reselect.inj h
    · exact List.nodup_nil
  have hhead : (allInds.map PitchAct.claim ++ [PitchAct.grant, PitchAct.reconcile]).Nodup := by decide
  refine ((hhead.append harms ?_).append hreselects ?_)
  · simp [List.Disjoint, allInds]
  · intro a ha hb
    cases first
    · cases hb
    · obtain ⟨t, -, rfl⟩ := List.mem_map.mp hb
      simp [allInds] at ha

theorem mem_pitchActs {order : List Nat} {s : State} {first : Bool} {a : PitchAct} :
    a ∈ merged order (s.pitchThreads first) ↔ a ∈ s.pitchActList first :=
  (merged_pitchThreads_perm order s first).mem_iff

theorem arm_mem_pitchActList {s : State} {first : Bool} {k : Nat} :
    .arm k ∈ s.pitchActList first ↔ k < s.T ∧ s.arms k = true := by
  rw [← mem_traysByOffset]
  cases first <;> simp [State.pitchActList, allInds]

theorem reselect_mem_pitchActList {s : State} {first : Bool} {k : Nat} :
    .reselect k ∈ s.pitchActList first ↔ first = true ∧ k ∈ s.reselects := by
  cases first <;> simp [State.pitchActList, allInds]

theorem filter_isReselect_arms (ts : List Nat) : (ts.map PitchAct.arm).filter PitchAct.isReselect = [] :=
  List.filter_eq_nil_iff.mpr fun a ha => by
    obtain ⟨t, -, rfl⟩ := List.mem_map.mp ha
    simp [PitchAct.isReselect]

theorem filter_isReselect_reselects (ts : List Nat) :
    (ts.map PitchAct.reselect).filter PitchAct.isReselect = ts.map .reselect :=
  List.filter_eq_self.mpr fun a ha => by
    obtain ⟨t, -, rfl⟩ := List.mem_map.mp ha
    rfl

theorem filter_isReselect_pitchActList (s : State) (first : Bool) :
    (s.pitchActList first).filter PitchAct.isReselect = if first then s.reselects.map .reselect else [] := by
  rw [State.pitchActList, List.filter_append, List.filter_append, filter_isReselect_arms]
  cases first
  · rfl
  · exact filter_isReselect_reselects _

/-- R9: the re-selections of a pitch event come from the highest offset to the lowest. -/
theorem reselects_ordered {order : List Nat} {s : State} {first : Bool} (hp : s.loop.pos < s.T)
    {pre mid post : List PitchAct} {j k : Nat}
    (h : merged order (s.pitchThreads first) = pre ++ .reselect j :: mid ++ .reselect k :: post) :
    s.offsetOf k < s.offsetOf j := by
  have hperm := merged_pitchThreads_perm order s first
  have hsub : (if first then s.reselects.map PitchAct.reselect else []).Sublist
      ((merged order (s.pitchThreads first)).filter PitchAct.isReselect) := by
    have hlast := (sublist_merged order (ts := s.pitchThreads first)
      (List.mem_append_right _ (List.mem_singleton_self _))).filter PitchAct.isReselect
    cases first
    · exact List.nil_sublist _
    · exact (filter_isReselect_reselects s.reselects).symm ▸ hlast
  have heq := hsub.eq_of_length
    ((congrArg List.length (filter_isReselect_pitchActList s first)).symm.trans (hperm.filter _).length_eq.symm)
  have hpair : (if first then s.reselects.map PitchAct.reselect else []).Pairwise
      fun a b => ∀ j k, a = .reselect j → b = .reselect k → s.offsetOf k < s.offsetOf j := by
    split
    · rw [List.pairwise_map]
      refine ((traysByOffset_pairwise hp).filter _).imp fun {j k} hjk j' k' hj hk => ?_
      obtain ⟨rfl, rfl⟩ := And.intro (PitchAct.reselect.inj hj) (PitchAct.reselect.inj hk)
      exact hjk
    · exact .nil
  rw [heq, h] at hpair
  have htwo : [PitchAct.reselect j, .reselect k].Sublist (pre ++ .reselect j :: mid ++ .reselect k :: post) :=
    (List.singleton_sublist.mpr (by simp)).append (List.singleton_sublist.mpr (by simp))
  have hpair' : [PitchAct.reselect j, .reselect k].Pairwise
      fun a b => ∀ j k, a = .reselect j → b = .reselect k → s.offsetOf k < s.offsetOf j :=
    hpair.sublist (htwo.filter PitchAct.isReselect)
  exact (List.pairwise_cons.mp hpair').1 _ (List.mem_singleton_self _) j k rfl rfl

end Sys2Proof.Machine
end

section
/-! SUPPORT. The launch windows at a pitch event (R41), the home sample (R11), the loop's timing (R5, R7). -/

namespace Sys2Proof.Machine

/-! ### The loop's timing (R5, R7, R138) -/

theorem pitchLoop_stalled {s : State} (h : s.loop.state = .stalled) :
    (pitchLoop s).loop.state = .starting ∧ (pitchLoop s).loop.measured = 0 ∧
      (pitchLoop s).loop.intervals = [] := by
  simp [pitchLoop, h, Loop.leaveStalled, Loop.advance]

theorem pitchLoop_unmeasured {s : State} (h : s.loop.state ≠ .stalled) (hp : s.loop.pitchTime = none) :
    (pitchLoop s).loop.state = s.loop.state ∧ (pitchLoop s).loop.measured = s.loop.measured ∧
      (pitchLoop s).loop.intervals = s.loop.intervals := by
  simp [pitchLoop, h, Loop.measure, hp, Loop.advance]

theorem pitchLoop_measured {s : State} {earlier : Nat} (h : s.loop.state ≠ .stalled)
    (hp : s.loop.pitchTime = some earlier) :
    (pitchLoop s).loop.intervals = pushInterval s.loop.intervals (s.clock.tick - earlier) ∧
      (s.loop.state = .running → (pitchLoop s).loop.state = .running) ∧
      (s.loop.state = .starting → (pitchLoop s).loop.measured = s.loop.measured + 1 ∧
        (pitchLoop s).loop.state = if 4 ≤ s.loop.measured + 1 then .running else .starting) := by
  refine ⟨by simp [pitchLoop, h, Loop.measure, hp, Loop.advance], fun hr => ?_, fun hs => ?_⟩
  · simp [pitchLoop, Loop.measure, hp, Loop.advance, hr]
  · simp [pitchLoop, Loop.measure, hp, Loop.advance, hs]

/-! ### The home sample (R11) -/

theorem homeSample_eq (home : Bool) (s : State) :
    homeSample home s = { s with
      loop := { s.loop with homeMiss := (homeSample home s).loop.homeMiss }
      notices := (homeSample home s).notices } := by
  unfold homeSample raiseIf
  split
  · split
    · rfl
    · split
      · rfl
      · split <;> rfl
  · rfl

theorem homeSample_off {s : State} (h : s.loop.pos ≠ 0) (home : Bool) : homeSample home s = s := if_neg h

theorem homeSample_seen {s : State} (h : s.loop.pos = 0) : (homeSample true s).loop.homeMiss = 0 := by
  simp [homeSample, h]

theorem homeSample_missed {s : State} (h : s.loop.pos = 0) (hm : s.loop.homeMiss < 2) :
    (homeSample false s).loop.homeMiss = s.loop.homeMiss + 1 := by
  have : ∀ b n sc u, (raiseIf b n sc u).loop = u.loop := fun b n sc u =>
    (congrArg State.loop (raiseIf_frame b n sc u) :)
  simp [homeSample, h, this, not_le.mpr hm]

theorem homeSample_flagged {s : State} (h : s.loop.pos = 0) (hm : s.loop.homeMiss = 1) :
    (homeSample false s).flagged .shore .homeMissing = true := by
  rw [homeSample, if_pos h, if_neg Bool.false_ne_true, if_neg (by omega), hm]
  exact flagged_raise _ (Scope.names_shore _) _

/-! ### Launch windows that count down (R41) -/

/-- An induction's windows one pitch event on, those at 0 closed. -/
def Induction.counted (r : Induction) : Induction :=
  { r with windows := (r.windows.map fun w => { w with left := w.left - 1 }).filter fun w => w.left ≠ 0 }

/-- The launch windows at a pitch event, before its acts. -/
def windowsCounted (s : State) : State := allInds.foldl (fun s i => expireWindows i (countWindows i s)) s

theorem pitchActs_eq (hold first : Bool) (order : List Nat) (eye : Bool) (s : State) :
    pitchActs hold first order eye s = (merged order ((windowsCounted s).pitchThreads first)).foldl
      (doAct hold eye) (windowsCounted s) := rfl

/-- What a launch taken as done does to a tray. -/
def Tray.confirmed (x : Tray) : Tray := x.mapBag fun b => { b with launchConfirmed := true }

theorem Tray.confirmed_confirmed (x : Tray) : x.confirmed.confirmed = x.confirmed := by cases x <;> rfl

/-- Some window of an induction's list that a pitch event brings to 0 names a tray. -/
def Induction.expires (r : Induction) (k : Nat) : Bool := r.windows.any fun w => w.tray = k && w.left ≤ 1

theorem foldl_confirmLaunch_inds (ws : List LaunchWindow) (s : State) :
    (ws.foldl (fun s w => confirmLaunch w.tray s) s).inds = s.inds :=
  foldl_keeps State.inds (fun s (w : LaunchWindow) => confirmLaunch w.tray s) (fun _ _ => rfl) ws s

theorem foldl_confirmLaunch_tray (ws : List LaunchWindow) (s : State) (k : Nat) :
    (ws.foldl (fun s w => confirmLaunch w.tray s) s).tray k =
      if ws.any (·.tray = k) then (s.tray k).confirmed else s.tray k := by
  induction ws generalizing s with
  | nil => rfl
  | cons w r ih =>
    rw [List.foldl_cons, ih, List.any_cons]
    by_cases hk : w.tray = k
    · have hw : (confirmLaunch k s).tray k = (s.tray k).confirmed := modBag_tray ..
      simp [hk, hw, Tray.confirmed_confirmed]
    · have hw : (confirmLaunch w.tray s).tray k = s.tray k := putTray_tray_ne _ _ _ _ (Ne.symm hk)
      simp [hw, hk]

theorem expireWindows_ind (i k : IndId) (s : State) :
    (expireWindows i s).ind k =
      if k = i then { s.ind k with windows := (s.ind k).windows.filter fun w => w.left ≠ 0 } else s.ind k := by
  have hf : (s.ind k).windows.filter (fun w => w.left != 0) = (s.ind k).windows.filter fun w => w.left ≠ 0 :=
    List.filter_congr fun w _ => Bool.eq_iff_iff.mpr (by simp)
  rw [expireWindows, modInd_ind_eq, State.ind, foldl_confirmLaunch_inds, ← State.ind, hf]

theorem expireCounted_ind (i k : IndId) (s : State) :
    (expireWindows i (countWindows i s)).ind k = if k = i then (s.ind k).counted else s.ind k := by
  rw [expireWindows_ind, countWindows, modInd_ind_eq]
  split <;> rfl

theorem expireCounted_tray (i : IndId) (k : Nat) (s : State) :
    (expireWindows i (countWindows i s)).tray k =
      if (s.ind i).expires k then (s.tray k).confirmed else s.tray k := by
  have hany : (((countWindows i s).ind i).windows.filter fun w => w.left = 0).any (·.tray = k) =
      (s.ind i).expires k := by
    rw [countWindows, modInd_ind, List.any_filter, List.any_map]
    exact List.any_congr rfl fun w => Bool.eq_iff_iff.mpr (by simp [and_comm, Nat.sub_eq_zero_iff_le])
  rw [← hany]
  exact foldl_confirmLaunch_tray ..

theorem foldl_expireCounted {is : List IndId} (h : is.Nodup) (s : State) :
    (∀ i, (is.foldl (fun s i => expireWindows i (countWindows i s)) s).ind i =
      if i ∈ is then (s.ind i).counted else s.ind i) ∧
    ∀ k, (is.foldl (fun s i => expireWindows i (countWindows i s)) s).tray k =
      if is.any fun i => (s.ind i).expires k then (s.tray k).confirmed else s.tray k := by
  induction is generalizing s with
  | nil => simp
  | cons j r ih =>
    obtain ⟨hj, hr⟩ := List.nodup_cons.mp h
    obtain ⟨hind, htray⟩ := ih hr (expireWindows j (countWindows j s))
    refine ⟨fun i => ?_, fun k => ?_⟩
    · rw [List.foldl_cons, hind, expireCounted_ind]
      by_cases hij : i = j
      · subst hij; simp [hj]
      · simp [hij]
    · have hrest : (r.any fun i => ((expireWindows j (countWindows j s)).ind i).expires k) =
          r.any fun i => (s.ind i).expires k := by
        rw [Bool.eq_iff_iff, List.any_eq_true, List.any_eq_true]
        refine exists_congr fun i => and_congr_right fun hi => ?_
        rw [expireCounted_ind, if_neg fun e : i = j => hj (e ▸ hi)]
      rw [List.foldl_cons, htray, hrest, expireCounted_tray, List.any_cons]
      cases (s.ind j).expires k <;> simp [Tray.confirmed_confirmed]

theorem windowsCounted_ind (s : State) (i : IndId) : (windowsCounted s).ind i = (s.ind i).counted := by
  rw [windowsCounted, (foldl_expireCounted (by decide) s).1, if_pos (by cases i <;> decide)]

theorem windowsCounted_tray (s : State) (k : Nat) :
    (windowsCounted s).tray k =
      if allInds.any fun i => (s.ind i).expires k then (s.tray k).confirmed else s.tray k :=
  (foldl_expireCounted (by decide) s).2 k

/-- Over what the count of the launch windows can reach: the inductions and the tray table. -/
def State.sansLaunches (s : State) : State :=
  { s with loop := { s.loop with trays := [] }, inds := State.reset.inds }

theorem windowsCounted_frame (s : State) : (windowsCounted s).sansLaunches = s.sansLaunches :=
  foldl_keeps State.sansLaunches (fun s i => expireWindows i (countWindows i s))
    (fun s i => foldl_keeps State.sansLaunches (fun s (w : LaunchWindow) => confirmLaunch w.tray s)
      (fun _ _ => rfl) _ (countWindows i s)) allInds s

theorem windowsCounted_eq (s : State) :
    windowsCounted s = { s with
      loop := { s.loop with trays := (windowsCounted s).loop.trays }, inds := (windowsCounted s).inds } := by
  have h := windowsCounted_frame s
  generalize windowsCounted s = u at *
  obtain ⟨loop, _⟩ := s; obtain ⟨loop', _⟩ := u
  cases loop; cases loop'
  simp_all [State.sansLaunches]

theorem windowsCounted_moves (s : State) : s.Moves (windowsCounted s) :=
  foldl_moves (fun _ _ => (countWindows_moves ..).trans (expireWindows_moves ..)) _ s

end Sys2Proof.Machine
end

section
/-! PROOF. The pitch event where home and P agree (O18). -/

namespace Sys2Proof.Machine

/-- The state in which the launch windows of a pitch event count down: the loop moved, home sampled. -/
def State.sampled (home : Bool) (s : State) : State := homeSample home s.pitched

section Sampled
variable (home : Bool) (s : State)

theorem sampled_eq :
    s.sampled home = { s with
      freeCount := s.freeCount + 1
      loop := { (pitchLoop s).loop with homeMiss := (s.sampled home).loop.homeMiss }
      inds := s.pitched.inds, notices := (s.sampled home).notices } := by
  rw [State.sampled, homeSample_eq, pitched_eq]

theorem sampled_loop :
    (s.sampled home).loop = { (pitchLoop s).loop with homeMiss := (s.sampled home).loop.homeMiss } :=
  (congrArg State.loop (sampled_eq home s) :)

theorem sampled_T : (s.sampled home).T = s.T :=
  (congrArg (·.trays.length) (sampled_loop home s)).trans (pitchLoop_T s)

theorem sampled_tray (k : Nat) : (s.sampled home).tray k = s.tray k := by
  rw [State.tray, sampled_loop]
  exact congrArg (·.getD k .empty) (pitchLoop_trays s)

theorem sampled_ind (i : IndId) :
    (s.sampled home).ind i = (s.ind i).settled (s.held i) ((pitchLoop (drawOrder s)).held i) := by
  have h : (s.sampled home).ind i = s.pitched.ind i := (congrArg (fun u : State => u.ind i) (sampled_eq home s) :)
  rw [h]
  exact settleHolds_ind ..

end Sampled

/-- The loop after any traffic: its trays and its hold apart it stands. -/
theorem loop_of_sansTraffic {s t : State} (h : t.sansTraffic = s.sansTraffic) :
    t.loop = { s.loop with trays := t.loop.trays, hold := t.loop.hold } := by
  have hl : { t.loop with trays := [], hold := false } = { s.loop with trays := [], hold := false } :=
    (congrArg State.loop h :)
  generalize s.loop = l, t.loop = l' at hl ⊢
  cases l; cases l'
  simp_all

/-- The acts keep P, so the tray reconciled is the same wherever its act stands in the order. -/
theorem foldl_doAct_congr {hold eye : Bool} {p : Nat} {f : State → PitchAct → State}
    (h : ∀ u a, u.loop.pos = p → f u a = doAct hold eye u a) (acts : List PitchAct) {u : State}
    (hp : u.loop.pos = p) : acts.foldl (doAct hold eye) u = acts.foldl f u := by
  induction acts generalizing u with
  | nil => rfl
  | cons a r ih =>
    rw [List.foldl_cons, List.foldl_cons, h u a hp]
    exact ih ((congrArg (·.loop.pos) (doAct_frame hold eye u a) :).trans hp)

/-- R141: a tray arms that was SELECTED with its arm position at its offset, its launch confirmed or not. -/
theorem arms_iff {s u : State} {k : Nat} (h : u.tray k = s.tray k ∨ u.tray k = (s.tray k).confirmed) :
    u.arms k = true ↔ ∃ b c d, s.tray k = .selected b c (u.offsetOf k) d := by
  unfold State.arms
  rcases h with h | h <;> rw [h] <;> cases s.tray k <;> simp [Tray.confirmed, Tray.mapBag]

/-- R9: the trays selected anew, their launches confirmed or not. -/
theorem mem_reselects {s u : State} {k : Nat} (h : u.tray k = s.tray k ∨ u.tray k = (s.tray k).confirmed) :
    k ∈ u.reselects ↔ k < u.T ∧ k ≠ u.loop.pos ∧ ∃ b, s.tray k = .loaded b ∧ b.isWaiting = false := by
  rw [State.reselects, List.mem_filter, mem_traysByOffset]
  rcases h with h | h <;> rw [h] <;> cases s.tray k <;>
    simp [Tray.confirmed, Tray.mapBag, BagRecord.isWaiting]

theorem firstPitch_iff (l : Loop) : l.firstPitch = true ↔ l.state = .stalled ∨ l.pitchTime = none := by
  simp [Loop.firstPitch]

theorem expires_iff {s : State} {k : Nat} : (allInds.any fun i => (s.ind i).expires k) = true ↔
    ∃ i, ∃ w ∈ (s.ind i).windows, w.tray = k ∧ w.left ≤ 1 := by
  simp only [List.any_eq_true, Induction.expires, Bool.and_eq_true, decide_eq_true_eq]
  exact ⟨fun ⟨i, _, h⟩ => ⟨i, h⟩, fun ⟨i, h⟩ => ⟨i, by cases i <;> decide, h⟩⟩

theorem windowsCounted_loop (s : State) :
    (windowsCounted s).loop = { s.loop with trays := (windowsCounted s).loop.trays } :=
  (congrArg State.loop (windowsCounted_eq s) :)

/-- What a pitch event changes before its acts: the loop, the inductions and the notices. -/
theorem windowsCounted_sampled_eq (home : Bool) (s : State) :
    windowsCounted (s.sampled home) = { s with
      freeCount := s.freeCount + 1, loop := (windowsCounted (s.sampled home)).loop
      inds := (windowsCounted (s.sampled home)).inds
      notices := (windowsCounted (s.sampled home)).notices } := by
  have heq := windowsCounted_eq (s.sampled home)
  have hloop := windowsCounted_loop (s.sampled home)
  have hnotices : (windowsCounted (s.sampled home)).notices = (s.sampled home).notices :=
    (congrArg State.notices heq :)
  rw [← hloop] at heq
  rw [hnotices]
  generalize windowsCounted (s.sampled home) = u at *
  exact heq.trans (congrArg (fun v : State => { v with loop := u.loop, inds := u.inds }) (sampled_eq home s) :)

/-- R41: a tray's record before the acts is its own, its launch confirmed where a window of it ends. -/
theorem windowsCounted_sampled_tray (home : Bool) (s : State) (k : Nat) :
    (windowsCounted (s.sampled home)).tray k =
      if allInds.any fun i => (s.ind i).expires k then (s.tray k).confirmed else s.tray k := by
  have hexp : ∀ i, ((s.sampled home).ind i).expires k = (s.ind i).expires k := fun i => by
    rw [sampled_ind, Induction.expires, Induction.settled_windows]; rfl
  simp only [windowsCounted_tray, sampled_tray, hexp]

/-- A pitch event where home and P agree, from its windows on: the loop, the acts and their order. -/
theorem pitchEvent_agreed {home check : Bool} {s : State} (hst : s.loop.state ≠ .stopped)
    (hp : home = false ∨ (s.loop.pos + 1) % s.T = 0) :
    exec (.pitchEvent home check) s = .next (pitchActs s.loop.hold s.loop.firstPitch
      (Config.freeOrder s.freeCount) check (s.sampled home)) := exec_pitchEvent_agreed hst hp check

/-- Settles O18: the loop's own part, then the acts in whatever order the free choice gives. -/
theorem pitchEventMovesTheLoop : Obligations.pitchEventMovesTheLoop := by
  refine ⟨fun home check s => ⟨fun h => exec_pitchEvent_stopped h home check, fun hst hagree => ?_⟩,
    fun v u => ⟨settleHolds_eq v u, settleHolds_ind v u⟩⟩
  refine ⟨_, pitchEvent_agreed hst hagree, ?_⟩
  generalize Config.freeOrder s.freeCount = order
  have hframe := pitchActs_frame s.loop.hold s.loop.firstPitch order check (s.sampled home)
  have hmoves := pitchActs_moves s.loop.hold s.loop.firstPitch order check (s.sampled home)
  have hacts := pitchActs_eq s.loop.hold s.loop.firstPitch order check (s.sampled home)
  generalize pitchActs s.loop.hold s.loop.firstPitch order check (s.sampled home) = t at *
  have hloop := loop_of_sansTraffic hframe
  have hsampled := sampled_loop home s
  have hmoved := pitchLoop_loop s
  have htiming : t.loop.state = (pitchLoop s).loop.state ∧ t.loop.measured = (pitchLoop s).loop.measured ∧
      t.loop.intervals = (pitchLoop s).loop.intervals := by rw [hloop, hsampled]; exact ⟨rfl, rfl, rfl⟩
  have hpos : t.loop.pos = (s.loop.pos + 1) % s.T := by rw [hloop, hsampled, hmoved]
  have hT : t.T = s.T := hmoves.trays.trans (sampled_T home s)
  obtain ⟨hstate, hmeasured, hintervals⟩ := htiming
  have hmiss : t.loop.homeMiss = (s.sampled home).loop.homeMiss := by rw [hloop]
  have hpitchedPos : s.pitched.loop.pos = (s.loop.pos + 1) % s.T := by rw [pitched_loop, hmoved]
  have hpitchedMiss : s.pitched.loop.homeMiss = s.loop.homeMiss := by rw [pitched_loop, hmoved]
  have hv := sampled_eq home s
  rw [hstate, hmeasured, hintervals]
  refine ⟨hpos, hT, ?_, ?_, ?_, pitchLoop_stalled, pitchLoop_unmeasured, fun earlier => pitchLoop_measured,
    fun h0 => ?_, fun h0 hseen => ?_, fun h0 hlow => ⟨fun hm => ?_, fun hm => ?_⟩,
    (congrArg State.clock hframe :).trans (congrArg State.clock hv :),
    (congrArg State.tagWindows hframe :).trans (congrArg State.tagWindows hv :),
    (congrArg State.maps hframe :).trans (congrArg State.maps hv :),
    (congrArg State.ports hframe :).trans (congrArg State.ports hv :),
    (congrArg State.cause hframe :).trans (congrArg State.cause hv :),
    (congrArg State.blockedN hframe :).trans (congrArg State.blockedN hv :),
    (congrArg State.resetLow hframe :).trans (congrArg State.resetLow hv :),
    (congrArg State.pending hframe :).trans (congrArg State.pending hv :),
    (congrArg State.incoming hframe :).trans (congrArg State.incoming hv :),
    (congrArg State.arriving hframe :).trans (congrArg State.arriving hv :),
    (congrArg State.freeCount hframe :).trans (congrArg State.freeCount hv :),
    fun sl => ?_, fun i => ?_, fun c => ?_, windowsCounted (s.sampled home),
    merged order ((windowsCounted (s.sampled home)).pitchThreads s.loop.firstPitch), ?_, ?_⟩
  · rw [hloop, hsampled, hmoved]
  · rw [hloop, hsampled, hmoved]
  · rw [hloop, hsampled, hmoved]
  · rw [hmiss, State.sampled, homeSample_off (hpitchedPos ▸ h0), hpitchedMiss]
  · rw [hmiss, hseen, State.sampled, homeSample_seen (hpitchedPos.trans h0)]
  · rw [hmiss, hlow, State.sampled, homeSample_missed (hpitchedPos.trans h0) (hpitchedMiss ▸ hm), hpitchedMiss]
  · refine hmoves.flags _ _ ?_
    rw [hlow]
    exact homeSample_flagged (hpitchedPos.trans h0) (hpitchedMiss.trans hm)
  · have hslot : (s.sampled home).slot sl = s.slot sl := (congrArg (State.slot · sl) hv :)
    exact hslot ▸ hmoves.slots sl
  · obtain ⟨hoffset, henabled, hreceiver, -⟩ := hmoves.inds i
    rw [hoffset, henabled, hreceiver, sampled_ind]
    exact ⟨Induction.settled_offset .., Induction.settled_enabled .., Induction.settled_receiver ..⟩
  · have hchute : (s.sampled home).chute c = s.chute c := (congrArg (State.chute · c) hv :)
    exact hchute ▸ ⟨(hmoves.chutes c).cfg, (hmoves.chutes c).eye⟩
  · refine hacts.trans (foldl_doAct_congr (p := (s.loop.pos + 1) % s.T) (fun u a hu => ?_) _ ?_)
    · rw [← hu]
      cases a <;> rfl
    · rw [windowsCounted_loop, hsampled, hmoved]
  have htray := windowsCounted_sampled_tray home s
  have hcases : ∀ k, (windowsCounted (s.sampled home)).tray k = s.tray k ∨
      (windowsCounted (s.sampled home)).tray k = (s.tray k).confirmed := fun k => by
    rw [htray]
    exact (ite_eq_or_eq ..).symm
  have hT1 : (windowsCounted (s.sampled home)).T = s.T :=
    (windowsCounted_moves _).trays.trans (sampled_T home s)
  have hpos1 : (windowsCounted (s.sampled home)).loop.pos = t.loop.pos := by
    rw [windowsCounted_loop, hloop]
  have hoff : ∀ k, (windowsCounted (s.sampled home)).offsetOf k = t.offsetOf k := fun k => by
    rw [State.offsetOf, State.offsetOf, hpos1, hT1, hT]
  refine ⟨windowsCounted_sampled_eq home s, ?_, hT1, fun i => ?_, fun k => ⟨fun hend => ?_, fun hopen => ?_⟩,
    (merged_pitchThreads_perm ..).nodup_iff.mpr (pitchActList_nodup ..), fun i => ?_, ?_, ?_, fun k => ?_,
    fun k => ?_, fun pre mid post j k h => ?_⟩
  · rw [windowsCounted_loop, hloop, hsampled, hmoved]
  · rw [windowsCounted_ind, sampled_ind, Induction.counted, Induction.settled_windows]
  · rw [htray, if_pos (expires_iff.mpr hend)]
    rfl
  · rw [htray, if_neg]
    rintro hex
    obtain ⟨i, w, hw, hk, hl⟩ := expires_iff.mp hex
    exact absurd hl (not_le.mpr (hopen i w hw hk))
  · rw [mem_pitchActs]
    cases i <;> simp [State.pitchActList, allInds]
  · rw [mem_pitchActs]
    simp [State.pitchActList]
  · rw [mem_pitchActs]
    simp [State.pitchActList]
  · rw [mem_pitchActs, arm_mem_pitchActList, hT1, arms_iff (hcases k), hoff]
  · rw [mem_pitchActs, reselect_mem_pitchActList, firstPitch_iff, mem_reselects (hcases k), hT1, hpos1]
  · have hk : PitchAct.reselect k ∈ merged order ((windowsCounted (s.sampled home)).pitchThreads s.loop.firstPitch) := by
      rw [h]; simp
    rw [mem_pitchActs, reselect_mem_pitchActList, mem_reselects (hcases k), hT1] at hk
    rw [← hoff, ← hoff]
    refine reselects_ordered ?_ h
    rw [hpos1, hpos, hT1]
    exact Nat.mod_lt _ (by omega)

end Sys2Proof.Machine
end

section
/-! SUPPORT. The bounds of the tables, said record by record, and what keeps them (R10, R11, R34, R138, R147). -/

namespace Sys2Proof.Machine

/-- The bounds of the loop: T and P, the home misses, the intervals. -/
structure Loop.Sound (l : Loop) : Prop where
  least : 64 ≤ l.trays.length
  most : l.trays.length ≤ 512
  pos : l.pos < l.trays.length
  homeMiss : l.homeMiss ≤ 2
  intervals : l.intervals.length ≤ 4

/-- R30, R31: an open frame has a data character still to come, and those stored are good. -/
def Receiver.Sound (r : Receiver) : Prop :=
  ∀ k stored, r = .inFrame k stored → stored.length < k.dataLength ∧
    ∀ n v, stored[n]? = some v → k.badAt n v = false

/-- The bounds of one induction. -/
structure Induction.Sound (r : Induction) : Prop where
  queue : r.QueueOk
  receiver : r.receiver.Sound

/-- The bounds of the tables, record by record. -/
structure State.Bounded (s : State) : Prop where
  loop : s.loop.Sound
  inds : ∀ i, (s.ind i).Sound
  chutes : ∀ c, (s.chute c).windows.length ≤ 4
  fires : s.fireQueue.length ≤ 32
  blocked : s.blocked.length ≤ 16

theorem boundsLaw_iff (s : State) : s.boundsLaw ↔ s.Bounded := by
  constructor
  · rintro ⟨hleast, hmost, hpos, hmiss, hints, hqueues, hreceivers, hchutes, hfires, hblocked⟩
    exact ⟨⟨hleast, hmost, hpos, hmiss, hints⟩, fun i => ⟨hqueues i, hreceivers i⟩, hchutes, hfires, hblocked⟩
  · rintro ⟨⟨hleast, hmost, hpos, hmiss, hints⟩, hinds, hchutes, hfires, hblocked⟩
    exact ⟨hleast, hmost, hpos, hmiss, hints, fun i => (hinds i).queue, fun i => (hinds i).receiver, hchutes,
      hfires, hblocked⟩

/-! ### Changes that keep the bounds -/

section Bounded
variable {s t : State}

/-- A change of what has no bound. -/
theorem State.Bounded.same (h : s.Bounded) (loop : t.loop = s.loop := by rfl) (inds : t.inds = s.inds := by rfl)
    (chutes : t.chutes = s.chutes := by rfl) (fires : t.fireQueue = s.fireQueue := by rfl)
    (blocked : t.blocked = s.blocked := by rfl) : t.Bounded where
  loop := loop ▸ h.loop
  inds i := by rw [State.ind, inds]; exact h.inds i
  chutes c := by rw [State.chute, chutes]; exact h.chutes c
  fires := fires ▸ h.fires
  blocked := blocked ▸ h.blocked

/-- A change of slots and notices. -/
theorem State.Bounded.ofSlots (h : s.Bounded) (e : t.sansSlots = s.sansSlots) : t.Bounded :=
  h.same (congrArg State.loop e :) (congrArg State.inds e :) (congrArg State.chutes e :)
    (congrArg State.fireQueue e :) (congrArg State.blocked e :)

/-- Traffic keeps the bounds. -/
theorem State.Bounded.moves (h : s.Bounded) (m : s.Moves t) : t.Bounded where
  loop := by
    have hl := loop_of_sansTraffic m.frame
    have hT : t.loop.trays.length = s.loop.trays.length := m.trays
    obtain ⟨hleast, hmost, hpos, hmiss, hints⟩ := h.loop
    refine ⟨hT ▸ hleast, hT ▸ hmost, ?_, ?_, ?_⟩
    · rw [hT, hl]; exact hpos
    · rw [hl]; exact hmiss
    · rw [hl]; exact hints
  inds i := ⟨(m.inds i).queue (h.inds i).queue, (m.inds i).receiver ▸ (h.inds i).receiver⟩
  chutes c := (m.chutes c).windows (h.chutes c)
  fires := m.fires h.fires
  blocked := m.blocked h.blocked

/-- A change of the loop within its bounds. -/
theorem State.Bounded.withLoop (h : s.Bounded) (loop : t.loop.Sound) (inds : t.inds = s.inds := by rfl)
    (chutes : t.chutes = s.chutes := by rfl) (fires : t.fireQueue = s.fireQueue := by rfl)
    (blocked : t.blocked = s.blocked := by rfl) : t.Bounded where
  loop := loop
  inds i := by rw [State.ind, inds]; exact h.inds i
  chutes c := by rw [State.chute, chutes]; exact h.chutes c
  fires := fires ▸ h.fires
  blocked := blocked ▸ h.blocked

/-- Emptying the fire queue keeps the bounds. -/
theorem State.Bounded.noFires (h : s.Bounded) : ({ s with fireQueue := [] } : State).Bounded where
  loop := h.loop
  inds := h.inds
  chutes := h.chutes
  fires := Nat.zero_le _
  blocked := h.blocked

theorem State.Bounded.modInd (h : s.Bounded) {i : IndId} {f : Induction → Induction}
    (hf : (f (s.ind i)).Sound) : (modInd i f s).Bounded where
  loop := h.loop
  inds k := by
    rw [modInd_ind_eq]
    split
    · next e => exact e ▸ hf
    · exact h.inds k
  chutes := h.chutes
  fires := h.fires
  blocked := h.blocked

theorem State.Bounded.putChute (h : s.Bounded) {c : ChuteId} {x : Chute} (hx : x.windows.length ≤ 4) :
    (putChute c x s).Bounded where
  loop := h.loop
  inds := h.inds
  chutes k := by
    rw [chute_set c k x rfl]
    split
    · exact hx
    · exact h.chutes k
  fires := h.fires
  blocked := h.blocked

/-- What is judged after a chute record is rewritten is traffic's. -/
theorem putChute_moves_setChute (c : ChuteId) (x : Chute) (s : State) :
    (Machine.putChute c x s).Moves (setChute c x s) := by
  unfold setChute
  dsimp only
  split
  · exact .refl _
  · split
    · exact (judgeBlocked_moves _).trans (judgeStrayArmed_moves _)
    · exact judgeBlocked_moves _

theorem State.Bounded.setChute (h : s.Bounded) {c : ChuteId} {x : Chute} (hx : x.windows.length ≤ 4) :
    (setChute c x s).Bounded := (h.putChute hx).moves (putChute_moves_setChute c x s)

theorem State.Bounded.modChute (h : s.Bounded) {c : ChuteId} {f : Chute → Chute}
    (hf : (f (s.chute c)).windows = (s.chute c).windows := by rfl) : (modChute c f s).Bounded :=
  h.setChute (hf ▸ h.chutes c)

end Bounded

theorem Induction.sound_reset : Induction.reset.Sound :=
  ⟨⟨Nat.zero_le _, fun _ => rfl⟩, fun _ _ h => by cases h⟩

theorem Receiver.sound_idle : Receiver.idle.Sound := fun _ _ h => by cases h

theorem Receiver.sound_skipping : Receiver.skipping.Sound := fun _ _ h => by cases h

/-- R30: a frame just opened has all of its data characters to come. -/
theorem Receiver.sound_opened (k : FrameKind) : (Receiver.inFrame k []).Sound := by
  rintro _ _ ⟨⟩
  exact ⟨by cases k <;> decide, fun _ _ h => by cases h⟩

/-- R31: a good character stored before the last of its frame. -/
theorem Receiver.sound_stored {k : FrameKind} {stored : List Byte} {v : Byte}
    (h : (Receiver.inFrame k stored).Sound) (hgood : k.badAt stored.length v = false)
    (hlast : stored.length + 1 < k.dataLength) : (Receiver.inFrame k (stored ++ [v])).Sound := by
  obtain ⟨-, hstored⟩ := h k stored rfl
  rintro _ _ ⟨⟩
  refine ⟨by simpa using hlast, fun n w hn => ?_⟩
  rcases Nat.lt_trichotomy n stored.length with hlt | rfl | hgt
  · exact hstored n w (by rwa [List.getElem?_append_left hlt] at hn)
  · obtain rfl : v = w := by simpa using hn
    exact hgood
  · rw [List.getElem?_eq_none (by simp; omega)] at hn
    cases hn

end Sys2Proof.Machine
end

section
/-! SUPPORT. The inductions: read frames, launch answers, the line receiver (R30 to R44). -/

namespace Sys2Proof.Machine

/-! ### What read frames and launch answers move -/

theorem overrun_moves (i : IndId) (s : State) : s.Moves (overrun i s) :=
  .raised (modInd_moves ⟨rfl, rfl, rfl, fun _ => ⟨Nat.zero_le _, fun _ => rfl⟩⟩)

theorem Induction.append_moves (rec : ReadRecord) {r : Induction} (hlen : r.queue.length ≤ 3)
    (hres : r.resync = false) : r.Moves (r.append rec) := by
  refine .trans (b := { r with
    queue := r.queue ++ [rec], waitCount := if r.queue.isEmpty then 0 else r.waitCount })
    ⟨rfl, rfl, rfl, fun _ => ⟨?_, fun e => ?_⟩⟩ (Induction.judgeQueue_moves _)
  · simpa using Nat.lt_succ_of_le hlen
  · exact absurd (hres.symm.trans e) Bool.false_ne_true

theorem Induction.prepend_moves (rec : ReadRecord) {r : Induction} (hlen : r.queue.length < 4)
    (hres : r.resync = false) : r.Moves { r with queue := rec :: r.queue, waitCount := 0 }.judgeQueue :=
  .trans (b := { r with queue := rec :: r.queue, waitCount := 0 })
    ⟨rfl, rfl, rfl, fun _ => ⟨hlen, fun e => absurd (hres.symm.trans e) Bool.false_ne_true⟩⟩
    (Induction.judgeQueue_moves _)

theorem queueRead_moves (i : IndId) (rec : ReadRecord) (s : State) : s.Moves (queueRead i rec s) := by
  unfold queueRead
  split
  · exact .refl s
  · next hres =>
    split
    · next hlen => exact modInd_moves (Induction.append_moves rec hlen (Bool.not_eq_true _ ▸ hres))
    · exact overrun_moves i s

theorem takeRead_moves (i : IndId) (rec : ReadRecord) (s : State) : s.Moves (takeRead i rec s) := by
  have hqueued : s.Moves (settleHolds s (queueRead i rec s)) := (queueRead_moves ..).trans (settleHolds_moves ..)
  unfold takeRead
  exact ite_moves (fun _ => hqueued.trans (.trans (modInd_moves .quiet) (resendHold_moves ..))) fun _ => hqueued

theorem takeFailure_moves {t : Nat} {s u : State} (h : takeFailure t s = some u) : s.Moves u := by
  unfold takeFailure at h
  split at h
  case h_1 => exact Option.some.inj h ▸ emptyTray_moves ..
  case h_2 => exact Option.some.inj h ▸ (returnCommitted_moves ..).trans (emptyTray_moves ..)
  case h_3 =>
    exact Option.some.inj h ▸ (removeFire_moves ..).trans ((returnCommitted_moves ..).trans (emptyTray_moves ..))
  case h_4 =>
    exact Option.some.inj h ▸ (returnFill_moves ..).trans ((removeWindow_moves ..).trans (emptyTray_moves ..))
  case h_5 => exact Option.some.inj h ▸ (returnFill_moves ..).trans (emptyTray_moves ..)
  all_goals cases h

theorem returnRead_moves (i : IndId) (rec : ReadRecord) (s : State) : s.Moves (returnRead i rec s) := by
  unfold returnRead
  dsimp only
  split
  · exact .refl s
  · next hres =>
    split
    · exact overrun_moves i s
    · next hlen =>
      rw [not_or, Bool.not_eq_true] at hres
      exact modInd_moves (Induction.prepend_moves rec (not_le.mp hlen) hres.1)

theorem failLaunch_moves (i : IndId) (w : LaunchWindow) (s : State) : s.Moves (failLaunch i w s) := by
  unfold failLaunch
  split
  · next h => exact (takeFailure_moves h).trans ((undoNote_moves ..).trans (returnRead_moves ..))
  · exact .refl s

theorem takeAnswer_moves (i : IndId) (kind : AnswerKind) (t : Nat) (s : State) :
    s.Moves (takeAnswer i kind t s) := by
  unfold takeAnswer
  split
  · refine (modInd_moves (i := i) (f := fun r =>
      { r with windows := r.windows.eraseP fun w => w.tray = t }) .quiet).trans ?_
    cases kind
    · exact confirmLaunch_moves ..
    · exact (failLaunch_moves ..).trans (settleHolds_moves ..)
  · exact raise_moves ..

theorem takeSized_moves (i : IndId) (reading : Reading) (size : Byte) (s : State) :
    s.Moves (takeSized i reading size s) := by
  unfold takeSized
  split
  · exact takeRead_moves ..
  · exact .refl s

theorem takeFrame_moves (i : IndId) (k : FrameKind) (data : List Byte) (s : State) :
    s.Moves (takeFrame i k data s) := by
  cases k with
  | bag | multi | noread => exact takeSized_moves ..
  | done => exact takeAnswer_moves i .done _ s
  | fail => exact takeAnswer_moves i .fail _ s

/-! ### The receiver -/

section Receiver
variable {s : State} (h : s.Bounded) (i : IndId)
include h

theorem setReceiver_bounded {r : Receiver} (hr : r.Sound) : (setReceiver i r s).Bounded :=
  h.modInd ⟨(h.inds i).queue, hr⟩

/-- R31: a frame dropped with LINE_ERROR. -/
theorem dropFrame_bounded {r : Receiver} (hr : r.Sound) :
    (raise .lineError .hall (setReceiver i r s)).Bounded :=
  (setReceiver_bounded h i hr).moves (raise_moves ..)

theorem receiveMark_bounded (k : FrameKind) : (receiveMark i k s).Bounded := by
  unfold receiveMark
  split
  case h_1 | h_2 => exact setReceiver_bounded h i (Receiver.sound_opened k)
  case h_3 => exact dropFrame_bounded h i (Receiver.sound_opened k)

theorem receiveFault_bounded (bad : CharFault) : (receiveFault i bad s).Bounded := by
  cases bad with
  | interrupt k => exact receiveMark_bounded h i k
  | unknownKind =>
    rw [receiveFault]
    split
    case h_3 => exact h
    all_goals exact dropFrame_bounded h i Receiver.sound_skipping
  | badStop =>
    rw [receiveFault]
    split
    case h_1 => exact dropFrame_bounded h i Receiver.sound_skipping
    all_goals exact h

theorem receiveBadData_bounded (field : DataField) (value : Byte) : (receiveBadData i field value s).Bounded := by
  unfold receiveBadData
  split
  · split
    · exact dropFrame_bounded h i Receiver.sound_skipping
    · exact h
  all_goals exact h

theorem whenEnabled_bounded {f : State → State} (hf : (f s).Bounded) : (whenEnabled i f s).Bounded := by
  unfold whenEnabled
  split
  · exact hf
  · exact h

theorem receiveData_bounded (v : Byte) : (receiveData i v s).Bounded := by
  unfold receiveData
  split
  · next k stored hr =>
    split
    · exact dropFrame_bounded h i Receiver.sound_skipping
    · next hgood =>
      split
      · exact (setReceiver_bounded h i Receiver.sound_idle).moves (takeFrame_moves i k _ _)
      · next hlast =>
        refine setReceiver_bounded h i (Receiver.sound_stored (hr ▸ (h.inds i).receiver) ?_ (not_le.mp hlast))
        exact Bool.not_eq_true _ ▸ hgood
  all_goals exact h

theorem receiveChar_bounded (c : LineChar) : (receiveChar i c s).Bounded := by
  refine whenEnabled_bounded h i ?_
  split
  · exact receiveFault_bounded h i _
  · split
    · split
      · exact receiveMark_bounded h i _
      · exact receiveFault_bounded h i _
    · exact receiveData_bounded h i _

theorem completeFrame_bounded (k : FrameKind) (data : List Byte) {take : State → State}
    (htake : ∀ u : State, u.Moves (take u)) : (completeFrame i k data take s).Bounded := by
  unfold completeFrame
  split
  · exact (setReceiver_bounded h i Receiver.sound_idle).moves (htake _)
  · exact h

end Receiver

theorem nextChar_bounded {s : State} (h : s.Bounded) (i : IndId) : (nextChar s i).Bounded := by
  unfold nextChar
  split
  · exact receiveChar_bounded h.same i _
  · exact h

theorem receiveChars_bounded {s : State} (h : s.Bounded) : (receiveChars s).Bounded := by
  unfold receiveChars
  generalize merged _ _ = is
  have hdrawn : (drawOrder s).Bounded := h.same
  generalize drawOrder s = u at *
  induction is generalizing u with
  | nil => exact hdrawn
  | cons i r ih => exact ih _ (nextChar_bounded hdrawn i)

end Sys2Proof.Machine
end

section
/-! SUPPORT. The loop's and the chutes' own events keep the bounds (R6, R10, R12, R128, R145 to R150). -/

namespace Sys2Proof.Machine

/-- Whatever state a command leaves is within the bounds. -/
def Out.Bounded (o : Out) : Prop := ∀ t, o = .next t → t.Bounded

theorem Out.bounded_next {t : State} (h : t.Bounded) : Out.Bounded (.next t) :=
  fun _ e => Host.Outcome.next.inj e ▸ h

/-! ### The loop -/

section LoopEvents
variable {s : State} (h : s.Bounded)
include h

/-- R8, R25: a loop whose state and timing alone change. -/
theorem loop_sound_of {l : Loop} (trays : l.trays.length = s.loop.trays.length) (pos : l.pos = s.loop.pos)
    (homeMiss : l.homeMiss = s.loop.homeMiss) (intervals : l.intervals.length ≤ 4) : l.Sound :=
  ⟨trays ▸ h.loop.least, trays ▸ h.loop.most, by rw [pos, trays]; exact h.loop.pos, homeMiss ▸ h.loop.homeMiss,
    intervals⟩

/-- R6, R8: a loop that stops or stalls. -/
theorem enterStalled_bounded : (enterStalled s).Bounded := by
  have hc := h.moves (cancelAll_moves (fun x => x.isSelected || x.isArmed) s)
  have hstalled : State.Bounded { cancelAll (fun x => x.isSelected || x.isArmed) s with
      fireQueue := []
      loop := { (cancelAll (fun x => x.isSelected || x.isArmed) s).loop with
        state := .stalled, stallFrom := none } } :=
    hc.noFires.withLoop (loop_sound_of hc rfl rfl rfl hc.loop.intervals)
  exact (hstalled.moves (raise_moves ..)).moves (settleHolds_moves s _)

theorem stopMotion_bounded : (stopMotion s).Bounded := by
  have hc := h.moves (cancelAll_moves Tray.isArmed s)
  have hstopped : State.Bounded { cancelAll Tray.isArmed s with
      fireQueue := []
      loop := { (cancelAll Tray.isArmed s).loop with
        state := .stopped, stallFrom := none, pitchTime := none, measured := 0, intervals := [] } } :=
    hc.noFires.withLoop (loop_sound_of hc rfl rfl rfl (Nat.zero_le _))
  exact hstopped.moves (settleHolds_moves s _)

omit h in
theorem length_pushInterval {xs : List Nat} (h : xs.length ≤ 4) (dt : Nat) : (pushInterval xs dt).length ≤ 4 := by
  unfold pushInterval
  split
  · simpa using by omega
  · simpa using by omega

/-- R5, R7, R10: P advances within T, the intervals stay 4 at most. -/
theorem pitchLoop_bounded : (pitchLoop s).Bounded := by
  have hl := pitchLoop_loop s
  obtain ⟨hleast, hmost, hpos, hmiss, hints⟩ := h.loop
  refine h.withLoop ⟨?_, ?_, ?_, ?_, ?_⟩
  · rwa [pitchLoop_trays]
  · rwa [pitchLoop_trays]
  · rw [pitchLoop_trays, pitchLoop_pos]
    exact Nat.mod_lt _ (by change 0 < s.loop.trays.length; omega)
  · rw [hl]; exact hmiss
  · by_cases hst : s.loop.state = .stalled
    · rw [(pitchLoop_stalled hst).2.2]
      exact Nat.zero_le _
    · cases hp : s.loop.pitchTime with
      | none => rw [(pitchLoop_unmeasured hst hp).2.2]; exact hints
      | some earlier => rw [(pitchLoop_measured hst hp).1]; exact length_pushInterval hints _

theorem pitched_bounded : s.pitched.Bounded :=
  (pitchLoop_bounded (s := drawOrder s) h.same).moves (settleHolds_moves ..)

/-- R11: the misses stop at 2. -/
theorem homeSample_bounded (home : Bool) : (homeSample home s).Bounded := by
  obtain ⟨hleast, hmost, hpos, hmiss, hints⟩ := h.loop
  unfold homeSample
  split
  · split
    · exact h.withLoop ⟨hleast, hmost, hpos, Nat.zero_le _, hints⟩
    · split
      · exact h
      · next hlt =>
        exact (h.withLoop (t := { s with loop := { s.loop with homeMiss := s.loop.homeMiss + 1 } })
          ⟨hleast, hmost, hpos, not_le.mp hlt, hints⟩).moves (raiseIf_moves ..)
  · exact h

/-- R12 steps 1 and 2. -/
theorem slipCleared_bounded : s.slipCleared.Bounded := by
  have hunits : ({ s with fireQueue := [] } : State).Moves
      (s.loop.trays.foldl slipUnits (dropWindows { s with fireQueue := [] })) := by
    refine (dropWindows_moves _).trans (foldl_moves (fun u x => ?_) _ _)
    unfold slipUnits
    split
    case h_1 | h_2 => exact returnCommitted_moves ..
    all_goals exact .refl u
  have hu := h.noFires.moves hunits
  have hlen : s.slipCleared.loop.trays.length = s.loop.trays.length :=
    (List.length_map _).trans hunits.trays
  refine hu.withLoop ⟨hlen ▸ h.loop.least, hlen ▸ h.loop.most, ?_, Nat.zero_le _, hu.loop.intervals⟩
  rw [hlen]
  exact (Nat.zero_le _).trans_lt h.loop.pos

omit h in
/-- R12: what a slip tells of the bags it loses. -/
theorem slipCleared_moves_slipTrays (s : State) : s.slipCleared.Moves (slipTrays s) := by
  have hzero : ∀ (p : Prop) [Decidable p] (sl : Slot) (u : State), u.Moves ((if p then reportZero sl else id) u) :=
    fun p _ sl u => by
      split
      · exact reportZero_moves sl u
      · exact .refl u
  rw [slipTrays_def]
  refine .trans ?_ (raiseUntracked_moves ..)
  refine .raised (State.Moves.trans (b := s.slipLost) ?_ ?_)
  · exact foldl_moves (fun u b => loseBag_moves b u) _ _
  · exact (hzero ..).trans (hzero ..)

theorem trackSlip_bounded (eye : Bool) : (trackSlip eye s).Bounded :=
  (((slipCleared_bounded h).moves (slipCleared_moves_slipTrays s)).moves (reconcile_moves 0 eye _)).moves
    (settleHolds_moves ..)

theorem exec_pitchEvent_bounded (home check : Bool) : Out.Bounded (exec (.pitchEvent home check) s) := by
  by_cases hst : s.loop.state = .stopped
  · rw [exec_pitchEvent_stopped hst]
    exact Out.bounded_next h.same
  by_cases hagree : home = false ∨ (s.loop.pos + 1) % s.T = 0
  · rw [exec_pitchEvent_agreed hst hagree]
    exact Out.bounded_next ((homeSample_bounded (pitched_bounded h) home).moves (pitchActs_moves ..))
  · rw [not_or, Bool.not_eq_false] at hagree
    rw [hagree.1, exec_pitchEvent_slip hst hagree.2]
    exact Out.bounded_next (trackSlip_bounded (pitched_bounded h) check)

/-! ### The chutes -/

/-- R128: an occlusion starts or ends at a chute eye. -/
theorem startOcclusion_bounded (c : ChuteId) : (startOcclusion c s).Bounded := h.putChute (h.chutes c)

theorem clearEye_bounded (c : ChuteId) : (clearEye c s).Bounded :=
  (h.modChute (c := c) (f := fun x => { x with eye := false, jam := false, occludedFrom := none })).moves
    ((judgeBlocked_moves _).trans ((judgeStrayArmed_moves _).trans (judgeStandby_moves c _)))

theorem setJam_bounded (c : ChuteId) : (setJam c s).Bounded :=
  (h.modChute (c := c) (f := fun x => { x with jam := true })).moves (raise_moves ..)

omit h in
theorem confirmTray_moves (c : ChuteId) (w : ConfirmWindow) (later : List ConfirmWindow) (s : State) :
    s.Moves (confirmTray c w later s) := by
  unfold confirmTray
  split
  case h_1 => exact ite_moves (fun _ => (emptyTray_moves ..).trans (sortBag_moves ..)) fun _ => .refl s
  all_goals exact .refl s

omit h in
theorem confirmOldest_moves (c : ChuteId) (s : State) : s.Moves (confirmOldest c s) := by
  unfold confirmOldest
  split
  · next w r hw =>
    refine (putChute_moves (c := c) (x := { s.chute c with windows := r, failures := 0 })
      ⟨rfl, rfl, fun hlen => ?_⟩).trans (confirmTray_moves ..)
    rw [hw] at hlen
    exact (Nat.le_succ _).trans hlen
  · exact .refl s

omit h in
theorem length_endedWindow {tick : Nat} {ws pre post : List ConfirmWindow} {w : ConfirmWindow}
    (h : endedWindow tick ws = some (pre, w, post)) : (pre ++ post).length ≤ ws.length := by
  unfold endedWindow at h
  split at h
  · next hd =>
    cases h
    have hws := congrArg List.length (List.takeWhile_append_dropWhile (p := fun w => decide (tick < w.endTick))
      (l := ws))
    rw [hd, List.length_append, List.length_cons] at hws
    rw [List.length_append]
    omega
  · cases h

omit h in
/-- R150: a confirm window that ends. -/
theorem closeWindow_moves {c : ChuteId} {s : State} {pre post : List ConfirmWindow} {w : ConfirmWindow}
    (h : endedWindow s.clock.tick (s.chute c).windows = some (pre, w, post)) :
    s.Moves (closeUnconfirmed c w post (setWindows c (pre ++ post) s)) :=
  (setWindows_moves fun hlen => (length_endedWindow h).trans hlen).trans (closeUnconfirmed_moves ..)

end LoopEvents

end Sys2Proof.Machine
end

section
/-! SUPPORT. The requests keep the bounds, each by its owning block's rule. -/

namespace Sys2Proof.Machine

/-- Whatever state an answer goes with is within the bounds. -/
def Answer.Bounded (a : Answer) : Prop := ∀ t reply, a = .ok (t, reply) → t.Bounded

theorem Answer.bounded_ok {t : State} {reply : Reply} (h : t.Bounded) : Answer.Bounded (.ok (t, reply)) :=
  fun _ _ e => (Prod.mk.inj (Except.ok.inj e)).1 ▸ h

theorem Answer.bounded_error {r : Reason} : Answer.Bounded (.error r) := fun _ _ e => by cases e

section Requests
variable {s : State} (h : s.Bounded)
include h

/-! ### At the port (R186, R188) -/

theorem deliver_bounded (x : Port) (l : LinkId) (frame response : List Byte) :
    (deliver x l frame response s).Bounded := by
  unfold deliver
  split
  · exact h.same
  · exact h.same

theorem takeRequest_bounded {k : Command} {l : LinkId} {p : Payload} {own : State → Answer}
    (hown : Answer.Bounded (own s)) : Out.Bounded (.next (takeRequest k l p own s)) := by
  refine Out.bounded_next ?_
  have hanswer : Answer.Bounded (s.answerTo k l p own) := by
    unfold State.answerTo
    split
    · exact Answer.bounded_error
    · exact hown
  unfold takeRequest
  dsimp only
  split
  · split
    · exact deliver_bounded h ..
    · next t reply ha => exact deliver_bounded (hanswer t reply ha) ..
  · exact h

omit h in
theorem onOwnSlot_bounded {l : LinkId} {f : Slot → State → Answer} (hf : ∀ sl, Answer.Bounded (f sl s)) :
    Answer.Bounded (onOwnSlot l f s) := by
  unfold onOwnSlot
  split
  · exact hf _
  · exact Answer.bounded_error

/-! ### The loop (chapter 1) -/

theorem reconfigured_bounded (cfg : LoopConfig) {t : Nat} (hlo : 64 ≤ t) (hhi : t ≤ 512) :
    (s.reconfigured t cfg).Bounded := by
  by_cases hT : t = s.T
  · rw [State.reconfigured, if_neg (not_not.mpr hT)]
    exact h.withLoop (loop_sound_of h rfl rfl rfl h.loop.intervals)
  · have hlen : (s.reconfigured t cfg).loop.trays.length = t := reconfigured_T t cfg s
    obtain ⟨-, hpos, hmiss, hind⟩ := reconfigured_rebuilt t cfg s hT
    have heq := reconfigured_eq t cfg s
    have hints : (s.reconfigured t cfg).loop.intervals = s.loop.intervals := by
      rw [State.reconfigured, if_pos hT]; rfl
    refine ⟨⟨hlen.symm ▸ hlo, hlen.symm ▸ hhi, by rw [hlen, hpos]; omega, by rw [hmiss]; omega,
      hints ▸ h.loop.intervals⟩, fun i => hind i ▸ ⟨(h.inds i).queue, (h.inds i).receiver⟩, fun c => ?_, ?_, ?_⟩
    · exact (congrArg (fun u : State => (u.chute c).windows.length) heq :).trans_le (h.chutes c)
    · exact (congrArg (fun u : State => u.fireQueue.length) heq :).trans_le h.fires
    · exact (congrArg (fun u : State => u.blocked.length) heq :).trans_le h.blocked

theorem configureLoop_bounded (p : Payload) : Answer.Bounded (configureLoop p s) := by
  unfold configureLoop
  dsimp only
  split
  · exact Answer.bounded_error
  · split
    · exact Answer.bounded_error
    · next hT =>
      split
      · exact Answer.bounded_error
      · split
        · exact Answer.bounded_error
        · exact Answer.bounded_ok (((reconfigured_bounded h _ (by omega) (by omega)).moves
            (judgeLoopHold_moves _)).moves (settleHolds_moves ..))

theorem startLoop_bounded : Answer.Bounded (startLoop s) := by
  unfold startLoop
  split
  · have hstarted : State.Bounded { s with loop :=
        { s.loop with
          state := .starting, measured := 0, intervals := [], pitchTime := none
          stallFrom := some s.clock.tick } } :=
      h.withLoop (loop_sound_of h rfl rfl rfl (Nat.zero_le _))
    exact Answer.bounded_ok (hstarted.moves (settleHolds_moves ..))
  · exact Answer.bounded_error

theorem stopLoop_bounded : Answer.Bounded (stopLoop s) := by
  unfold stopLoop
  split
  · exact Answer.bounded_ok h
  · exact Answer.bounded_ok (stopMotion_bounded h)

/-- R25: the loop, the inductions and the chutes that RESET LOOP leaves. -/
theorem motionCleared_bounded : s.motionCleared.Bounded where
  loop := by
    have hlen : s.motionCleared.loop.trays.length = s.loop.trays.length := List.length_replicate
    refine ⟨hlen ▸ h.loop.least, hlen ▸ h.loop.most, ?_, Nat.zero_le _, Nat.zero_le _⟩
    rw [hlen]
    exact (Nat.zero_le _).trans_lt h.loop.pos
  inds i := by
    rw [motionCleared_ind]
    exact ⟨⟨Nat.zero_le _, fun _ => rfl⟩, (h.inds i).receiver⟩
  chutes c := by
    have hc : s.motionCleared.chute c = (s.chute c).loopReset := Vector.get_map s.chutes _ c
    rw [hc]
    exact Nat.zero_le _
  fires := Nat.zero_le _
  blocked := Nat.zero_le _

theorem resetMotion_bounded : (resetMotion s).Bounded := by
  rw [resetMotion_eq]
  exact (motionCleared_bounded h).same

theorem resetLoop_bounded : Answer.Bounded (resetLoop s) := by
  unfold resetLoop
  split
  · exact Answer.bounded_ok ((resetMotion_bounded h).moves (settleHolds_moves s _))
  · exact Answer.bounded_error

/-! ### The inductions (chapter 2) -/

omit h in
theorem endGranted_moves (i : IndId) (s : State) : s.Moves (endGranted i s) := by
  unfold endGranted
  split
  · refine .trans ?_ (modInd_moves .quiet)
    exact ite_moves (fun _ => putTray_moves ..) fun _ => .refl s
  all_goals exact .refl s

theorem applyInduction_bounded (i : IndId) (offset n w : Nat) (enabled : Bool) :
    (applyInduction i offset n w enabled s).Bounded := by
  unfold applyInduction
  dsimp only
  refine State.Bounded.moves ?_ (settleHolds_moves ..)
  have hended : (if offset ≠ (s.ind i).offset then endGranted i s else s).Bounded :=
    h.moves (ite_moves (fun _ => endGranted_moves i s) fun _ => .refl s)
  generalize (if offset ≠ (s.ind i).offset then endGranted i s else s) = u at *
  have hset := hended.modInd (i := i) (f := fun x => { x with
    offset := offset, n := n, w := w, enabled := enabled
    resendCount := if n ≠ (s.ind i).n then 0 else x.resendCount }) ⟨(hended.inds i).queue, (hended.inds i).receiver⟩
  split
  · exact hset.modInd ⟨⟨Nat.zero_le _, fun _ => rfl⟩, Receiver.sound_idle⟩
  · exact hset

theorem configureInduction_bounded (p : Payload) : Answer.Bounded (configureInduction p s) := by
  unfold configureInduction
  dsimp only
  repeat' split
  any_goals exact Answer.bounded_error
  exact Answer.bounded_ok (applyInduction_bounded h ..)

theorem inductionResume_bounded (p : Payload) : Answer.Bounded (inductionResume p s) := by
  unfold inductionResume
  split
  · next i _ =>
    split
    · have hresumed := h.modInd (i := i) (f := fun r => { r with resync := false })
        ⟨⟨(h.inds i).queue.1, fun e => by cases e⟩, (h.inds i).receiver⟩
      exact Answer.bounded_ok (hresumed.moves (settleHolds_moves s _))
    · exact Answer.bounded_error
  · exact Answer.bounded_error

/-! ### The manifest (chapter 3) -/

theorem setWindow_bounded (p : Payload) : Answer.Bounded (setWindow p s) := by
  unfold setWindow
  dsimp only
  repeat' split
  any_goals exact Answer.bounded_error
  exact Answer.bounded_ok h.same

theorem clearWindow_bounded (p : Payload) : Answer.Bounded (clearWindow p s) := by
  unfold clearWindow
  dsimp only
  repeat' split
  any_goals exact Answer.bounded_error
  exact Answer.bounded_ok h.same

theorem addEntry_bounded (sl : Slot) (tag : Tag) (cabin : Nat) : (addEntry sl tag cabin s).Bounded := by
  have hadded : State.Bounded { s with pool := insertEntry (s.newEntry sl tag cabin) s.pool } := h.same
  exact (hadded.ofSlots (judgeQuota_frame ..)).moves (raiseIf_moves ..)

omit h in
theorem matchStray_moves (sl : Slot) (tag : Tag) (s : State) : s.Moves (matchStray sl tag s) := by
  unfold matchStray
  split
  · exact .raised ((modStray_moves ..).trans (modEntry_moves ..))
  · exact .refl s

theorem addBag_bounded (sl : Slot) (p : Payload) : Answer.Bounded (addBag sl p s) := by
  unfold addBag
  dsimp only
  repeat' split
  any_goals exact Answer.bounded_error
  exact Answer.bounded_ok (((addEntry_bounded h ..).moves (matchStray_moves ..)).moves (wakeWhere_moves ..))

omit h in
theorem withdrawOnLoop_moves (tag : Tag) (s : State) : s.Moves (withdrawOnLoop tag s) := by
  unfold withdrawOnLoop
  split
  · split
    · exact (makeStray_moves ..).trans ((cancelSelection_moves ..).trans (passToSelection_moves ..))
    · exact .refl s
  · exact .refl s

theorem returnEntry_bounded (sl : Slot) (tag : Tag) : (returnEntry sl tag s).Bounded := by
  have herased : State.Bounded { s with pool := eraseEntry tag s.pool } := h.same
  exact herased.ofSlots (judgeQuota_frame ..)

theorem withdrawBag_bounded (sl : Slot) (p : Payload) : Answer.Bounded (withdrawBag sl p s) := by
  unfold withdrawBag
  split
  · split
    · refine Answer.bounded_ok (returnEntry_bounded (h.moves ?_) ..)
      exact ite_moves (fun _ => withdrawOnLoop_moves ..) fun _ => .refl s
    · exact Answer.bounded_error
  · exact Answer.bounded_error

omit h in
theorem changeOnLoop_moves (tag : Tag) (s : State) : s.Moves (changeOnLoop tag s) := by
  unfold changeOnLoop
  split
  · split
    case h_1 | h_2 => exact (cancelSelection_moves ..).trans (passToSelection_moves ..)
    case h_3 | h_4 => exact modEntry_moves ..
    all_goals exact .refl s
  · exact .refl s

omit h in
theorem applyCabin_moves (sl : Slot) (e : BagEntry) (cabin : Nat) (s : State) :
    s.Moves (applyCabin sl e cabin s) := by
  refine (modEntry_moves e.tag (fun e => { e with cabin := cabin }) s).trans ?_
  unfold applyCabin
  dsimp only
  split
  case h_1 | h_2 | h_3 => exact wakeWhere_moves ..
  case h_4 => exact changeOnLoop_moves ..
  case h_5 => exact raise_moves ..

theorem changeCabin_bounded (sl : Slot) (p : Payload) : Answer.Bounded (changeCabin sl p s) := by
  unfold changeCabin
  dsimp only
  repeat' split
  any_goals exact Answer.bounded_error
  · exact Answer.bounded_ok h
  · exact Answer.bounded_ok (h.moves (applyCabin_moves ..))

theorem changeMap_bounded (sl : Slot) (n : Fin 96) (r : CabinRange) : (changeMap sl n r s).Bounded := by
  have hput : (putRange sl n r s).Bounded := h.same
  exact hput.moves (wakeWhere_moves ..)

theorem setCabinRange_bounded (sl : Slot) (p : Payload) : Answer.Bounded (setCabinRange sl p s) := by
  unfold setCabinRange
  dsimp only
  repeat' split
  any_goals exact Answer.bounded_error
  · exact Answer.bounded_ok h
  · exact Answer.bounded_ok (changeMap_bounded h ..)

theorem clearCabinRange_bounded (sl : Slot) (p : Payload) : Answer.Bounded (clearCabinRange sl p s) := by
  unfold clearCabinRange
  dsimp only
  repeat' split
  · exact Answer.bounded_ok (changeMap_bounded h ..)
  · exact Answer.bounded_ok h
  · exact Answer.bounded_error

/-! ### The slots (chapter 4) -/

theorem modSlot_bounded (sl : Slot) (f : SlotRecord → SlotRecord) : (modSlot sl f s).Bounded :=
  h.ofSlots (modSlot_frame ..)

theorem judgeQuota_bounded (sl : Slot) : (judgeQuota sl s).Bounded := h.ofSlots (judgeQuota_frame ..)

theorem berth_bounded (p : Payload) : Answer.Bounded (berth p s) := by
  unfold berth
  dsimp only
  repeat' split
  any_goals exact Answer.bounded_error
  exact Answer.bounded_ok (judgeQuota_bounded (modSlot_bounded h ..) _)

theorem manifestFinal_bounded (sl : Slot) : Answer.Bounded (manifestFinal sl s) := by
  unfold manifestFinal
  split
  any_goals exact Answer.bounded_error
  · exact Answer.bounded_ok h
  · exact Answer.bounded_ok (modSlot_bounded h ..)

theorem manifestReopen_bounded (sl : Slot) : Answer.Bounded (manifestReopen sl s) := by
  unfold manifestReopen
  split
  any_goals exact Answer.bounded_error
  · exact Answer.bounded_ok h
  · exact Answer.bounded_ok (modSlot_bounded h ..)

theorem setQuota_bounded (p : Payload) : Answer.Bounded (setQuota p s) := by
  unfold setQuota
  dsimp only
  repeat' split
  any_goals exact Answer.bounded_error
  exact Answer.bounded_ok (judgeQuota_bounded (modSlot_bounded h ..) _)

theorem cutOff_bounded (l : LinkId) (p : Payload) : Answer.Bounded (cutOff l p s) := by
  unfold cutOff
  split
  · split
    case h_1 | h_2 | h_3 => exact Answer.bounded_error
    all_goals
      exact Answer.bounded_ok (((modSlot_bounded h ..).moves (wakeWhere_moves ..)).moves (reportCount_moves ..))
  · exact Answer.bounded_error

omit h in
theorem unberth_windows (sl : Slot) (x : Chute) : (x.unberth sl).windows = x.windows := by
  unfold Chute.unberth
  repeat' split
  all_goals rfl

/-- R88: every chute of the slot released. -/
theorem releaseChutes_bounded (sl : Slot) : (releaseChutes sl s).Bounded := by
  have hreleased : State.Bounded { s with
      chutes := s.chutes.map (·.unberth sl)
      blocked := s.blocked.filter fun r => r.group.slot != sl } :=
    ⟨h.loop, h.inds, fun c => by
      have hc : (s.chutes.map (·.unberth sl)).get c = (s.chute c).unberth sl := Vector.get_map s.chutes _ c
      rw [State.chute, hc, unberth_windows]
      exact h.chutes c, h.fires, (List.length_filter_le ..).trans h.blocked⟩
  unfold releaseChutes
  dsimp only
  generalize ({ s with
      chutes := s.chutes.map (·.unberth sl)
      blocked := s.blocked.filter fun r => r.group.slot != sl } : State) = u at *
  refine hreleased.moves (.trans ?_ (foldl_moves (fun v c => judgeStandby_moves c v) _ _))
  exact ite_moves (fun _ => judgeBlocked_moves u) fun _ => .refl u

theorem unberth_bounded (p : Payload) : Answer.Bounded (unberth p s) := by
  unfold unberth
  split
  · next sl _ =>
    split
    · have hcleared : State.Bounded { s with
          pool := s.pool.filter fun e => e.slot != sl
          maps := s.maps.set sl (Vector.replicate 96 .reset) } := h.same
      exact Answer.bounded_ok (releaseChutes_bounded (modSlot_bounded hcleared ..) sl)
    · exact Answer.bounded_error
  · exact Answer.bounded_error

/-! ### The chutes (chapter 6) -/

theorem applyChute_bounded (c : ChuteId) (cfg : ChuteConfig) : (applyChute c cfg s).Bounded := by
  have hset := h.setChute (c := c)
    (x := ((s.chute c).configured cfg s.clock.tick).judgeJam s.clock.tick) (h.chutes c)
  exact ((hset.moves (raiseIf_moves ..)).moves (judgeStandby_moves c _)).moves (judgeStrayArmed_moves _)

theorem configureChute_bounded (p : Payload) : Answer.Bounded (configureChute p s) := by
  unfold configureChute
  dsimp only
  repeat' split
  any_goals exact Answer.bounded_error
  exact Answer.bounded_ok (applyChute_bounded h ..)

theorem assignChute_bounded (p : Payload) : Answer.Bounded (assignChute p s) := by
  unfold assignChute
  repeat' split
  any_goals exact Answer.bounded_error
  next c g _ _ _ _ =>
    exact Answer.bounded_ok (h.modChute (c := c)
      (f := fun x => { x with group := some g, released := false, state := .isOpen }))

theorem dropGroup_bounded (c : ChuteId) : (dropGroup c s).Bounded := by
  unfold dropGroup
  split
  · exact (h.modChute (f := fun x => { x with group := none, tookOver := none, state := .standbyIdle })).moves
      (judgeStandby_moves c _)
  · exact h.modChute

theorem releaseChute_bounded (p : Payload) : Answer.Bounded (releaseChute p s) := by
  unfold releaseChute
  dsimp only
  repeat' split
  any_goals exact Answer.bounded_error
  exact Answer.bounded_ok (dropGroup_bounded h _)

theorem beginSwap_bounded (c : ChuteId) : (beginSwap c s).Bounded := by
  have hswapping := h.modChute (c := c) (f := fun x => { x with state := .swapping })
  exact hswapping.moves ((foldl_moves (fun u t => cancelSelection_moves t u) _ _).trans
    (foldl_moves (fun u t => passToSelection_moves t u) _ _))

theorem swapBegin_bounded (p : Payload) : Answer.Bounded (swapBegin p s) := by
  unfold swapBegin
  repeat' split
  any_goals exact Answer.bounded_error
  exact Answer.bounded_ok (beginSwap_bounded h _)

omit h in
theorem leaveSwap_windows (x : Chute) : x.leaveSwap.windows = x.windows := by
  unfold Chute.leaveSwap
  repeat' split
  all_goals rfl

theorem endSwap_bounded (c : ChuteId) : (endSwap c s).Bounded := by
  have hswapped := h.modChute (c := c) (f := (·.swapped s.clock.tick)) (leaveSwap_windows _)
  exact hswapped.moves ((judgeStandby_moves c _).trans ((judgeBlocked_moves _).trans (judgeStrayArmed_moves _)))

theorem swapEnd_bounded (p : Payload) : Answer.Bounded (swapEnd p s) := by
  unfold swapEnd
  repeat' split
  any_goals exact Answer.bounded_error
  exact Answer.bounded_ok (endSwap_bounded h _)

theorem setBlockedInterval_bounded (p : Payload) : Answer.Bounded (setBlockedInterval p s) := by
  unfold setBlockedInterval
  dsimp only
  split
  · exact Answer.bounded_ok ⟨h.loop, h.inds, h.chutes, h.fires, (List.length_map _).trans_le h.blocked⟩
  · exact Answer.bounded_error

/-! ### The strays (chapter 8) -/

theorem resolveEntry_bounded {tag : Tag} {sl : Slot} {cabin : Nat} {id : BitVec 16} {t : State}
    (ht : resolveEntry tag sl cabin id s = .ok t) : t.Bounded := by
  unfold resolveEntry at ht
  split at ht
  · split at ht
    · cases ht
    · dsimp only at ht
      generalize hu : ({ s with pool := insertEntry _ s.pool } : State) = u at ht
      have hadded : u.Bounded := hu ▸ h.same
      exact Except.ok.inj ht ▸ judgeQuota_bounded hadded sl
  · split at ht
    · cases ht
    all_goals exact Except.ok.inj ht ▸ h.moves (modEntry_moves ..)

theorem resolveTag_bounded (id : BitVec 16) (tag : Tag) (cabin : Nat) :
    Answer.Bounded (resolveTag id tag cabin s) := by
  unfold resolveTag
  repeat' split
  any_goals exact Answer.bounded_error
  next ht => exact Answer.bounded_ok ((resolveEntry_bounded h ht).moves (modStray_moves ..))

theorem resolveStray_bounded (p : Payload) : Answer.Bounded (resolveStray p s) := by
  unfold resolveStray
  dsimp only
  repeat' split
  any_goals exact Answer.bounded_error
  exact resolveTag_bounded h _ _ _

theorem discardStray_bounded (p : Payload) : Answer.Bounded (discardStray p s) := by
  unfold discardStray
  dsimp only
  repeat' split
  any_goals exact Answer.bounded_error
  exact Answer.bounded_ok (h.moves (removeStray_moves ..))

/-! ### The notices and the reset cause (chapters 9 and 10) -/

theorem fetchNotice_bounded (l : LinkId) : Answer.Bounded (fetchNotice l s) := Answer.bounded_ok h.same

theorem ackGroup_bounded (l : LinkId) (p : Payload) : Answer.Bounded (ackGroup l p s) := by
  unfold ackGroup
  split
  · exact Answer.bounded_ok h.same
  · exact Answer.bounded_error

theorem clearNotice_bounded (l : LinkId) (p : Payload) : Answer.Bounded (clearNotice l p s) := by
  unfold clearNotice
  repeat' split
  any_goals exact Answer.bounded_error
  exact Answer.bounded_ok h.same

theorem setNoticeEnables_bounded (l : LinkId) (p : Payload) : Answer.Bounded (setNoticeEnables l p s) :=
  Answer.bounded_ok h.same

theorem setClearMode_bounded (l : LinkId) (p : Payload) : Answer.Bounded (setClearMode l p s) := by
  unfold setClearMode
  split
  · exact Answer.bounded_ok h.same
  · exact Answer.bounded_error

theorem clearResetCause_bounded : Answer.Bounded (clearResetCause s) := Answer.bounded_ok h.same

/-! ### The reads (R24, R49, R55, R68, R73, R91, R134, R168, R169, R192) -/

theorem readTray_bounded (p : Payload) : Answer.Bounded (readTray p s) := by
  unfold readTray
  split
  · exact Answer.bounded_error
  · exact Answer.bounded_ok h

theorem readInduction_bounded (p : Payload) : Answer.Bounded (readInduction p s) := by
  unfold readInduction
  split
  · exact Answer.bounded_ok h
  · exact Answer.bounded_error

theorem readWindow_bounded (p : Payload) : Answer.Bounded (readWindow p s) := by
  unfold readWindow
  split
  · exact Answer.bounded_ok h
  · exact Answer.bounded_error

theorem readBag_bounded (l : LinkId) (p : Payload) : Answer.Bounded (readBag l p s) := by
  unfold readBag
  split
  · split
    · exact Answer.bounded_ok h
    · exact Answer.bounded_error
  · exact Answer.bounded_error

theorem readCabinRange_bounded (l : LinkId) (p : Payload) : Answer.Bounded (readCabinRange l p s) := by
  unfold readCabinRange
  dsimp only
  repeat' split
  any_goals exact Answer.bounded_error
  all_goals exact Answer.bounded_ok h

theorem shipStatus_bounded (l : LinkId) (p : Payload) : Answer.Bounded (shipStatus l p s) := by
  unfold shipStatus
  split
  · exact Answer.bounded_ok h
  · exact Answer.bounded_error

theorem readChute_bounded (p : Payload) : Answer.Bounded (readChute p s) := by
  unfold readChute
  split
  · exact Answer.bounded_ok h
  · exact Answer.bounded_error

theorem readStrayList_bounded (l : LinkId) (p : Payload) : Answer.Bounded (readStrayList l p s) := by
  unfold readStrayList
  split
  · exact Answer.bounded_error
  · exact Answer.bounded_ok h

theorem readStray_bounded (l : LinkId) (p : Payload) : Answer.Bounded (readStray l p s) := by
  unfold readStray
  dsimp only
  split
  · exact Answer.bounded_ok h
  · exact Answer.bounded_error

theorem readResetCause_bounded : Answer.Bounded (readResetCause s) := Answer.bounded_ok h

end Requests

end Sys2Proof.Machine
end

section
/-! PROOF. Every step keeps the bounds of the tables (O14). -/

namespace Sys2Proof.Machine

-- The proofs are elaborated in turn here: side by side, in one text with the model and its tests, their
-- threads' stacks come to more memory than the check allows.
set_option Elab.async false

/-! ### The resets and the ports -/

/-- R26, R51, R75, R136: the power-on values are within the bounds. -/
theorem resetBlocks_bounded (cause : ResetCause) (low : Bool) (s : State) : (resetBlocks cause low s).Bounded where
  loop := by
    rw [resetBlocks_loop]
    have hlen : Loop.reset.trays.length = 256 := List.length_replicate
    exact ⟨by rw [hlen]; decide, by rw [hlen]; decide, by rw [hlen]; decide, Nat.zero_le _, Nat.zero_le _⟩
  inds i := by
    rw [resetBlocks_ind]
    exact Induction.sound_reset
  chutes c := by
    rw [resetBlocks_chute]
    exact Nat.zero_le _
  fires := Nat.zero_le _
  blocked := Nat.zero_le _

section Steps
variable {s : State} (h : s.Bounded)
include h

/-- R186, R187: an edge of a select input. -/
theorem assertSelect_bounded (l : LinkId) : (assertSelect l s).Bounded := by
  unfold assertSelect
  dsimp only
  split
  · exact h
  · split
    · exact h.same
    · exact h.same

theorem releaseSelect_bounded (l : LinkId) : (releaseSelect l s).Bounded := by
  unfold releaseSelect
  split
  · exact h.same
  · exact h

theorem exec_badCommand_bounded (l : LinkId) (code : Byte) (p : Payload) :
    Out.Bounded (exec (.badCommand l code p) s) := by
  refine Out.bounded_next ?_
  split
  · exact deliver_bounded h ..
  · exact h

theorem exec_linkResponseSent_bounded (l : LinkId) : Out.Bounded (exec (.linkResponseSent l) s) := by
  refine Out.bounded_next ?_
  split
  · exact h.same
  all_goals exact h

/-! ### The chutes' timed events and eyes -/

theorem exec_tiltPulseEnd_bounded (c : ChuteId) : Out.Bounded (exec (.tiltPulseEnd c) s) := by
  refine Out.bounded_next ?_
  split
  · split
    · exact h.putChute (h.chutes c)
    · exact h
  · exact h

theorem exec_confirmWindowEnd_bounded (c : ChuteId) : Out.Bounded (exec (.confirmWindowEnd c) s) := by
  refine Out.bounded_next ?_
  split
  · next hw => exact h.moves (closeWindow_moves hw)
  · exact h

theorem exec_chuteEyeDetection_bounded (c : ChuteId) : Out.Bounded (exec (.chuteEyeDetection c) s) := by
  refine Out.bounded_next ?_
  split
  · exact h
  · exact ((startOcclusion_bounded h c).moves (confirmOldest_moves ..)).moves (settleHolds_moves ..)

theorem exec_chuteJam_bounded (c : ChuteId) : Out.Bounded (exec (.chuteJam c) s) := by
  refine Out.bounded_next ?_
  split
  · exact setJam_bounded h c
  · exact h

theorem exec_chuteEyeClear_bounded (c : ChuteId) : Out.Bounded (exec (.chuteEyeClear c) s) := by
  refine Out.bounded_next ?_
  split
  · exact clearEye_bounded h c
  · exact h

theorem exec_hallClockSecond_bounded : Out.Bounded (exec .hallClockSecond s) := by
  refine Out.bounded_next ?_
  split
  · exact h.same
  · exact h

theorem exec_stallTimeout_bounded : Out.Bounded (exec .stallTimeout s) := by
  refine Out.bounded_next ?_
  split
  · exact enterStalled_bounded h
  · exact h

/-! ### The induction lines -/

theorem exec_inductionSilenceTimeout_bounded (i : IndId) :
    Out.Bounded (exec (.inductionSilenceTimeout i) s) := by
  refine Out.bounded_next ?_
  split
  · exact dropFrame_bounded h i Receiver.sound_idle
  all_goals exact h

theorem exec_transmitFrameSent_bounded (i : IndId) : Out.Bounded (exec (.transmitFrameSent i) s) := by
  refine Out.bounded_next ?_
  split
  · exact h.moves (modInd_moves .quiet)
  · exact h

/-- Every command keeps the bounds. -/
theorem exec_bounded (c : Instr) : Out.Bounded (exec c s) := by
  cases c with
  | powerOnReset | pinReset => exact Out.bounded_next (resetBlocks_bounded ..)
  | pitchEvent home check => exact exec_pitchEvent_bounded h home check
  | reservationRequest i => exact Out.bounded_next (h.moves (requestReservation_moves ..))
  | launchWindowExpiry i => exact Out.bounded_next (h.moves (expireWindows_moves ..))
  | stallTimeout => exact exec_stallTimeout_bounded h
  | fire => exact Out.bounded_next (h.moves (fireHead_moves s))
  | tiltPulseEnd c => exact exec_tiltPulseEnd_bounded h c
  | confirmWindowEnd c => exact exec_confirmWindowEnd_bounded h c
  | chuteEyeDetection c => exact exec_chuteEyeDetection_bounded h c
  | chuteJam c => exact exec_chuteJam_bounded h c
  | chuteEyeClear c => exact exec_chuteEyeClear_bounded h c
  | hallClockSecond => exact exec_hallClockSecond_bounded h
  | bagFrame i | multiFrame i | noreadFrame i =>
    exact Out.bounded_next (completeFrame_bounded h i _ _ (takeRead_moves i _))
  | holdResend i => exact Out.bounded_next (h.moves (resendHold_moves ..))
  | doneFrame i | failFrame i | lateAnswer i =>
    exact Out.bounded_next (completeFrame_bounded h i _ _ (takeAnswer_moves i _ _))
  | inductionCharacterFault i bad =>
    exact Out.bounded_next (whenEnabled_bounded h i (receiveFault_bounded h i bad))
  | badDataCharacter i field value =>
    exact Out.bounded_next (whenEnabled_bounded h i (receiveBadData_bounded h i field value))
  | inductionSilenceTimeout i => exact exec_inductionSilenceTimeout_bounded h i
  | transmitFrameSent i => exact exec_transmitFrameSent_bounded h i
  | inductionFrameOpened i kind =>
    exact Out.bounded_next (whenEnabled_bounded h i (receiveMark_bounded h i kind))
  | linkSelectAsserted l => exact Out.bounded_next (assertSelect_bounded h l)
  | linkSelectReleased l | linkSelectReleasedEarly l => exact Out.bounded_next (releaseSelect_bounded h l)
  | linkResponseSent l => exact exec_linkResponseSent_bounded h l
  | resetNReleased => exact Out.bounded_next h.same
  | badCommand l code p => exact exec_badCommand_bounded h l code p
  | configureLoop l p => exact takeRequest_bounded h (configureLoop_bounded h p)
  | startLoop l p => exact takeRequest_bounded h (startLoop_bounded h)
  | stopLoop l p => exact takeRequest_bounded h (stopLoop_bounded h)
  | resetLoop l p => exact takeRequest_bounded h (resetLoop_bounded h)
  | readTray l p => exact takeRequest_bounded h (readTray_bounded h p)
  | configureInduction l p => exact takeRequest_bounded h (configureInduction_bounded h p)
  | inductionResume l p => exact takeRequest_bounded h (inductionResume_bounded h p)
  | readInduction l p => exact takeRequest_bounded h (readInduction_bounded h p)
  | setWindow l p => exact takeRequest_bounded h (setWindow_bounded h p)
  | clearWindow l p => exact takeRequest_bounded h (clearWindow_bounded h p)
  | readWindow l p => exact takeRequest_bounded h (readWindow_bounded h p)
  | addBag l p => exact takeRequest_bounded h (onOwnSlot_bounded fun sl => addBag_bounded h sl p)
  | withdrawBag l p => exact takeRequest_bounded h (onOwnSlot_bounded fun sl => withdrawBag_bounded h sl p)
  | changeCabin l p => exact takeRequest_bounded h (onOwnSlot_bounded fun sl => changeCabin_bounded h sl p)
  | readBag l p => exact takeRequest_bounded h (readBag_bounded h l p)
  | setCabinRange l p => exact takeRequest_bounded h (onOwnSlot_bounded fun sl => setCabinRange_bounded h sl p)
  | clearCabinRange l p => exact takeRequest_bounded h (onOwnSlot_bounded fun sl => clearCabinRange_bounded h sl p)
  | readCabinRange l p => exact takeRequest_bounded h (readCabinRange_bounded h l p)
  | berth l p => exact takeRequest_bounded h (berth_bounded h p)
  | manifestFinal l p => exact takeRequest_bounded h (onOwnSlot_bounded (manifestFinal_bounded h))
  | manifestReopen l p => exact takeRequest_bounded h (onOwnSlot_bounded (manifestReopen_bounded h))
  | setQuota l p => exact takeRequest_bounded h (setQuota_bounded h p)
  | cutOff l p => exact takeRequest_bounded h (cutOff_bounded h l p)
  | unberth l p => exact takeRequest_bounded h (unberth_bounded h p)
  | shipStatus l p => exact takeRequest_bounded h (shipStatus_bounded h l p)
  | configureChute l p => exact takeRequest_bounded h (configureChute_bounded h p)
  | assignChute l p => exact takeRequest_bounded h (assignChute_bounded h p)
  | releaseChute l p => exact takeRequest_bounded h (releaseChute_bounded h p)
  | swapBegin l p => exact takeRequest_bounded h (swapBegin_bounded h p)
  | swapEnd l p => exact takeRequest_bounded h (swapEnd_bounded h p)
  | setBlockedInterval l p => exact takeRequest_bounded h (setBlockedInterval_bounded h p)
  | readChute l p => exact takeRequest_bounded h (readChute_bounded h p)
  | resolveStray l p => exact takeRequest_bounded h (resolveStray_bounded h p)
  | discardStray l p => exact takeRequest_bounded h (discardStray_bounded h p)
  | readStrayList l p => exact takeRequest_bounded h (readStrayList_bounded h l p)
  | readStray l p => exact takeRequest_bounded h (readStray_bounded h l p)
  | fetchNotice l p => exact takeRequest_bounded h (fetchNotice_bounded h l)
  | ackGroup l p => exact takeRequest_bounded h (ackGroup_bounded h l p)
  | clearNotice l p => exact takeRequest_bounded h (clearNotice_bounded h l p)
  | setNoticeEnables l p => exact takeRequest_bounded h (setNoticeEnables_bounded h l p)
  | setClearMode l p => exact takeRequest_bounded h (setClearMode_bounded h l p)
  | readResetCause l p => exact takeRequest_bounded h (readResetCause_bounded h)
  | clearResetCause l p => exact takeRequest_bounded h (clearResetCause_bounded h)

theorem clockBytes_bounded : (clockBytes s).Bounded := by
  rw [clockBytes_frame]
  exact h.same

theorem idle_bounded : (idle s).Bounded := by
  unfold idle
  split
  · exact h
  · split
    · exact h.same
    · split
      · exact clockBytes_bounded h
      · split
        · exact h.same
        · exact receiveChars_bounded h

theorem step_bounded : Out.Bounded (step s) := by
  unfold step
  split
  · exact Out.bounded_next (idle_bounded h)
  · exact exec_bounded h.same _

end Steps

/-- Settles O14. -/
theorem everyStepKeepsTheBounds : Obligations.everyStepKeepsTheBounds := fun s t h ht =>
  (boundsLaw_iff t).mpr (step_bounded ((boundsLaw_iff s).mp h) t ht)

end Sys2Proof.Machine
end

/-! ## Proofs: the induction stations (chapter 2) -/

section
/-! SUPPORT. One induction rewritten: rewrites in a row, what it leaves of the held states, and the holds settled
after it (R37). -/

namespace Sys2Proof.Machine

theorem PerInd.set_set {α : Type} (v : PerInd α) (i : IndId) (x y : α) : (v.set i x).set i y = v.set i y := by
  cases i <;> rfl

theorem modInd_modInd (i : IndId) (f g : Induction → Induction) (s : State) :
    modInd i f (modInd i g s) = modInd i (fun r => f (g r)) s := by
  simp only [modInd, PerInd.get_set, PerInd.set_set]

theorem modInd_congr {i : IndId} {f g : Induction → Induction} {s : State}
    (h : f (s.ind i) = g (s.ind i)) : modInd i f s = modInd i g s :=
  congrArg (fun r => { s with inds := s.inds.set i r }) h

/-- The held state of an induction is judged from its own record, the loop hold and the loop's state (R37). -/
theorem held_congr {s t : State} {k : IndId} (hind : t.ind k = s.ind k) (hhold : t.loop.hold = s.loop.hold)
    (hstate : t.loop.state = s.loop.state) : t.held k = s.held k := by
  rw [State.held, State.barred, State.barredWith, State.atRest, hind, hhold, hstate]
  rfl

theorem modInd_held_ne {i k : IndId} (h : k ≠ i) (f : Induction → Induction) (s : State) :
    (modInd i f s).held k = s.held k := held_congr (modInd_ind_ne i k f s h) rfl rfl

/-- R37: where one induction alone changes its held state, it alone is sent HOLD or RESUME. -/
theorem settleHolds_at {v u : State} {i : IndId} (h : ∀ k, k ≠ i → v.held k = u.held k) :
    settleHolds v u = modInd i (Induction.settled (v.held i) (u.held i)) u := by
  rw [settleHolds_eq, modInd]
  congr 1
  refine PerInd.ext_get fun k => (settleHolds_ind v u k).trans ?_
  by_cases hk : k = i
  · subst hk
    exact (PerInd.get_set ..).symm
  · rw [h k hk, Induction.settled_same]
    exact (PerInd.get_set_ne _ _ _ _ hk).symm

/-- R37: the holds settled after one induction is rewritten. -/
theorem settleHolds_modInd (i : IndId) (f : Induction → Induction) (s : State) :
    settleHolds s (modInd i f s) =
      modInd i (fun r => (f r).settled (s.held i) ((modInd i f s).held i)) s := by
  rw [settleHolds_at fun k hk => (modInd_held_ne hk f s).symm, modInd_modInd]

section Fields
variable (f : TxFrame) (was now : Bool) (r : Induction)

@[simp] theorem Induction.send_waitCount : (r.send f).waitCount = r.waitCount := by rw [send_eq]
@[simp] theorem Induction.settled_waitCount : (r.settled was now).waitCount = r.waitCount := by rw [settled_eq]
@[simp] theorem Induction.settled_reservation : (r.settled was now).reservation = r.reservation := by
  rw [settled_eq]
@[simp] theorem Induction.settled_n : (r.settled was now).n = r.n := by rw [settled_eq]
@[simp] theorem Induction.settled_w : (r.settled was now).w = r.w := by rw [settled_eq]
@[simp] theorem Induction.settled_wInUse : (r.settled was now).wInUse = r.wInUse := by rw [settled_eq]

/-- A frame on an idle line begins at once (log 14). -/
theorem Induction.send_of_idle {r : Induction} (hs : r.sending = none) (hw : r.waiting = []) :
    r.send f = { r with sending := some f } := by
  rw [Induction.send, hs, hw]

/-- R37: on an idle line the hold change is the frame being sent (log 14). -/
theorem Induction.settled_sending_of_idle {r : Induction} (hs : r.sending = none) (hw : r.waiting = []) :
    (r.settled was now).sending =
      if was = false ∧ now = true then some .hold else if was = true ∧ now = false then some .resume else none := by
  unfold Induction.settled
  simp only [send_of_idle _ hs hw]
  cases was <;> cases now <;> simp [hs]

end Fields

end Sys2Proof.Machine
end

section
/-! PROOF. The count events of an induction and its transmit list (O27, O28). -/

namespace Sys2Proof.Machine

/-- R41: what the windows that end change besides the induction's own list: the tray table. -/
theorem expireWindows_eq (i : IndId) (s : State) :
    expireWindows i s = { s with
      inds := s.inds.set i { s.ind i with windows := (s.ind i).windows.filter fun w => w.left != 0 }
      loop := { s.loop with trays := (expireWindows i s).loop.trays } } := by
  unfold expireWindows
  generalize (s.ind i).windows.filter (fun w => w.left = 0) = ended
  have hinds := foldl_confirmLaunch_inds ended s
  have hframe := foldl_keeps State.sansLaunches (fun s (w : LaunchWindow) => confirmLaunch w.tray s)
    (fun _ _ => rfl) ended s
  generalize ended.foldl (fun s w => confirmLaunch w.tray s) s = u at *
  have hu : u = { s with loop := { s.loop with trays := u.loop.trays } } := by
    obtain ⟨loop, _⟩ := s; obtain ⟨loop', _⟩ := u
    cases loop; cases loop'
    simp_all [State.sansLaunches]
  rw [modInd, hu]
  rfl

theorem expireWindows_tray (i : IndId) (s : State) (k : Nat) :
    (expireWindows i s).tray k =
      if (s.ind i).windows.any fun w => w.left = 0 && w.tray = k then (s.tray k).confirmed else s.tray k := by
  rw [← List.any_filter]
  exact foldl_confirmLaunch_tray ..

/-- Settles O27. -/
theorem inductionCountEventsHappen : Obligations.inductionCountEventsHappen := by
  refine fun i s => ⟨fun hw hr => ?_, fun _ => ?_, fun hh hn => ?_⟩
  · exact congrArg Host.Outcome.next (if_pos ⟨hw, hr⟩)
  · exact ⟨_, rfl, expireWindows_eq i s, (expireWindows_moves i s).trays, expireWindows_tray i s⟩
  · exact congrArg Host.Outcome.next (if_pos ⟨hh, hn⟩)

/-- R32: on a busy line with nothing waiting the frame waits. -/
theorem Induction.send_of_sending {r : Induction} (f : TxFrame) (hs : r.sending ≠ none) (hw : r.waiting = []) :
    r.send f = { r with waiting := [f] } := by
  obtain ⟨g, hg⟩ := Option.ne_none_iff_exists'.mp hs
  simp [Induction.send, hg, hw]

/-- R32: on a busy line the frame waits last, a hold change in place of one that is last. -/
theorem Induction.send_of_waiting {r : Induction} {rest : List TxFrame} {g : TxFrame} (f : TxFrame)
    (hs : r.sending ≠ none) (hw : r.waiting = rest ++ [g]) :
    r.send f = if f.isHold = true ∧ g.isHold = true then { r with waiting := rest ++ [f] }
      else { r with waiting := rest ++ [g, f] } := by
  obtain ⟨h, hh⟩ := Option.ne_none_iff_exists'.mp hs
  simp [Induction.send, hh, hw]

theorem exec_transmitFrameSent {i : IndId} {s : State} {f : TxFrame} (h : (s.ind i).sending = some f) :
    exec (.transmitFrameSent i) s = .next { s with
      inds := s.inds.set i
        { s.ind i with sending := (s.ind i).waiting.head?, waiting := (s.ind i).waiting.tail } } := by
  rw [exec, execTransmitFrameSent, h]
  rfl

/-- Settles O28. -/
theorem transmitListKeepsItsOrder : Obligations.transmitListKeepsItsOrder := by
  refine ⟨fun i s f hf => ⟨fun g rest hw => ?_, fun hw => ?_⟩, fun r f g rest =>
    ⟨Induction.send_of_idle f, Induction.send_of_sending f, Induction.send_of_waiting f⟩⟩
  all_goals
    rw [exec_transmitFrameSent hf, hw]
    rfl

end Sys2Proof.Machine
end

section
/-! SUPPORT. The characters of a whole line frame: they are as many as its kind has, each good at its place, and
spell the tags, the size class and the tray number back (Table 11-9, R31, R197). -/

namespace Sys2Proof.Machine

/-- R31: the data characters that drop their frame: tag characters that are no digit, a size class above 3. -/
theorem badAt_iff (k : FrameKind) (n : Nat) (v : Byte) : k.badAt n v = true ↔
    (n < k.tagLength ∧ 10 ≤ v.toNat) ∨
      ((k = .bag ∨ k = .multi ∨ k = .noread) ∧ n + 1 = k.dataLength ∧ 4 ≤ v.toNat) := by
  have hlengths : k = .bag ∨ k = .multi ∨ k = .noread → k.dataLength = k.tagLength + 1 := by
    rintro (rfl | rfl | rfl) <;> rfl
  by_cases hread : k = .bag ∨ k = .multi ∨ k = .noread
  · have hfield : k.fieldAt n = if n < k.tagLength then some .tagDigit
        else if n < k.dataLength then some .sizeClass else none := by
      rcases hread with rfl | rfl | rfl <;> rfl
    rw [FrameKind.badAt, hfield, hlengths hread]
    by_cases htag : n < k.tagLength
    · simp only [if_pos htag, badValue, decide_eq_true_eq]
      omega
    · by_cases hsize : n < k.tagLength + 1
      · simp only [if_neg htag, if_pos hsize, badValue, decide_eq_true_eq, hread, true_and]
        omega
      · simp only [if_neg htag, if_neg hsize, hread, true_and, Bool.false_eq_true, false_iff]
        omega
  · cases k with
    | done | fail => simp [FrameKind.badAt, FrameKind.fieldAt, FrameKind.tagLength]
    | bag | multi | noread => simp at hread

theorem length_digitChars (t : Tag) : (digitChars t).length = 10 := by simp [digitChars]

theorem digitChars_lt {t : Tag} {v : Byte} (h : v ∈ digitChars t) : v.toNat < 10 := by
  obtain ⟨k, -, rfl⟩ := List.mem_map.mp h
  rw [BitVec.toNat_ofNat]
  omega

theorem sizeChar_lt (c : SizeClass) : (sizeChar c).toNat < 4 := by cases c <;> decide

/-- The number that the first `m` digit characters of a tag spell. -/
theorem foldl_digitChars (t m : Nat) (hm : m ≤ 10) (ht : t < 10 ^ 10) :
    ((List.range m).map fun k => BitVec.ofNat 8 (t / 10 ^ (9 - k) % 10)).foldl
      (fun a (c : Byte) => a * 10 + c.toNat) 0 = t / 10 ^ (10 - m) := by
  induction m with
  | zero => exact (Nat.div_eq_of_lt ht).symm
  | succ m ih =>
    have hpow : 10 ^ (10 - m) = 10 ^ (9 - m) * 10 := by
      rw [← Nat.pow_succ]
      congr 1
      omega
    rw [List.range_succ, List.map_append, List.foldl_append, ih (by omega), hpow, ← Nat.div_div_eq_div_mul,
      show 10 - (m + 1) = 9 - m by omega]
    simp only [List.map_cons, List.map_nil, List.foldl_cons, List.foldl_nil, BitVec.toNat_ofNat]
    omega

/-- R197: ten digit characters spell their tag back. -/
theorem tagOfChars_digitChars (t : Tag) : tagOfChars (digitChars t) = t := by
  rw [tagOfChars, digitChars, foldl_digitChars t.val 10 le_rfl t.isLt]
  simp

/-- R197: two characters, high byte first, spell their tray number back. -/
theorem trayChars_spell (t : BitVec 16) : (trayChars t).getD 0 0 ++ (trayChars t).getD 1 0 = t := by
  have ht := t.isLt
  apply BitVec.eq_of_toNat_eq
  simp only [trayChars, List.getD_cons_zero, List.getD_cons_succ, BitVec.toNat_append, BitVec.toNat_ofNat,
    Nat.shiftLeft_eq]
  rw [← Nat.shiftLeft_eq, ← Nat.shiftLeft_add_eq_or_of_lt (by omega), Nat.shiftLeft_eq]
  omega

/-- A whole line frame of some tags and a size class. -/
theorem readChars_good {k : FrameKind} {tags : List Byte} {c : SizeClass} (hlen : tags.length = k.tagLength)
    (hdata : k.dataLength = k.tagLength + 1) (htags : ∀ v ∈ tags, v.toNat < 10) :
    (tags ++ [sizeChar c]).length = k.dataLength ∧
      ∀ n v, (tags ++ [sizeChar c])[n]? = some v → k.badAt n v = false := by
  refine ⟨by simp [hlen, hdata], fun n v hv => ?_⟩
  rw [Bool.eq_false_iff, Ne, badAt_iff, hdata, ← hlen]
  by_cases hn : n < tags.length
  · rw [List.getElem?_append_left hn] at hv
    have := htags v (List.mem_of_getElem? hv)
    omega
  · rw [List.getElem?_append_right (by omega)] at hv
    have hsize := sizeChar_lt c
    obtain ⟨-, rfl⟩ := List.getElem?_eq_some_iff.mp hv
    simp
    omega

theorem code_injective {k j : FrameKind} (h : k.code = j.code) : k = j :=
  Option.some.inj ((frameKindOf_code k).symm.trans ((congrArg frameKindOf h).trans (frameKindOf_code j)))

/-- The rows that are whole line frames, with their kind and data characters (Table 11-9). -/
theorem encodeLineFrame_cases {c : Instr} {i : IndId} {k : FrameKind} {data : List Byte}
    (h : encodeLineFrame c = some (i, k.code, data)) :
    (∃ tag size, c = .bagFrame i tag size ∧ k = .bag ∧ data = digitChars tag ++ [sizeChar size]) ∨
    (∃ tag tag2 size, c = .multiFrame i tag tag2 size ∧ k = .multi ∧
      data = digitChars tag ++ digitChars tag2 ++ [sizeChar size]) ∨
    (∃ size, c = .noreadFrame i size ∧ k = .noread ∧ data = [sizeChar size]) ∨
    (∃ tray, c = .doneFrame i tray ∧ k = .done ∧ data = trayChars tray) ∨
    (∃ tray, c = .failFrame i tray ∧ k = .fail ∧ data = trayChars tray) := by
  have hparts : ∀ {j : IndId} {kind : FrameKind} {chars : List Byte},
      some (j, kind.code, chars) = some (i, k.code, data) → j = i ∧ k = kind ∧ data = chars := fun e => by
    obtain ⟨hj, hk, hchars⟩ : _ ∧ _ ∧ _ := by simpa using e
    exact ⟨hj, code_injective hk.symm, hchars.symm⟩
  cases c with
  | bagFrame j tag size =>
    obtain ⟨rfl, hk, hdata⟩ := hparts (kind := .bag) h
    exact .inl ⟨tag, size, rfl, hk, hdata⟩
  | multiFrame j tag tag2 size =>
    obtain ⟨rfl, hk, hdata⟩ := hparts (kind := .multi) h
    exact .inr (.inl ⟨tag, tag2, size, rfl, hk, hdata⟩)
  | noreadFrame j size =>
    obtain ⟨rfl, hk, hdata⟩ := hparts (kind := .noread) h
    exact .inr (.inr (.inl ⟨size, rfl, hk, hdata⟩))
  | doneFrame j tray =>
    obtain ⟨rfl, hk, hdata⟩ := hparts (kind := .done) h
    exact .inr (.inr (.inr (.inl ⟨tray, rfl, hk, hdata⟩)))
  | failFrame j tray =>
    obtain ⟨rfl, hk, hdata⟩ := hparts (kind := .fail) h
    exact .inr (.inr (.inr (.inr ⟨tray, rfl, hk, hdata⟩)))
  | _ => cases h

/-- The characters of a whole line frame are as many as its kind has, each good at its place. -/
theorem lineFrame_good {c : Instr} {i : IndId} {k : FrameKind} {data : List Byte}
    (h : encodeLineFrame c = some (i, k.code, data)) :
    data.length = k.dataLength ∧ ∀ n v, data[n]? = some v → k.badAt n v = false := by
  have htray : ∀ (j : FrameKind) (tray : BitVec 16), j = .done ∨ j = .fail →
      (trayChars tray).length = j.dataLength ∧ ∀ n v, (trayChars tray)[n]? = some v → j.badAt n v = false := by
    rintro j tray (rfl | rfl) <;> exact ⟨rfl, fun _ _ _ => rfl⟩
  rcases encodeLineFrame_cases h with ⟨tag, size, -, rfl, rfl⟩ | ⟨tag, tag2, size, -, rfl, rfl⟩ |
    ⟨size, -, rfl, rfl⟩ | ⟨tray, -, rfl, rfl⟩ | ⟨tray, -, rfl, rfl⟩
  · exact readChars_good (length_digitChars tag) rfl fun _ => digitChars_lt
  · refine readChars_good (by simp [length_digitChars, FrameKind.tagLength]) rfl fun v hv => ?_
    exact (List.mem_append.mp hv).elim digitChars_lt digitChars_lt
  · exact readChars_good (k := .noread) (tags := []) rfl rfl (by simp)
  · exact htray .done tray (.inl rfl)
  · exact htray .fail tray (.inr rfl)

/-- A whole line frame's row takes the frame by its kind and its data characters (R33, log 8). -/
theorem exec_lineFrame {c : Instr} {i : IndId} {k : FrameKind} {data : List Byte}
    (h : encodeLineFrame c = some (i, k.code, data)) (s : State) :
    exec c s = .next (completeFrame i k data (takeFrame i k data) s) := by
  rcases encodeLineFrame_cases h with ⟨tag, size, rfl, rfl, rfl⟩ | ⟨tag, tag2, size, rfl, rfl, rfl⟩ |
    ⟨size, rfl, rfl, rfl⟩ | ⟨tray, rfl, rfl, rfl⟩ | ⟨tray, rfl, rfl, rfl⟩
  · have htake : takeFrame i .bag (digitChars tag ++ [sizeChar size]) =
        takeRead i { reading := .bag tag, size := size } := by
      funext u
      simp [takeFrame, takeSized, length_digitChars, tagOfChars_digitChars, sizeOfChar_sizeChar]
    rw [htake]
    rfl
  · have htake : takeFrame i .multi (digitChars tag ++ digitChars tag2 ++ [sizeChar size]) =
        takeRead i { reading := .multi tag tag2, size := size } := by
      funext u
      simp [takeFrame, takeSized, length_digitChars, tagOfChars_digitChars, sizeOfChar_sizeChar]
    rw [htake]
    rfl
  · have htake : takeFrame i .noread [sizeChar size] = takeRead i { reading := .noread, size := size } := by
      funext u
      simp [takeFrame, takeSized, sizeOfChar_sizeChar]
    rw [htake]
    rfl
  · have htake : takeFrame i .done (trayChars tray) = takeAnswer i .done tray.toNat := by
      rw [← congrArg BitVec.toNat (trayChars_spell tray)]
      rfl
    rw [htake]
    rfl
  · have htake : takeFrame i .fail (trayChars tray) = takeAnswer i .fail tray.toNat := by
      rw [← congrArg BitVec.toNat (trayChars_spell tray)]
      rfl
    rw [htake]
    rfl

end Sys2Proof.Machine
end

section
/-! PROOF. The line receiver, character by character (O33). -/

namespace Sys2Proof.Machine

variable {i : IndId} {s : State}

theorem exec_frameOpened (h : (s.ind i).enabled = true) (k : FrameKind) :
    exec (.inductionFrameOpened i k) s = .next (receiveMark i k s) :=
  congrArg Host.Outcome.next (if_pos h)

theorem exec_characterFault (h : (s.ind i).enabled = true) (bad : CharFault) :
    exec (.inductionCharacterFault i bad) s = .next (receiveFault i bad s) :=
  congrArg Host.Outcome.next (if_pos h)

/-- R30: a marked character of known kind opens its frame, with no frame open. -/
theorem receiveMark_closed (h : (s.ind i).receiver = .idle ∨ (s.ind i).receiver = .skipping) (k : FrameKind) :
    receiveMark i k s = setReceiver i (.inFrame k []) s := by
  rcases h with h | h <;> rw [receiveMark, h]

/-- R30: an open frame is dropped first. -/
theorem receiveMark_open {open_ : FrameKind} {stored : List Byte}
    (h : (s.ind i).receiver = .inFrame open_ stored) (k : FrameKind) :
    receiveMark i k s = raise .lineError .hall (setReceiver i (.inFrame k []) s) := by
  rw [receiveMark, h]

/-- R30: a marked character of unknown kind, heard anywhere but in SKIPPING. -/
theorem receiveFault_unknownKind (h : (s.ind i).receiver ≠ .skipping) (code : Byte) :
    receiveFault i (.unknownKind code) s = raise .lineError .hall (setReceiver i .skipping s) := by
  rw [receiveFault]
  cases hr : (s.ind i).receiver with
  | skipping => exact absurd hr h
  | _ => rfl

theorem receiveFault_unknownKind_skipping (h : (s.ind i).receiver = .skipping) (code : Byte) :
    receiveFault i (.unknownKind code) s = s := by
  rw [receiveFault, h]

/-- R30: a bad stop bit drops an open frame. -/
theorem receiveFault_badStop_open {open_ : FrameKind} {stored : List Byte}
    (h : (s.ind i).receiver = .inFrame open_ stored) :
    receiveFault i .badStop s = raise .lineError .hall (setReceiver i .skipping s) := by
  rw [receiveFault, h]

theorem receiveFault_badStop_closed (h : (s.ind i).receiver = .idle ∨ (s.ind i).receiver = .skipping) :
    receiveFault i .badStop s = s := by
  rcases h with h | h <;> rw [receiveFault, h]

theorem frameKindOf_unknown {code : Byte} (h : code.toNat = 0 ∨ 6 ≤ code.toNat) : frameKindOf code = none := by
  unfold frameKindOf
  split <;> first | omega | rfl

theorem receiveData_closed (h : (s.ind i).receiver = .idle ∨ (s.ind i).receiver = .skipping) (v : Byte) :
    receiveData i v s = s := by
  rcases h with h | h <;> rw [receiveData, h]

/-- A frame has a field still to come where it has a place for it not yet stored. -/
theorem fieldAhead_of_place {k : FrameKind} {stored n : Nat} {field : DataField} (hle : stored ≤ n)
    (hlt : n < k.dataLength) (h : k.fieldAt n = some field) : fieldAhead k stored field = true :=
  List.any_eq_true.mpr ⟨n, List.mem_range.mpr hlt, by simp [hle, h]⟩

/-- R31: a bad data character of a field still to come drops the open frame. -/
theorem exec_badDataCharacter {k : FrameKind} {stored : List Byte} {field : DataField} {v : Byte}
    (he : (s.ind i).enabled = true) (h : (s.ind i).receiver = .inFrame k stored)
    (hfield : fieldAhead k stored.length field = true) (hv : badValue field v = true) :
    exec (.badDataCharacter i field v) s = .next (raise .lineError .hall (setReceiver i .skipping s)) := by
  refine congrArg Host.Outcome.next ((if_pos he).trans ?_)
  rw [receiveBadData, h]
  exact if_pos ⟨hfield, hv⟩

theorem fieldAhead_tagDigit {k : FrameKind} {n : Nat} (h : n < k.tagLength) : fieldAhead k n .tagDigit = true := by
  refine fieldAhead_of_place le_rfl ?_ ?_
  · cases k <;> simp_all [FrameKind.tagLength, FrameKind.dataLength] <;> omega
  · cases k <;> simp_all [FrameKind.tagLength, FrameKind.fieldAt]

theorem fieldAhead_sizeClass {k : FrameKind} {n : Nat} (hk : k = .bag ∨ k = .multi ∨ k = .noread)
    (h : n < k.dataLength) : fieldAhead k n .sizeClass = true := by
  refine fieldAhead_of_place (n := k.tagLength) ?_ ?_ ?_
  · rcases hk with rfl | rfl | rfl <;> exact Nat.le_of_lt_succ h
  · rcases hk with rfl | rfl | rfl <;> decide
  · rcases hk with rfl | rfl | rfl <;> rfl

/-- R31: what an open frame's receiver does at a bad data character that a row names. -/
theorem exec_badDataCharacters {k : FrameKind} {stored : List Byte} (he : (s.ind i).enabled = true)
    (h : (s.ind i).receiver = .inFrame k stored) :
    (∀ v : Byte, 10 ≤ v.toNat → stored.length < k.tagLength → exec (.badDataCharacter i .tagDigit v) s =
      .next (raise .lineError .hall (setReceiver i .skipping s))) ∧
    (∀ v : Byte, 4 ≤ v.toNat → k = .bag ∨ k = .multi ∨ k = .noread → stored.length < k.dataLength →
      exec (.badDataCharacter i .sizeClass v) s =
        .next (raise .lineError .hall (setReceiver i .skipping s))) :=
  ⟨fun _ hv hn => exec_badDataCharacter he h (fieldAhead_tagDigit hn) (decide_eq_true hv),
    fun _ hv hk hn => exec_badDataCharacter he h (fieldAhead_sizeClass hk hn) (decide_eq_true hv)⟩

theorem setReceiver_setReceiver (r r' : Receiver) : setReceiver i r (setReceiver i r' s) = setReceiver i r s :=
  modInd_modInd i (fun x => { x with receiver := r }) (fun x => { x with receiver := r' }) s

/-- R30, R31: the good characters still to come of an open frame, taken one at a time, complete it. -/
theorem foldl_receiveChar_data {k : FrameKind} {stored rest : List Byte} (he : (s.ind i).enabled = true)
    (h : (s.ind i).receiver = .inFrame k stored) (hne : rest ≠ [])
    (hlen : (stored ++ rest).length = k.dataLength)
    (hgood : ∀ n v, (stored ++ rest)[n]? = some v → k.badAt n v = false) :
    rest.foldl (fun u v => receiveChar i ⟨false, v, true⟩ u) s =
      takeFrame i k (stored ++ rest) (setReceiver i .idle s) := by
  induction rest generalizing stored s with
  | nil => exact absurd rfl hne
  | cons v rest ih =>
    have hv : k.badAt stored.length v = false := hgood _ v (by simp)
    rw [List.foldl_cons, receiveChar_data he]
    rw [List.length_append, List.length_cons] at hlen
    by_cases hlast : rest = []
    · subst hlast
      exact receiveData_last h hv (by simpa using hlen.symm)
    · have hrest : 0 < rest.length := List.length_pos_iff.mpr hlast
      rw [receiveData_stored h hv (by omega), ih (stored := stored ++ [v]), setReceiver_setReceiver, List.append_assoc]
      · rfl
      · rw [setReceiver, modInd_ind]
        exact he
      · rw [setReceiver, modInd_ind]
      · exact hlast
      · simp only [List.length_append, List.length_singleton]
        omega
      · simpa using hgood

/-- A frame row does what the characters still to come of its open frame do (log 8). -/
theorem exec_lineFrame_eq_foldl {c : Instr} {k : FrameKind} {stored rest : List Byte}
    (he : (s.ind i).enabled = true) (h : (s.ind i).receiver = .inFrame k stored)
    (hc : encodeLineFrame c = some (i, k.code, stored ++ rest)) (hne : rest ≠ []) :
    exec c s = .next (rest.foldl (fun u v => receiveChar i ⟨false, v, true⟩ u) s) := by
  obtain ⟨hlen, hgood⟩ := lineFrame_good hc
  rw [exec_lineFrame hc, completeFrame_open (framing_iff.mpr ⟨stored, h, List.prefix_append ..⟩) he,
    foldl_receiveChar_data he h hne hlen hgood]

/-- R31: silence drops the open frame. -/
theorem exec_silenceTimeout {open_ : FrameKind} {stored : List Byte}
    (h : (s.ind i).receiver = .inFrame open_ stored) :
    exec (.inductionSilenceTimeout i) s = .next (raise .lineError .hall (setReceiver i .idle s)) := by
  rw [exec, execInductionSilenceTimeout, h]

/-- Settles O33. -/
theorem lineReceiverMoves : Obligations.lineReceiverMoves := by
  intro i s
  refine ⟨fun he => ⟨fun k h => ?_, fun k open_ stored h => ⟨?_, ?_⟩, fun code h => ?_, fun code h => ?_,
    fun open_ stored h => ?_, fun h => ?_, fun k stored h => exec_badDataCharacters he h⟩,
    fun marked v => rfl, fun k => ?_, fun code h => ?_, fun v h => ?_, fun he k stored h =>
      ⟨fun v hv => ?_, fun v hv hn => ?_, fun c rest => exec_lineFrame_eq_foldl he h⟩, badAt_iff,
    fun open_ stored => exec_silenceTimeout, fun he k bad field v c => ⟨?_, ?_, ?_, receiveChar_disabled he c⟩⟩
  · rw [exec_frameOpened he, receiveMark_closed h]
    rfl
  · rw [exec_frameOpened he, receiveMark_open h]
    rfl
  · rw [exec_characterFault he, receiveFault, receiveMark_open h]
    rfl
  · rw [exec_characterFault he, receiveFault_unknownKind h]
    rfl
  · rw [exec_characterFault he, receiveFault_unknownKind_skipping h]
  · rw [exec_characterFault he, receiveFault_badStop_open h]
    rfl
  · rw [exec_characterFault he, receiveFault_badStop_closed h]
  · rw [receiveChar, frameKindOf_code]
    rfl
  · rw [receiveChar, frameKindOf_unknown h]
    rfl
  · cases he : (s.ind i).enabled with
    | false => exact receiveChar_disabled he _
    | true => exact (receiveChar_data he v).trans (receiveData_closed h v)
  · exact (receiveChar_data he v).trans (receiveData_bad h hv)
  · exact (receiveChar_data he v).trans (receiveData_stored h hv hn)
  all_goals exact congrArg Host.Outcome.next (if_neg (by rw [he]; exact Bool.false_ne_true))

end Sys2Proof.Machine
end

section
/-! SUPPORT. A read frame taken (R33 to R39): which row it is, what the queue does, and that beyond the queue it
reaches the induction's transmit list and re-send count alone. -/

namespace Sys2Proof.Machine

/-- The row of a read frame takes its read record (R33, R34). -/
theorem exec_readFrame {c : Instr} {i : IndId} {k : FrameKind} {rec : ReadRecord} {data : List Byte}
    (hr : readFrame c = some (i, k, rec)) (h : encodeLineFrame c = some (i, k.code, data)) (s : State) :
    exec c s = .next (completeFrame i k data (takeRead i rec) s) := by
  rcases encodeLineFrame_cases h with ⟨tag, size, rfl, rfl, rfl⟩ | ⟨tag, tag2, size, rfl, rfl, rfl⟩ |
    ⟨size, rfl, rfl, rfl⟩ | ⟨tray, rfl, -⟩ | ⟨tray, rfl, -⟩
  case inr.inr.inr.inl | inr.inr.inr.inr => cases hr
  all_goals
    cases hr
    rfl

variable {i : IndId} {f : Induction → Induction} {s : State}

/-- The held state of an induction rewritten within its causes 2 to 5 is judged from its queue hold (R37). -/
theorem modInd_held_self (hr : (f (s.ind i)).resync = (s.ind i).resync)
    (he : (f (s.ind i)).enabled = (s.ind i).enabled) :
    (modInd i f s).held i = ((f (s.ind i)).queueHold || s.barred i) := by
  rw [State.held, State.barred, State.barredWith, modInd_ind, hr, he]
  rfl

@[simp] theorem setReceiver_ind (i : IndId) (r : Receiver) (s : State) :
    (setReceiver i r s).ind i = { s.ind i with receiver := r } := modInd_ind ..

@[simp] theorem setReceiver_held (i : IndId) (r : Receiver) (s : State) (k : IndId) :
    (setReceiver i r s).held k = s.held k := modInd_held rfl rfl rfl k

/-! ### What the queue does (R34, R35) -/

theorem queueRead_resync (h : (s.ind i).resync = true) (rec : ReadRecord) : queueRead i rec s = s := if_pos h

theorem queueRead_append (hr : (s.ind i).resync = false) (hlen : (s.ind i).queue.length ≤ 3) (rec : ReadRecord) :
    queueRead i rec s = modInd i (·.append rec) s :=
  (if_neg (by rw [hr]; exact Bool.false_ne_true)).trans (if_pos hlen)

theorem queueRead_overrun (hr : (s.ind i).resync = false) (hlen : 4 ≤ (s.ind i).queue.length) (rec : ReadRecord) :
    queueRead i rec s = overrun i s :=
  (if_neg (by rw [hr]; exact Bool.false_ne_true)).trans (if_neg (by omega))

theorem overrun_ind (i : IndId) (s : State) :
    (overrun i s).ind i = { (s.ind i).emptyQueue with resync := true } :=
  modInd_ind i (fun r => { r.emptyQueue with resync := true }) s

theorem overrun_flagged (i : IndId) (s : State) : (overrun i s).flagged .shore .inductionOverrun = true :=
  flagged_raise _ (Scope.names_shore _) _

theorem queueRead_loop (i : IndId) (rec : ReadRecord) (s : State) : (queueRead i rec s).loop = s.loop := by
  unfold queueRead
  split
  · rfl
  · split <;> rfl

theorem queueRead_ind_ne {k : IndId} (h : k ≠ i) (rec : ReadRecord) (s : State) :
    (queueRead i rec s).ind k = s.ind k := by
  unfold queueRead
  split
  · rfl
  · split
    · exact modInd_ind_ne i k _ s h
    · exact modInd_ind_ne i k (fun r => { r.emptyQueue with resync := true }) s h

theorem queueRead_eq (i : IndId) (rec : ReadRecord) (s : State) :
    queueRead i rec s =
      { s with inds := (queueRead i rec s).inds, notices := (queueRead i rec s).notices } := by
  unfold queueRead
  split
  · rfl
  · split <;> rfl

/-- The queue's part of a read frame leaves the receiver and the launch windows. -/
theorem queueRead_keeps (i : IndId) (rec : ReadRecord) (s : State) :
    ((queueRead i rec s).ind i).receiver = (s.ind i).receiver ∧
      ((queueRead i rec s).ind i).windows = (s.ind i).windows := by
  unfold queueRead
  split
  · exact ⟨rfl, rfl⟩
  · split
    · rw [modInd_ind, Induction.append, Induction.judgeQueue_eq]
      exact ⟨rfl, rfl⟩
    · rw [overrun_ind]
      exact ⟨rfl, rfl⟩

/-! ### What the line is sent (R37, R39) -/

/-- An induction with its transmit list and its re-send count given. -/
def Induction.withLine (sending : Option TxFrame) (waiting : List TxFrame) (n : Nat) (r : Induction) : Induction :=
  { r with sending := sending, waiting := waiting, resendCount := n }

/-- Nothing has changed but the transmit list and the re-send count of one induction. -/
def LineOnly (i : IndId) (s t : State) : Prop :=
  ∃ sending waiting n, t = modInd i (Induction.withLine sending waiting n) s

theorem lineOnly_modInd
    (h : f (s.ind i) = (s.ind i).withLine (f (s.ind i)).sending (f (s.ind i)).waiting (f (s.ind i)).resendCount) :
    LineOnly i s (modInd i f s) := ⟨_, _, _, modInd_congr h⟩

theorem LineOnly.refl (i : IndId) (s : State) : LineOnly i s s := ⟨_, _, _, (modInd_self rfl).symm⟩

theorem LineOnly.trans {t u : State} (h : LineOnly i s t) (k : LineOnly i t u) : LineOnly i s u := by
  obtain ⟨_, _, _, rfl⟩ := h
  obtain ⟨sending, waiting, n, rfl⟩ := k
  exact ⟨sending, waiting, n, modInd_modInd ..⟩

theorem resendHold_lineOnly (i : IndId) (s : State) : LineOnly i s (resendHold i s) := by
  unfold resendHold
  split
  · exact lineOnly_modInd (by rw [Induction.send_eq]; rfl)
  · exact .refl i s

/-- Beyond what the queue does, a read frame changes the transmit list and the re-send count alone. -/
theorem takeRead_lineOnly (i : IndId) (rec : ReadRecord) (s : State) :
    LineOnly i (queueRead i rec s) (takeRead i rec s) := by
  have hsettle : LineOnly i (queueRead i rec s) (settleHolds s (queueRead i rec s)) := by
    rw [settleHolds_at fun k hk => (held_congr (queueRead_ind_ne hk rec s)
      (congrArg Loop.hold (queueRead_loop i rec s)) (congrArg Loop.state (queueRead_loop i rec s))).symm]
    exact lineOnly_modInd (Induction.settled_eq ..)
  unfold takeRead
  dsimp only
  split
  · exact (hsettle.trans (lineOnly_modInd rfl)).trans (resendHold_lineOnly ..)
  · exact hsettle

/-- R39: the re-send of a held induction whose record has just been rewritten. -/
theorem resendHold_modInd (h : (modInd i f s).held i = true) :
    resendHold i (modInd i f s) = modInd i (fun r =>
      if (f r).n ≤ (f r).resendCount then { (f r).send .hold with resendCount := 0 } else f r) s := by
  unfold resendHold
  rw [h, modInd_ind]
  by_cases hn : (f (s.ind i)).n ≤ (f (s.ind i)).resendCount
  · rw [if_pos ⟨rfl, hn⟩, modInd_modInd]
    exact modInd_congr (if_pos hn).symm
  · rw [if_neg fun e => hn e.2]
    exact modInd_congr (if_neg hn).symm

/-- A frame joins the list as it would with another re-send count. -/
theorem Induction.send_withCount (g : TxFrame) (n : Nat) (r : Induction) :
    ({ r with resendCount := n } : Induction).send g = { r.send g with resendCount := n } := by
  unfold Induction.send
  dsimp only
  split
  · rfl
  · split <;> rfl

/-! ### A read frame that joins the queue (R33, R34, R36, R39) -/

/-- R34, R36: the induction with a read record at the tail of its queue. -/
def Induction.queued (rec : ReadRecord) (r : Induction) : Induction :=
  { r with
    queue := r.queue ++ [rec], queueHold := decide (3 ≤ (r.queue ++ [rec]).length) || r.queueHold
    waitCount := if r.queue = [] then 0 else r.waitCount }

/-- R36: a queue hold stands only over a queue that is not empty, so a record that joins releases none. -/
theorem Induction.append_eq_queued (rec : ReadRecord) {r : Induction} (h : r.queueHold = true → r.queue ≠ []) :
    r.append rec = r.queued rec := by
  have hlen : (r.queue ++ [rec]).length = r.queue.length + 1 := by simp
  have hwait : (if r.queue.isEmpty then 0 else r.waitCount) = if r.queue = [] then 0 else r.waitCount := by
    simp [List.isEmpty_iff]
  rw [Induction.append, Induction.judgeQueue, Induction.queued, hwait]
  dsimp only
  by_cases h3 : 3 ≤ (r.queue ++ [rec]).length
  · simp only [if_pos h3, decide_eq_true h3, Bool.true_or]
  · by_cases h1 : (r.queue ++ [rec]).length ≤ 1
    · have hempty : r.queue = [] := List.length_eq_zero_iff.mp (by omega)
      have hhold : r.queueHold = false := by
        rw [Bool.eq_false_iff]
        exact fun e => h e hempty
      simp only [if_neg h3, if_pos h1, decide_eq_false h3, hhold, Bool.or_false]
    · simp only [if_neg h3, if_neg h1, decide_eq_false h3, Bool.false_or]

/-- R33 to R39: a read frame that joins the queue, at an induction not held or held. -/
theorem takeRead_queued (hres : (s.ind i).resync = false) (hlen : (s.ind i).queue.length ≤ 3)
    (hhold : (s.ind i).queueHold = true → (s.ind i).queue ≠ []) (rec : ReadRecord) :
    (s.held i = false → takeRead i rec s = modInd i (fun r =>
      if (r.queued rec).queueHold then { (r.queued rec).send .hold with resendCount := 0 }
      else r.queued rec) s) ∧
    (s.held i = true → takeRead i rec s = modInd i (fun r =>
      if r.n ≤ r.resendCount + 1 then { (r.queued rec).send .hold with resendCount := 0 }
      else { r.queued rec with resendCount := r.resendCount + 1 }) s) := by
  have happend : queueRead i rec s = modInd i (·.queued rec) s :=
    (queueRead_append hres hlen rec).trans (modInd_congr (Induction.append_eq_queued rec hhold))
  have hheld : (modInd i (·.queued rec) s).held i = (((s.ind i).queued rec).queueHold || s.barred i) :=
    modInd_held_self rfl rfl
  refine ⟨fun h => ?_, fun h => ?_⟩
  · have hbarred : s.barred i = false := (Bool.or_eq_false_iff.mp h).2
    rw [takeRead, if_neg (by rw [h]; exact Bool.false_ne_true), happend, settleHolds_modInd, h, hheld, hbarred,
      Bool.or_false]
    refine modInd_congr ?_
    cases ((s.ind i).queued rec).queueHold <;> rfl
  · have hstill : (modInd i (·.queued rec) s).held i = true := by
      rw [hheld]
      rcases Bool.or_eq_true_iff.mp h with hq | hb
      · simp [Induction.queued, hq]
      · rw [hb, Bool.or_true]
    rw [takeRead, if_pos h, happend, settleHolds_modInd, h, hstill]
    simp only [Induction.settled_same]
    rw [modInd_modInd, resendHold_modInd]
    · refine modInd_congr ?_
      simp only [Induction.send_withCount]
      rfl
    · rw [modInd_held_self rfl rfl, ← hstill, hheld]

end Sys2Proof.Machine
end

section
/-! PROOF. Read frames: those that join the queue and those that do not (O29, O30). -/

namespace Sys2Proof.Machine

/-- Settles O29: the record joins the tail, and HOLD follows where the induction comes to be held or its count is
full. -/
theorem readFramesJoinTheQueue : Obligations.readFramesJoinTheQueue := by
  intro c i k rec data s hr hc hf he hres hlen hhold q hold r
  have hset := setReceiver_ind i .idle s
  have htake := takeRead_queued (i := i) (s := setReceiver i .idle s) (by rw [hset]; exact hres)
    (by rw [hset]; exact hlen) (by rw [hset]; exact hhold) rec
  rw [setReceiver_held] at htake
  have hrow : ∀ {g : Induction → Induction}, takeRead i rec (setReceiver i .idle s) =
      modInd i g (setReceiver i .idle s) →
      exec c s = .next (modInd i (fun x => g { x with receiver := .idle }) s) := fun {g} e => by
    rw [exec_readFrame hr hc, completeFrame_open hf he, e, setReceiver, modInd_modInd]
  have hq : ({ s.ind i with receiver := .idle } : Induction).queued rec = r := rfl
  have hqh : r.queueHold = hold := rfl
  refine ⟨fun hh hhold => ?_, fun hh hhold => ?_, fun hh hn => ?_, fun hh hn => ?_⟩
  · exact (hrow (htake.1 hh)).trans (congrArg Host.Outcome.next
      (modInd_congr (g := fun _ => r) (if_neg (by rw [hq, hqh, hhold]; exact Bool.false_ne_true))))
  · exact (hrow (htake.1 hh)).trans (congrArg Host.Outcome.next
      (modInd_congr (g := fun _ => { r.send .hold with resendCount := 0 }) (if_pos (hqh.trans hhold))))
  · exact (hrow (htake.2 hh)).trans (congrArg Host.Outcome.next
      (modInd_congr (g := fun _ => { r with resendCount := (s.ind i).resendCount + 1 }) (if_neg (not_le.mpr hn))))
  · exact (hrow (htake.2 hh)).trans (congrArg Host.Outcome.next
      (modInd_congr (g := fun _ => { r.send .hold with resendCount := 0 }) (if_pos hn)))

/-- Settles O30: what the queue does, and beyond it the line alone. -/
theorem readFramesThatAreNotQueued : Obligations.readFramesThatAreNotQueued := by
  intro c i k rec data s hr hc
  refine ⟨fun h => by rw [exec_readFrame hr hc, completeFrame_closed h], fun hf he =>
    ⟨takeRead i rec (setReceiver i .idle s), by rw [exec_readFrame hr hc, completeFrame_open hf he], ?_⟩⟩
  obtain ⟨sending, waiting, n, ht⟩ := takeRead_lineOnly i rec (setReceiver i .idle s)
  have hv := setReceiver_ind i .idle s
  have hrecv : setReceiver i .idle s = { s with inds := (setReceiver i .idle s).inds } := rfl
  have hothers : ∀ j, j ≠ i → (setReceiver i .idle s).ind j = s.ind j := fun j hj => modInd_ind_ne i j _ s hj
  generalize setReceiver i .idle s = v at *
  have hq := queueRead_eq i rec v
  obtain ⟨hreceiver, hwindows⟩ := queueRead_keeps i rec v
  have hres : v.notices = s.notices ∧ (v.ind i).resync = (s.ind i).resync ∧ (v.ind i).queue = (s.ind i).queue ∧
      (v.ind i).reservation = (s.ind i).reservation := by
    rw [hv]
    exact ⟨(congrArg State.notices hrecv :), rfl, rfl, rfl⟩
  obtain ⟨hnotices, hresync, hqueue, hreservation⟩ := hres
  rw [ht]
  refine ⟨?_, fun j hj => ?_, ?_, ?_, fun hr => ?_, fun hr hlen => ?_⟩
  · rw [modInd, hq, hrecv]
  · rw [modInd_ind_ne _ _ _ _ hj, queueRead_ind_ne hj, hothers j hj]
  · rw [modInd_ind]
    exact hreceiver.trans (by rw [hv])
  · rw [modInd_ind]
    exact hwindows.trans (by rw [hv])
  · rw [modInd_ind, queueRead_resync (hresync.trans hr)]
    exact ⟨hnotices, hqueue, hresync.trans hr, hreservation⟩
  · rw [modInd_ind, queueRead_overrun (hresync.trans hr) (hqueue ▸ hlen), overrun_ind, ← hreservation]
    exact ⟨rfl, rfl, rfl, rfl, rfl, overrun_flagged i v⟩

end Sys2Proof.Machine
end

section
/-! PROOF. Launch answers: DONE for an open window, and an answer that comes late (O31). -/

namespace Sys2Proof.Machine

variable {i : IndId} {s : State}

/-- R42: DONE for an open window closes it, and the launch is confirmed. -/
theorem takeAnswer_done {t : Nat} (h : ∃ w ∈ (s.ind i).windows, w.tray = t) :
    takeAnswer i .done t s =
      confirmLaunch t (modInd i (fun r => { r with windows := r.windows.eraseP fun w => w.tray = t }) s) := by
  obtain ⟨w, hw⟩ : ∃ w, ((s.ind i).windows.find? fun w => w.tray = t) = some w :=
    Option.isSome_iff_exists.mp (List.find?_isSome.mpr (by simpa using h))
  rw [takeAnswer, hw]

/-- R44: an answer for a tray without an open window. -/
theorem takeAnswer_late {t : Nat} (h : ∀ w ∈ (s.ind i).windows, w.tray ≠ t) (kind : AnswerKind) :
    takeAnswer i kind t s = raise .lineError .hall s := by
  have hnone : ((s.ind i).windows.find? fun w => w.tray = t) = none :=
    List.find?_eq_none.mpr (by simpa using h)
  rw [takeAnswer, hnone]

/-- A launch answer that the receiver has open is taken with the receiver back in IDLE. -/
theorem exec_lateAnswer {kind : AnswerKind} {tray : BitVec 16} (he : (s.ind i).enabled = true)
    (hf : s.framing i (answerFrame kind) (trayChars tray) = true) :
    exec (.lateAnswer i kind tray) s = .next (takeAnswer i kind tray.toNat (setReceiver i .idle s)) := by
  rw [exec, execLateAnswer, completeFrame_open hf he]

/-- R44: it is ignored with LINE_ERROR where no window is open for its tray. -/
theorem exec_lateAnswer_late {kind : AnswerKind} {tray : BitVec 16} (he : (s.ind i).enabled = true)
    (hlate : ∀ w ∈ (s.ind i).windows, w.tray ≠ tray.toNat)
    (hf : s.framing i (answerFrame kind) (trayChars tray) = true) :
    exec (.lateAnswer i kind tray) s = .next (raise .lineError .hall (setReceiver i .idle s)) := by
  rw [exec_lateAnswer he hf, takeAnswer_late]
  rwa [setReceiver_ind]

/-- Settles O31. -/
theorem launchAnswersCloseWindows : Obligations.launchAnswersCloseWindows := by
  refine fun i tray s he => ⟨fun hf hw => ?_, fun hlate =>
    ⟨fun hf => ⟨exec_lateAnswer_late (kind := .done) he hlate hf, rfl⟩,
      fun hf => ⟨exec_lateAnswer_late (kind := .fail) he hlate hf, rfl⟩⟩⟩
  have hopen : ∃ w ∈ ((setReceiver i .idle s).ind i).windows, w.tray = tray.toNat := by
    rwa [setReceiver_ind]
  refine (exec_lateAnswer (kind := .done) he hf).trans ?_
  rw [takeAnswer_done hopen, setReceiver, modInd_modInd]
  rfl

end Sys2Proof.Machine
end

section
/-! PROOF. CONFIGURE INDUCTION and INDUCTION RESUME (O43). -/

namespace Sys2Proof.Machine

/-- R28: a GRANTED reservation ends, and the head wait count with it. -/
def Induction.ungranted (r : Induction) : Induction :=
  match r.reservation with
  | .granted _ => { r with reservation := .none, waitCount := 0 }
  | .none | .requested => r

/-- R28: the tray that an induction's GRANTED reservation holds becomes EMPTY. -/
def freeGranted (i : IndId) (s : State) : State :=
  match (s.ind i).reservation with
  | .granted t => freeReserved i t s
  | .none | .requested => s

/-- R28: the record that CONFIGURE INDUCTION leaves, before the holds are settled. -/
def Induction.configured (offset n w : Nat) (enabled : Bool) (r : Induction) : Induction :=
  let r1 := if offset ≠ r.offset then r.ungranted else r
  let r2 := { r1 with
    offset := offset, n := n, w := w, enabled := enabled
    resendCount := if n ≠ r.n then 0 else r1.resendCount }
  if r.enabled ∧ enabled = false then { r2.emptyQueue with receiver := .idle } else r2

theorem Induction.ungranted_eq (r : Induction) :
    r.ungranted = { r with reservation := r.ungranted.reservation, waitCount := r.ungranted.waitCount } := by
  unfold Induction.ungranted
  split <;> rfl

theorem freeReserved_eq (i : IndId) (t : Nat) (s : State) :
    freeReserved i t s = { s with loop := { s.loop with trays := (freeReserved i t s).loop.trays } } := by
  unfold freeReserved
  split <;> rfl

theorem freeGranted_eq (i : IndId) (s : State) :
    freeGranted i s = { s with loop := { s.loop with trays := (freeGranted i s).loop.trays } } := by
  unfold freeGranted
  split
  · exact freeReserved_eq ..
  all_goals rfl

theorem endGranted_eq (i : IndId) (s : State) :
    endGranted i s = modInd i Induction.ungranted (freeGranted i s) := by
  have hind : (freeGranted i s).ind i = s.ind i := (congrArg (fun u : State => u.ind i) (freeGranted_eq i s) :)
  unfold endGranted
  split
  · next t h =>
    have hg : freeGranted i s = freeReserved i t s := by rw [freeGranted, h]
    rw [hg] at hind ⊢
    refine modInd_congr ?_
    rw [hind, Induction.ungranted, h]
  all_goals
    next h =>
      have hg : freeGranted i s = s := by rw [freeGranted, h]
      rw [hg, modInd_self]
      rw [Induction.ungranted, h]

/-- R28, R47: a tray RESERVED for the induction that gives it up becomes EMPTY. -/
theorem freeReserved_tray {i : IndId} {t : Nat} {s : State} (h : s.tray t = .reserved i) :
    (freeReserved i t s).tray t = .empty := by
  have ht : t < s.T := by
    by_contra hle
    rw [tray_of_le (not_lt.mp hle)] at h
    cases h
  rw [freeReserved, if_pos h]
  exact putTray_tray t _ s ht

section Configured
variable (offset n w : Nat) (enabled : Bool) (r : Induction)

theorem Induction.configured_eq : r.configured offset n w enabled =
    { r with
      offset := offset, n := n, w := w, enabled := enabled
      receiver := (r.configured offset n w enabled).receiver, queue := (r.configured offset n w enabled).queue
      queueHold := (r.configured offset n w enabled).queueHold
      resendCount := (r.configured offset n w enabled).resendCount
      waitCount := (r.configured offset n w enabled).waitCount
      reservation := (r.configured offset n w enabled).reservation } := by
  unfold Induction.configured
  rw [Induction.ungranted_eq]
  dsimp only
  split <;> split <;> rfl

variable {offset n w enabled r}

/-- R28: an induction that becomes disabled. -/
theorem Induction.configured_disabled (h : r.enabled = true) (he : enabled = false) :
    (r.configured offset n w enabled).queue = [] ∧ (r.configured offset n w enabled).queueHold = false ∧
      (r.configured offset n w enabled).waitCount = 0 ∧ (r.configured offset n w enabled).receiver = .idle ∧
      (r.configured offset n w enabled).reservation ≠ .requested := by
  rw [Induction.configured, if_pos ⟨h, he⟩]
  refine ⟨rfl, rfl, rfl, rfl, ?_⟩
  dsimp only [Induction.emptyQueue]
  generalize Induction.reservation _ = v
  cases v <;> simp [Reservation.withdraw]

/-- R28: an induction that does not become disabled. -/
theorem Induction.configured_kept (h : r.enabled = false ∨ enabled = true) :
    (r.configured offset n w enabled).queue = r.queue ∧
      (r.configured offset n w enabled).receiver = r.receiver := by
  have hif : ¬ (r.enabled = true ∧ enabled = false) := by
    rcases h with h | h <;> simp [h]
  rw [Induction.configured, if_neg hif, Induction.ungranted_eq]
  dsimp only
  split <;> exact ⟨rfl, rfl⟩

/-- R28: a new offset ends a GRANTED reservation. -/
theorem Induction.configured_granted {k : Nat} (ho : offset ≠ r.offset) (h : r.reservation = .granted k) :
    (r.configured offset n w enabled).reservation = .none := by
  have hnone : r.ungranted.reservation = .none := by rw [Induction.ungranted, h]
  rw [Induction.configured, if_pos ho]
  dsimp only
  split
  · dsimp only [Induction.emptyQueue]
    rw [hnone]
    rfl
  · exact hnone

end Configured

/-- What CONFIGURE INDUCTION leaves before the holds are settled. -/
def configuring (i : IndId) (offset n w : Nat) (enabled : Bool) (s : State) : State :=
  modInd i (Induction.configured offset n w enabled) (if offset ≠ (s.ind i).offset then freeGranted i s else s)

theorem applyInduction_def (i : IndId) (offset n w : Nat) (enabled : Bool) (s : State) :
    applyInduction i offset n w enabled s = settleHolds s (configuring i offset n w enabled s) := by
  have hind : (freeGranted i s).ind i = s.ind i := (congrArg (fun u : State => u.ind i) (freeGranted_eq i s) :)
  unfold applyInduction configuring
  dsimp only
  congr 1
  by_cases ho : offset ≠ (s.ind i).offset
  · simp only [if_pos ho, endGranted_eq, modInd_modInd]
    split
    · next he =>
      refine modInd_congr ?_
      rw [hind, Induction.configured, if_pos he, if_pos ho]
    · next he =>
      refine modInd_congr ?_
      rw [hind, Induction.configured, if_neg he, if_pos ho]
  · simp only [if_neg ho, modInd_modInd]
    split
    · next he =>
      refine modInd_congr ?_
      rw [Induction.configured, if_pos he, if_neg ho]
    · next he =>
      refine modInd_congr ?_
      rw [Induction.configured, if_neg he, if_neg ho]

section Apply
variable (i : IndId) (offset n w : Nat) (enabled : Bool) (s : State)

theorem configuring_eq : configuring i offset n w enabled s = { s with
    loop := { s.loop with trays := (configuring i offset n w enabled s).loop.trays }
    inds := s.inds.set i ((s.ind i).configured offset n w enabled) } := by
  have h := freeGranted_eq i s
  unfold configuring
  split
  · rw [h]
    rfl
  · rfl

theorem applyInduction_eq : applyInduction i offset n w enabled s = { s with
    loop := { s.loop with trays := (applyInduction i offset n w enabled s).loop.trays }
    inds := (applyInduction i offset n w enabled s).inds } := by
  rw [applyInduction_def, settleHolds_eq, configuring_eq]

theorem applyInduction_ind_ne {k : IndId} (h : k ≠ i) :
    (applyInduction i offset n w enabled s).ind k = s.ind k := by
  have hc : (configuring i offset n w enabled s).ind k = s.ind k :=
    (congrArg (fun u : State => u.ind k) (configuring_eq i offset n w enabled s) :).trans
      (PerInd.get_set_ne _ _ _ _ h)
  have hl := (congrArg State.loop (configuring_eq i offset n w enabled s) :)
  have hheld : (configuring i offset n w enabled s).held k = s.held k :=
    held_congr hc (congrArg Loop.hold hl :) (congrArg Loop.state hl :)
  rw [applyInduction_def, settleHolds_ind, hheld, Induction.settled_same, hc]

theorem applyInduction_ind :
    (applyInduction i offset n w enabled s).ind i = ((s.ind i).configured offset n w enabled).settled
      (s.held i) ((applyInduction i offset n w enabled s).held i) := by
  have hc : (configuring i offset n w enabled s).ind i = (s.ind i).configured offset n w enabled :=
    (congrArg (fun u : State => u.ind i) (configuring_eq i offset n w enabled s) :).trans (PerInd.get_set ..)
  rw [applyInduction_def, settleHolds_held, settleHolds_ind, hc]

theorem applyInduction_loop_same (h : offset = (s.ind i).offset) :
    (applyInduction i offset n w enabled s).loop = s.loop := by
  rw [applyInduction_def, settleHolds_loop, configuring, if_neg (not_not.mpr h)]
  rfl

theorem applyInduction_tray {k : Nat} (h : offset ≠ (s.ind i).offset)
    (hg : (s.ind i).reservation = .granted k) (hk : s.tray k = .reserved i) :
    (applyInduction i offset n w enabled s).tray k = .empty := by
  rw [applyInduction_def, settleHolds_tray, configuring, if_pos h, freeGranted, hg]
  exact freeReserved_tray hk

end Apply

/-- R27, R28: the values of a CONFIGURE INDUCTION that passes the checks before the offset's. -/
theorem configureInduction_checked {p : Payload} {s : State} {i : IndId} {enabled : Bool}
    (hi : indOf (u8 p 0) = some i) (he : yesNoOf (u8 p 5) = some enabled)
    (hn : u8 p 3 = 1 ∨ u8 p 3 = 4 ∨ u8 p 3 = 8 ∨ u8 p 3 = 16) (hlo : 1 ≤ u8 p 4) (hhi : u8 p 4 ≤ 64)
    (hT : u16 p 1 < s.T) (h0 : enabled = true → u16 p 1 ≠ 0)
    (hfree : ∀ k, k ≠ i → u16 p 1 ≠ 0 → (s.ind k).offset ≠ u16 p 1) :
    configureInduction p s =
      if u16 p 1 ≠ (s.ind i).offset ∧ (s.ind i).enabled then .error .state
      else .ok (applyInduction i (u16 p 1) (u8 p 3) (u8 p 4) enabled s, .ok) := by
  have hvalues : ¬ (¬ (u8 p 3 = 1 ∨ u8 p 3 = 4 ∨ u8 p 3 = 8 ∨ u8 p 3 = 16) ∨ u8 p 4 < 1 ∨ 64 < u8 p 4 ∨
      s.T ≤ u16 p 1) := by omega
  have hplaced : ¬ (enabled = true ∧ u16 p 1 = 0) := fun h => h0 h.1 h.2
  have hoverlap : ¬ (u16 p 1 ≠ 0 ∧ (allInds.any fun k => k != i && (s.ind k).offset = u16 p 1) = true) := by
    rintro ⟨hne, hany⟩
    obtain ⟨k, -, hk⟩ := List.any_eq_true.mp hany
    rw [Bool.and_eq_true, bne_iff_ne, decide_eq_true_eq] at hk
    exact hfree k hk.1 hne hk.2
  rw [configureInduction, hi, he]
  dsimp only
  rw [if_neg hvalues, if_neg hplaced, if_neg hoverlap]

/-- R29: INDUCTION RESUME of an induction in RESYNC, which is held, sends RESUME where no cause is left. -/
theorem settleHolds_resumed {i : IndId} {s : State} (h : (s.ind i).resync = true) {r : Induction}
    (hr : r = { s.ind i with resync := false }) :
    settleHolds s (modInd i (fun r => { r with resync := false }) s) = modInd i (fun _ =>
      if r.queueHold = true ∨ heldByLoop s.loop.hold i = true ∨ s.atRest = true ∨ r.enabled = false then r
      else r.send .resume) s := by
  have hwas : s.held i = true := by simp [State.held, State.barred, State.barredWith, h]
  have hnow : (modInd i (fun r => { r with resync := false }) s).held i =
      decide (r.queueHold = true ∨ heldByLoop s.loop.hold i = true ∨ s.atRest = true ∨ r.enabled = false) := by
    rw [State.held, State.barred, State.barredWith, modInd_ind, hr]
    change (_ || (heldByLoop s.loop.hold i || false || s.atRest || _)) = _
    simp [Bool.or_assoc]
  rw [settleHolds_modInd, hwas, hnow]
  refine modInd_congr ?_
  rw [← hr]
  split
  · next hc => rw [decide_eq_true hc, Induction.settled_same]
  · next hc => rw [decide_eq_false hc]; rfl

/-- Settles O43. -/
theorem configureAndResumeInductions : Obligations.configureAndResumeInductions := by
  refine fun l p s => ⟨fun h i enabled hi he hn hlo hhi hT h0 hfree => ?_, fun h =>
    ⟨fun hbad => exec_refusedWith h ?_, fun i hi => ⟨fun hr => exec_refusedWith h ?_, fun hr r hrec => ?_⟩⟩⟩
  · have hown := configureInduction_checked hi he hn hlo hhi hT h0 hfree
    refine ⟨fun ho hen => exec_refusedWith h (hown.trans (if_pos ⟨ho, hen⟩)), fun hok =>
      ⟨_, exec_answeredOk h (hown.trans (if_neg ?_)), applyInduction_eq .., fun k =>
        applyInduction_ind_ne _ _ _ _ _ s, ?_⟩⟩
    · rintro ⟨ho, hen⟩
      rcases hok with hsame | hdis
      · exact ho hsame
      · rw [hdis] at hen
        cases hen
    · rw [applyInduction_ind]
      simp only [Induction.settled_offset, Induction.settled_n, Induction.settled_w, Induction.settled_wInUse,
        Induction.settled_enabled, Induction.settled_resync, Induction.settled_windows, Induction.settled_queue,
        Induction.settled_queueHold, Induction.settled_waitCount, Induction.settled_receiver,
        Induction.settled_reservation]
      have hc := Induction.configured_eq (u16 p 1) (u8 p 3) (u8 p 4) enabled (s.ind i)
      refine ⟨by rw [hc], by rw [hc], by rw [hc], by rw [hc], by rw [hc], by rw [hc], by rw [hc],
        Induction.configured_disabled, Induction.configured_kept, applyInduction_loop_same _ _ _ _ _ s,
        fun k ho hg => ⟨Induction.configured_granted ho hg, applyInduction_tray _ _ _ _ _ s ho hg⟩,
        fun hs hw => ?_⟩
      exact Induction.settled_sending_of_idle _ _ (by rw [hc]; exact hs) (by rw [hc]; exact hw)
  · simp [Command.own, inductionResume, indOf_eq_none hbad]
  · simp [Command.own, inductionResume, hi, hr]
  · have hown : Command.own .inductionResume l p s =
        .ok (settleHolds s (modInd i (fun r => { r with resync := false }) s), .ok) := by
      simp [Command.own, inductionResume, hi, hr]
    rw [settleHolds_resumed hr hrec] at hown
    exact exec_answeredOk h hown

end Sys2Proof.Machine
end

section
/-! SUPPORT. The parts of a claim check: the claim, the release of a GRANTED tray, the reservation request, the
grant (R40, R45 to R47). -/

namespace Sys2Proof.Machine

/-! ### A classification leaves the launch as it is -/

/-- Whether the launch of the bag on a tray is confirmed, where it has one. -/
def State.launched (s : State) (t : Nat) : Option Bool := (s.tray t).bag.map (·.launchConfirmed)

theorem launched_of_loop {s u : State} (h : u.loop = s.loop) (t : Nat) : u.launched t = s.launched t :=
  congrArg (fun l : Loop => (l.trays.getD t .empty).bag.map BagRecord.launchConfirmed) h

theorem modBag_launched {f : BagRecord → BagRecord} (t : Nat) (s : State)
    (h : ∀ b : BagRecord, (f b).launchConfirmed = b.launchConfirmed := by exact fun _ => rfl) :
    (modBag t f s).launched t = s.launched t := by
  rw [State.launched, modBag_tray, Tray.bag_mapBag, Option.map_map]
  exact congrArg (Option.map · _) (funext h)

theorem makeStray_launched (t : Nat) (q : StrayRequest) (s : State) :
    (makeStray t q s).state.launched t = s.launched t :=
  (modBag_launched t (recordStray q s).state).trans (launched_of_loop (recordStray_loop q s) t)

theorem makeWaiting_launched (t : Nat) (r : WaitReason) (s : State) :
    (makeWaiting t r s).state.launched t = s.launched t := modBag_launched t s

theorem routeBag_launched (t : Nat) (sl : Slot) (e : BagEntry) (s : State) :
    (routeBag t sl e s).state.launched t = s.launched t :=
  (modBag_launched t (reinductStray e.tag sl (linkEntry e.tag s)).state).trans
    (launched_of_loop (s := s) (reinductStray_loop e.tag sl (linkEntry e.tag s)) t)

theorem classifyEntry_launched (t : Nat) (tag : Tag) (sl : Slot) (e : BagEntry) (s : State) :
    (classifyEntry t tag sl e s).state.launched t = s.launched t := by
  unfold classifyEntry
  split
  case h_1 | h_2 => exact makeStray_launched ..
  all_goals
    split
    · exact routeBag_launched ..
    · split
      · exact makeWaiting_launched ..
      · exact makeStray_launched ..

theorem classifyInSlot_launched (t : Nat) (tag : Tag) (sl : Slot) (s : State) :
    (classifyInSlot t tag sl s).state.launched t = s.launched t := by
  unfold classifyInSlot
  split
  · exact makeStray_launched ..
  · split
    · exact classifyEntry_launched ..
    · split
      · exact makeWaiting_launched ..
      · exact makeStray_launched ..

theorem classifyTag_launched (t : Nat) (tag : Tag) (s : State) :
    (classifyTag t tag s).state.launched t = s.launched t := by
  unfold classifyTag
  split
  · exact makeStray_launched ..
  · split
    case h_1 | h_2 => exact makeStray_launched ..
    all_goals exact (classifyInSlot_launched ..).trans (modBag_launched t s)

theorem classify_launched (t : Nat) (s : State) : (classify t s).state.launched t = s.launched t := by
  unfold classify
  split
  · rfl
  · split
    · exact makeStray_launched ..
    · split
      · exact makeStray_launched ..
      · exact (classifyTag_launched ..).trans (modBag_launched t s)

/-! ### The claim (R40) -/

/-- R40: the record leaves the queue, LAUNCH joins the line and a launch window opens. -/
def Induction.claimed (t : Nat) (rec : ReadRecord) (rest : List ReadRecord) (note : UndoNote) (r : Induction) :
    Induction :=
  let r1 := { r with queue := rest, waitCount := 0 }.judgeQueue
  { r1.send (.launch t) with
    windows := r1.windows ++ [⟨t, 2, rec, note⟩], reservation := r1.reservation.afterClaim t }

theorem Induction.claimed_eq (t : Nat) (rec : ReadRecord) (rest : List ReadRecord) (note : UndoNote)
    (r : Induction) :
    (r.claimed t rec rest note).queue = rest ∧ (r.claimed t rec rest note).waitCount = 0 ∧
      (r.claimed t rec rest note).windows = r.windows ++ [⟨t, 2, rec, note⟩] := by
  unfold Induction.claimed
  rw [Induction.judgeQueue_eq]
  dsimp only
  rw [Induction.send_queue, Induction.send_waitCount]
  exact ⟨rfl, rfl, rfl⟩

/-- On an idle line LAUNCH is the frame being sent (log 14). -/
theorem Induction.claimed_sending {r : Induction} (hs : r.sending = none) (hw : r.waiting = []) (t : Nat)
    (rec : ReadRecord) (rest : List ReadRecord) (note : UndoNote) :
    (r.claimed t rec rest note).sending = some (.launch t) := by
  unfold Induction.claimed
  rw [Induction.judgeQueue_eq]
  dsimp only
  rw [Induction.send_of_idle]
  · exact hs
  · exact hw

/-- The bag that a claim puts on the tray (R14), and what it leaves of the induction. -/
theorem claimTray_claims {i : IndId} {t : Nat} {s : State} {rec : ReadRecord} {rest : List ReadRecord}
    (hq : (s.ind i).queue = rec :: rest) (ht : t < s.T) :
    (∃ b, ((claimTray i t s).tray t).bag = some b ∧ b.source = some i ∧ b.size = rec.size ∧
      b.tag = rec.reading.tags.1 ∧ b.passes = 0 ∧ b.launchConfirmed = false) ∧
    ∃ note, (claimTray i t s).ind i = (s.ind i).claimed t rec rest note := by
  unfold claimTray
  rw [hq]
  dsimp only
  generalize hs1 : modInd i (fun x => { x with queue := rest, waitCount := 0 }.judgeQueue) s = s1
  have hT1 : s1.T = s.T := by rw [← hs1]; rfl
  have hind1 : s1.ind i = { s.ind i with queue := rest, waitCount := 0 }.judgeQueue := by
    rw [← hs1, modInd_ind]
  have hloaded : (loadTray t (newBag i rec) s1).tray t = .loaded (newBag i rec) := by
    rw [tray_of_set (loadTray_trays ..), if_pos ⟨rfl, hT1 ▸ ht⟩]
  have hinds : (loadTray t (newBag i rec) s1).inds = s1.inds := (congrArg State.inds (loadTray_frame ..) :)
  generalize loadTray t (newBag i rec) s1 = u at *
  have hbag : (u.tray t).bag = some (newBag i rec) := by rw [hloaded]; rfl
  obtain ⟨b, hb, hsource, hsize, htag, hpasses⟩ := (classify_keepsBag t u).bag _ hbag
  have hlaunch : some b.launchConfirmed = some false := by
    have h := classify_launched t u
    rwa [State.launched, State.launched, hb, hbag] at h
  have hpassed : (passToSelection t (classify t u).state).inds = s1.inds :=
    (passToSelection_keeps t _).1.trans ((congrArg State.inds (classify_frame t u) :).trans hinds)
  refine ⟨⟨b, (passToSelection_bag t t _).trans hb, hsource, hsize, htag, hpasses, Option.some.inj hlaunch⟩,
    (classify t u).note, ?_⟩
  rw [modInd_ind, State.ind, hpassed]
  rw [← State.ind, hind1]
  rfl

/-! ### The reservation request (R45) and the release (R47) -/

/-- R45: the induction that has its reservation requested where its count is full and it has none. -/
def Induction.requesting (r : Induction) : Induction :=
  if r.wInUse ≤ r.waitCount ∧ r.reservation = .none then { r with reservation := .requested } else r

theorem requestReservation_eq (i : IndId) (s : State) :
    requestReservation i s = modInd i Induction.requesting s := by
  unfold requestReservation
  split
  · next h => exact modInd_congr (if_pos h).symm
  · next h => exact (modInd_self (if_neg h)).symm

theorem Induction.requesting_eq (r : Induction) :
    r.requesting = { r with reservation := r.requesting.reservation } := by
  unfold Induction.requesting
  split <;> rfl

/-- R47: the induction whose GRANTED tray has come to its offset unclaimed. -/
def Induction.released (t : Nat) (r : Induction) : Induction :=
  if r.reservation = .granted t then { r with reservation := .none, waitCount := 0 } else r

theorem Induction.released_eq (t : Nat) (r : Induction) : r.released t =
    { r with reservation := (r.released t).reservation, waitCount := (r.released t).waitCount } := by
  unfold Induction.released
  split <;> rfl

theorem releaseGranted_ind (i : IndId) (t : Nat) (s : State) :
    (releaseGranted i t s).ind i = (s.ind i).released t := by
  unfold releaseGranted Induction.released
  split
  · rw [modInd_ind, freeReserved_eq]
    rfl
  · rfl

theorem releaseGranted_tray {i : IndId} {t : Nat} {s : State} (hg : (s.ind i).reservation = .granted t)
    (ht : s.tray t = .reserved i) : (releaseGranted i t s).tray t = .empty := by
  rw [releaseGranted, if_pos hg]
  exact freeReserved_tray ht

/-- R45: the count of a claim check without a claim keeps the queue and the launch windows. -/
theorem countWait_keeps (barred : Bool) (r : Induction) :
    (countWait barred r).queue = r.queue ∧ (countWait barred r).windows = r.windows := by
  unfold countWait
  split
  · exact ⟨rfl, rfl⟩
  · split <;> exact ⟨rfl, rfl⟩

theorem countWait_of_empty {r : Induction} (h : r.queue = []) (barred : Bool) :
    (countWait barred r).waitCount = 0 := by
  simp [countWait, h]

theorem countWait_barred {r : Induction} (h : r.queue ≠ []) : countWait true r = r := by
  simp [countWait, h]

theorem countWait_advances {r : Induction} (h : r.queue ≠ []) :
    countWait false r = { r with waitCount := min 64 (r.waitCount + 1), wInUse := r.w } := by
  simp [countWait, h]

/-! ### The three ways of a claim check -/

section Check
variable {i : IndId} {s : State}

theorem claimable_iff {x : Tray} : claimable i x = true ↔ x = .empty ∨ x = .reserved i := by
  cases x <;> simp [claimable]

theorem claimCheck_claims (ho : (s.ind i).offset ≠ 0) (hq : (s.ind i).queue ≠ []) (hb : s.barred i = false)
    (hx : claimable i (s.tray (s.trayAt (s.ind i).offset)) = true) :
    claimCheck s.loop.hold i s = requestReservation i (claimTray i (s.trayAt (s.ind i).offset) s) :=
  if_pos ⟨ho, hb, hq, hx⟩

theorem claimCheck_waits (hq : (s.ind i).queue ≠ []) (hb : s.barred i = false)
    (hx : claimable i (s.tray (s.trayAt (s.ind i).offset)) = false) :
    claimCheck s.loop.hold i s = requestReservation i (modInd i (countWait false) s) := by
  have hw : s.barredWith s.loop.hold i = false := hb
  have hclaims : ¬ ((s.ind i).offset ≠ 0 ∧ s.barredWith s.loop.hold i = false ∧ (s.ind i).queue ≠ [] ∧
      claimable i (s.tray (s.trayAt (s.ind i).offset)) = true) := by
    rw [hx]
    exact fun h => Bool.false_ne_true h.2.2.2
  have hreleases : ¬ ((s.ind i).offset ≠ 0 ∧ (s.barredWith s.loop.hold i = true ∨ (s.ind i).queue = [])) := by
    simp [hw, hq]
  unfold claimCheck
  dsimp only
  rw [if_neg hclaims, if_neg hreleases, hw]

theorem claimCheck_releases (ho : (s.ind i).offset ≠ 0) (h : s.barred i = true ∨ (s.ind i).queue = []) :
    claimCheck s.loop.hold i s = requestReservation i (modInd i (countWait (s.barred i))
      (releaseGranted i (s.trayAt (s.ind i).offset) s)) := by
  have hclaims : ¬ ((s.ind i).offset ≠ 0 ∧ s.barredWith s.loop.hold i = false ∧ (s.ind i).queue ≠ [] ∧
      claimable i (s.tray (s.trayAt (s.ind i).offset)) = true) := by
    rintro ⟨-, hb, hq, -⟩
    rcases h with h | h
    · rw [show s.barredWith s.loop.hold i = true from h] at hb
      cases hb
    · exact hq h
  unfold claimCheck
  dsimp only
  rw [if_neg hclaims, if_pos ⟨ho, h⟩]
  rfl

end Check

/-! ### The grant (R46) -/

/-- R46: of two requesting inductions the one with the lower offset. -/
def State.lowerOffset (s : State) (best : Option IndId) (i : IndId) : Option IndId :=
  match best with
  | some k => if (s.ind i).offset < (s.ind k).offset then some i else some k
  | none => some i

/-- The induction with the lowest offset of all comes out of the comparison, wherever it stands. -/
theorem foldl_lowerOffset {s : State} {i : IndId} {is : List IndId} {best : Option IndId}
    (hmin : ∀ k, (k ∈ is ∨ best = some k) → k ≠ i → (s.ind i).offset < (s.ind k).offset)
    (hi : i ∈ is ∨ best = some i) : is.foldl s.lowerOffset best = some i := by
  induction is generalizing best with
  | nil => simpa using hi
  | cons j is ih =>
    have hstep : s.lowerOffset best j = some j ∨ s.lowerOffset best j = best := by
      unfold State.lowerOffset
      split
      · split
        · exact .inl rfl
        · exact .inr rfl
      · exact .inl rfl
    refine ih (fun k hk hne => hmin k ?_ hne) ?_
    · rcases hk with hk | hk
      · exact .inl (List.mem_cons_of_mem _ hk)
      · rcases hstep with h | h
        · rw [h] at hk
          exact .inl (Option.some.inj hk ▸ List.mem_cons_self ..)
        · exact .inr (h.symm.trans hk)
    · by_cases hj : j = i
      · subst hj
        right
        unfold State.lowerOffset
        split
        · next k =>
          by_cases hk : k = j
          · rw [hk, ite_self]
          · exact if_pos (hmin k (.inr rfl) hk)
        · rfl
      · rcases hi with hi | hi
        · exact .inl ((List.mem_cons.mp hi).resolve_left fun e => hj e.symm)
        · right
          rw [hi]
          exact if_neg (not_lt.mpr (hmin j (.inl (List.mem_cons_self ..)) hj).le)

theorem grantee_def (s : State) : s.grantee =
    if (s.ind .i3).reservation = .requested then some .i3
    else ([IndId.i0, .i1, .i2].filter fun i => (s.ind i).reservation = .requested).foldl s.lowerOffset none := rfl

/-- R46: I3 first, else the requesting induction with the lowest offset. -/
theorem grantee_eq {s : State} {i : IndId} (h : (s.ind i).reservation = .requested)
    (hfirst : i = .i3 ∨ ((s.ind .i3).reservation ≠ .requested ∧
      ∀ k, k ≠ i → (s.ind k).reservation = .requested → (s.ind i).offset < (s.ind k).offset)) :
    s.grantee = some i := by
  rw [grantee_def]
  rcases hfirst with rfl | ⟨h3, hmin⟩
  · exact if_pos h
  · rw [if_neg h3]
    refine foldl_lowerOffset (fun k hk hne => hmin k hne ?_) (.inl (List.mem_filter.mpr ⟨?_, by simpa using h⟩))
    · rcases hk with hk | hk
      · simpa using (List.mem_filter.mp hk).2
      · cases hk
    · cases i with
      | i3 => exact absurd h h3
      | i0 | i1 | i2 => decide

theorem grantee_none {s : State} (h : ∀ i, (s.ind i).reservation ≠ .requested) : s.grantee = none := by
  rw [grantee_def, if_neg (h _), List.filter_eq_nil_iff.mpr (fun i _ => by simpa using h i)]
  rfl

end Sys2Proof.Machine
end

section
/-! PROOF. The claim check and the grant (O26). -/

namespace Sys2Proof.Machine

/-- Settles O26: the claim, the wait, the release, and the grant. -/
theorem claimsAndGrantsTakeTheirTrays : Obligations.claimsAndGrantsTakeTheirTrays := by
  refine ⟨fun i s ho ht => ⟨fun rec rest hq hb hx => ?_, fun hq hb hempty hres => ?_, fun h => ?_⟩, fun s ht =>
    ⟨fun hempty i hr hfirst => ?_, fun h => ?_⟩⟩
  · rw [claimCheck_claims ho (by simp [hq]) hb (claimable_iff.mpr hx), requestReservation_eq, modInd_ind,
      Induction.requesting_eq]
    obtain ⟨⟨b, hbag, hsource, hsize, htag, hpasses, hlaunch⟩, note, hind⟩ := claimTray_claims hq ht
    rw [hind]
    obtain ⟨hqueue, hwait, hwindows⟩ := Induction.claimed_eq (s.trayAt (s.ind i).offset) rec rest note (s.ind i)
    exact ⟨b, hbag, hsource, hsize, htag, hpasses, hlaunch, hqueue, hwait, ⟨note, hwindows⟩,
      fun hs hw => Induction.claimed_sending hs hw _ rec rest note⟩
  · have hx : claimable i (s.tray (s.trayAt (s.ind i).offset)) = false := by
      rw [Bool.eq_false_iff, Ne, claimable_iff, not_or]
      exact ⟨hempty, hres⟩
    rw [claimCheck_waits hq hb hx, requestReservation_eq, modInd_modInd]
    refine modInd_congr (g := fun _ => _) ?_
    rw [countWait_advances hq, Induction.requesting]
    split <;> rfl
  · rw [claimCheck_releases ho h, requestReservation_eq, modInd_modInd, modInd_ind, Induction.requesting_eq,
      releaseGranted_ind]
    dsimp only
    obtain ⟨hqueue, hwindows⟩ := countWait_keeps (s.barred i) ((s.ind i).released (s.trayAt (s.ind i).offset))
    have hrel := Induction.released_eq (s.trayAt (s.ind i).offset) (s.ind i)
    have hcount : (s.ind i).queue ≠ [] → (countWait (s.barred i)
        ((s.ind i).released (s.trayAt (s.ind i).offset))).waitCount =
          ((s.ind i).released (s.trayAt (s.ind i).offset)).waitCount := fun hne => by
      rw [h.resolve_right hne, countWait_barred (by rw [hrel]; exact hne)]
    have hzero : (s.ind i).queue = [] → (countWait (s.barred i)
        ((s.ind i).released (s.trayAt (s.ind i).offset))).waitCount = 0 := fun he =>
      countWait_of_empty (by rw [hrel]; exact he) _
    refine ⟨hqueue.trans (by rw [hrel]), hwindows.trans (by rw [hrel]), hzero, fun hne hg => ?_, fun hg =>
      ⟨?_, fun hx => releaseGranted_tray hg hx⟩⟩
    · rw [hcount hne, Induction.released, if_neg hg]
    · by_cases he : (s.ind i).queue = []
      · exact hzero he
      · rw [hcount he, Induction.released, if_pos hg]
  · rw [grantReservation, if_pos hempty, grantee_eq hr hfirst]
    rfl
  · unfold grantReservation
    split
    · next hempty => rw [grantee_none (h.resolve_left (not_not.mpr hempty))]
    · rfl

end Sys2Proof.Machine
end

section
/-! SUPPORT. A failed launch taken back: the tray and its chute (R43 step 1), the entry and the stray entry of the
undo note (R167), the read record (R43 step 2). -/

namespace Sys2Proof.Machine

/-! ### The tray and its chute (R43, R116, R117) -/

section Fill
variable {β : Type} (m : Chute → β)
  (hm : ∀ (x : Chute) (g : Option Group) (r : Bool) (o : Option ChuteId) (st : ChuteState),
    m { x with group := g, released := r, tookOver := o, state := st } = m x)
include hm

/-- A takeover writes no field of a chute record but its group, its mark, its source and its state (R123). -/
theorem takeOver_chute_keeps (k c j : ChuteId) (s : State) :
    m ((takeOver k c s).chute j) = m (s.chute j) := by
  have h : (takeOver k c s).chute j = if j = k then
      { s.chute k with group := (s.chute c).group, released := false, tookOver := some c, state := .isOpen }
      else s.chute j := modChute_chute ..
  rw [h]
  split
  · next hj => rw [hj, hm]
  · rfl

theorem coverFull_chute_keeps (c j : ChuteId) (s : State) : m ((coverFull c s).chute j) = m (s.chute j) := by
  unfold coverFull
  split
  · exact foldl_keeps (fun u => m (u.chute j)) _ (fun u k => takeOver_chute_keeps m hm k c j u) _ s
  · rfl

/-- Judging a chute's fill state writes no other field than a takeover does (R118, R123). -/
theorem judgeFill_chute_keeps (c j : ChuteId) (s : State) : m ((judgeFill c s).chute j) = m (s.chute j) := by
  have hstate : ∀ st, m ((modChute c (fun x => { x with state := st }) s).chute j) = m (s.chute j) := fun st => by
    rw [modChute_chute]
    split
    · next hj => rw [hj]; exact hm (s.chute c) (s.chute c).group (s.chute c).released (s.chute c).tookOver st
    · rfl
  unfold judgeFill
  dsimp only
  split
  · split
    · exact (coverFull_chute_keeps m hm c j _).trans (hstate _)
    · rw [State.chute, raiseIf_chutes]
      exact hstate _
  · rfl

end Fill

/-- R117: units returned from fill leave the committed units and the confirm windows. -/
theorem returnFill_keeps (c : ChuteId) (g : BitVec 8) (n : Nat) (s : State) :
    ((returnFill c g n s).chute c).committed = (s.chute c).committed ∧
      ((returnFill c g n s).chute c).windows = (s.chute c).windows := by
  unfold returnFill
  split
  · rw [judgeFill_chute_keeps Chute.committed fun _ _ _ _ _ => rfl,
      judgeFill_chute_keeps Chute.windows fun _ _ _ _ _ => rfl, modChute_chute, if_pos rfl]
    exact ⟨rfl, rfl⟩
  · exact ⟨rfl, rfl⟩

theorem returnFill_loop (c : ChuteId) (g : BitVec 8) (n : Nat) (s : State) :
    (returnFill c g n s).loop = s.loop := (congrArg State.loop (returnFill_frame c g n s) :)

theorem emptyTray_chutes (t : Nat) (s : State) : (emptyTray t s).chutes = s.chutes :=
  (congrArg State.chutes (emptyTray_frame t s) :)

theorem emptyTray_fireQueue (t : Nat) (s : State) : (emptyTray t s).fireQueue = s.fireQueue :=
  (congrArg State.fireQueue (emptyTray_frame t s) :)

/-- Over what a failed launch can reach by its tray: the trays, the slots, the chutes and what is judged after
them, the fire queue and the notices. -/
def State.sansFailure (s : State) : State :=
  { s with
    loop := { s.loop with trays := [], hold := false }, slots := State.reset.slots
    chutes := State.reset.chutes, blocked := [], strayArmed := true, fireQueue := []
    notices := State.reset.notices }

theorem emptyTray_sansFailure (t : Nat) (s : State) : (emptyTray t s).sansFailure = s.sansFailure :=
  (congrArg State.sansFailure (emptyTray_frame t s) :)

theorem removeFire_sansFailure (t : Nat) (s : State) : (removeFire t s).sansFailure = s.sansFailure := rfl

theorem sansFailure_of_sansChutes {s u : State} (h : u.sansChutes = s.sansChutes) :
    u.sansFailure = s.sansFailure := (congrArg State.sansFailure h :)

section Taken
variable {t : Nat} {s u : State}

/-- R43: a failure is taken by a tray with a bag record. -/
theorem takeFailure_isSome (h : (s.tray t).bag.isSome = true) : ∃ u, takeFailure t s = some u := by
  unfold takeFailure
  split
  case h_6 hx | h_7 hx | h_8 hx =>
    rw [hx] at h
    cases h
  all_goals exact ⟨_, rfl⟩

theorem takeFailure_none (h : (s.tray t).bag = none) : takeFailure t s = none := by
  unfold takeFailure
  split
  case h_6 | h_7 | h_8 => rfl
  all_goals
    next hx =>
      rw [hx] at h
      cases h

theorem takeFailure_frame (h : takeFailure t s = some u) : u.sansFailure = s.sansFailure := by
  unfold takeFailure at h
  split at h
  case h_1 => exact Option.some.inj h ▸ emptyTray_sansFailure t s
  case h_2 =>
    exact Option.some.inj h ▸ (emptyTray_sansFailure ..).trans (sansFailure_of_sansChutes (returnCommitted_frame ..))
  case h_3 =>
    exact Option.some.inj h ▸ (emptyTray_sansFailure ..).trans
      ((sansFailure_of_sansChutes (returnCommitted_frame ..)).trans (removeFire_sansFailure t s))
  case h_4 =>
    exact Option.some.inj h ▸ (emptyTray_sansFailure ..).trans
      (sansFailure_of_sansChutes ((removeWindow_frame ..).trans (returnFill_frame ..)))
  case h_5 =>
    exact Option.some.inj h ▸ (emptyTray_sansFailure ..).trans (sansFailure_of_sansChutes (returnFill_frame ..))
  all_goals cases h

/-- R43: the tray becomes EMPTY, and the other trays stand. -/
theorem takeFailure_trays (h : takeFailure t s = some u) : u.loop.trays = s.loop.trays.set t .empty := by
  unfold takeFailure at h
  split at h
  case h_1 => exact Option.some.inj h ▸ emptyTray_trays t s
  case h_2 =>
    rw [← Option.some.inj h, emptyTray_trays, returnCommitted_loop]
  case h_3 =>
    rw [← Option.some.inj h, emptyTray_trays, returnCommitted_loop]
    rfl
  case h_4 =>
    rw [← Option.some.inj h, emptyTray_trays, removeWindow, putChute_loop, returnFill_loop]
  case h_5 =>
    rw [← Option.some.inj h, emptyTray_trays, returnFill_loop]
  all_goals cases h

theorem takeFailure_loaded {b : BagRecord} (hx : s.tray t = .loaded b) (h : takeFailure t s = some u) :
    u.chutes = s.chutes ∧ u.fireQueue = s.fireQueue := by
  rw [takeFailure, hx] at h
  rw [← Option.some.inj h]
  exact ⟨emptyTray_chutes t s, emptyTray_fireQueue t s⟩

/-- R116: a SELECTED or ARMED tray gives back its committed units. -/
theorem takeFailure_committed {b : BagRecord} {c : ChuteId}
    (hx : (∃ a d, s.tray t = .selected b c a d) ∨ s.tray t = .armed b c) (h : takeFailure t s = some u) :
    u.chutes = s.chutes.set c { s.chute c with committed := (s.chute c).committed - unitsOf b.size } := by
  rcases hx with ⟨a, d, hx⟩ | hx
  all_goals
    rw [takeFailure, hx] at h
    rw [← Option.some.inj h, emptyTray_chutes]
    exact modChute_chutes ..

/-- R43: the fire record of an ARMED tray is removed. -/
theorem takeFailure_armed {b : BagRecord} {c : ChuteId} (hx : s.tray t = .armed b c)
    (h : takeFailure t s = some u) : u.fireQueue = s.fireQueue.filter fun r => r.tray ≠ t := by
  rw [takeFailure, hx] at h
  rw [← Option.some.inj h, emptyTray_fireQueue]
  refine (congrArg State.fireQueue (returnCommitted_frame c (unitsOf b.size) (removeFire t s)) :).trans ?_
  exact List.filter_congr fun r _ => Bool.eq_iff_iff.mpr (by simp)

/-- R43, R117: a FIRED or UNCONFIRMED tray gives back its fill units, in its own generation; a FIRED one drops
its confirm window. -/
theorem takeFailure_chute_fired {b : BagRecord} {c : ChuteId} {g : BitVec 8} (hx : s.tray t = .fired b c g)
    (h : takeFailure t s = some u) :
    u.chute c = { (returnFill c g (unitsOf b.size) s).chute c with
      windows := dropOwnWindow t (s.chute c).windows } := by
  rw [takeFailure, hx] at h
  rw [← Option.some.inj h, State.chute, emptyTray_chutes, ← State.chute, removeWindow, putChute_chute,
    (returnFill_keeps c g _ s).2]

theorem takeFailure_chute_unconfirmed {b : BagRecord} {c : ChuteId} {g : BitVec 8}
    (hx : s.tray t = .unconfirmed b c g) (h : takeFailure t s = some u) :
    u.chute c = (returnFill c g (unitsOf b.size) s).chute c := by
  rw [takeFailure, hx] at h
  rw [← Option.some.inj h, State.chute, emptyTray_chutes, ← State.chute]

theorem takeFailure_fill {b : BagRecord} {c : ChuteId} {g : BitVec 8}
    (hx : s.tray t = .fired b c g ∨ s.tray t = .unconfirmed b c g) (h : takeFailure t s = some u) :
    (u.chute c).fill =
        (if (s.chute c).gen = g then (s.chute c).fill - unitsOf b.size else (s.chute c).fill) ∧
      (u.chute c).committed = (s.chute c).committed := by
  have hfill := (returnFill_chute c g (unitsOf b.size) s).fill
  have hcommitted := (returnFill_keeps c g (unitsOf b.size) s).1
  rcases hx with hx | hx
  · rw [takeFailure_chute_fired hx h]
    exact ⟨hfill, hcommitted⟩
  · rw [takeFailure_chute_unconfirmed hx h]
    exact ⟨hfill, hcommitted⟩

end Taken

/-! ### The undo note (R43 step 1, R108, R167) -/

theorem Tray.mapBag_id (x : Tray) : x.mapBag id = x := by cases x <;> rfl

theorem Tray.code_mapBag (f : BagRecord → BagRecord) (x : Tray) : (x.mapBag f).code = x.code := by
  cases x <;> rfl

/-- R166: the removal of a stray entry drops its id from every bag record. -/
theorem removeStray_tray (id : BitVec 16) (s : State) (k : Nat) :
    (removeStray id s).tray k =
      (s.tray k).mapBag fun b => if b.strayId = some id then { b with strayId := none } else b := by
  rw [State.tray, State.tray, List.getD_eq_getElem?_getD, List.getD_eq_getElem?_getD, removeStray,
    List.getElem?_map]
  cases s.loop.trays[k]? <;> rfl

theorem undoStray_eq (n : UndoStray) (s : State) : undoStray n s = { s with
    loop := { s.loop with trays := (undoStray n s).loop.trays }, pool := (undoStray n s).pool
    strays := (undoStray n s).strays } := by
  unfold undoStray
  split
  · split
    · split
      · rfl
      · split <;> rfl
    · rfl
  · split
    · split <;> rfl
    · rfl

/-- What undoing at the Stray List does to the bag records: at most their stray ids are dropped (R166). -/
theorem undoStray_tray (n : UndoStray) (s : State) :
    ∃ f : BagRecord → BagRecord, (∀ b, f b = { b with strayId := (f b).strayId }) ∧
      ∀ k, (undoStray n s).tray k = (s.tray k).mapBag f := by
  have hsame : ∀ u : State, u.loop = s.loop → ∃ f : BagRecord → BagRecord,
      (∀ b, f b = { b with strayId := (f b).strayId }) ∧ ∀ k, u.tray k = (s.tray k).mapBag f := fun u hu =>
    ⟨id, fun _ => rfl, fun k => by rw [Tray.mapBag_id, State.tray, hu]; rfl⟩
  unfold undoStray
  split
  · next id =>
    split
    · split
      · refine ⟨_, fun b => ?_, removeStray_tray id s⟩
        split <;> rfl
      · split
        · exact hsame _ rfl
        · exact hsame _ rfl
    · exact hsame _ rfl
  · split
    · split
      · exact hsame _ rfl
      · exact hsame _ rfl
    · exact hsame _ rfl

/-- Undoing at the Stray List changes no entry's status. -/
theorem undoStray_entry_status (n : UndoStray) (tag : Tag) (s : State) :
    ((undoStray n s).entry tag).map (·.status) = (s.entry tag).map (·.status) := by
  unfold undoStray
  split
  · split
    · split
      · exact removeStray_entry_status ..
      · split <;> rfl
    · rfl
  · split
    · split <;> rfl
    · rfl

/-- R167: an appended entry is removed while it stands as the launch left it, and counted back once it has been
strayed again. -/
theorem undoStray_appended {id : BitVec 16} {e : StrayEntry} {s : State} (h : s.strayOfId id = some e) :
    (undoStray (.appended id) s).strays =
      if e.state = .routing ∧ e.times = 1 then s.strays.filter fun x => x.id ≠ id
      else if 1 < e.times ∧ e.times < 255 then
        s.strays.map fun x => if x.id = id then { x with times := x.times - 1 } else x
      else s.strays := by
  simp only [undoStray, h]
  split
  · exact List.filter_congr fun x _ => Bool.eq_iff_iff.mpr (by simp)
  · split <;> rfl

/-- R167: a moved entry is moved back while it stands as the launch left it. -/
theorem undoStray_moved {id : BitVec 16} {state leftState : StrayState} {cause : StrayCause} {mark : Bool}
    {times leftTimes : Nat} {e : StrayEntry} {s : State} (h : s.strayOfId id = some e) :
    (undoStray (.moved id state cause mark times leftState leftTimes) s).strays =
      if e.state = leftState ∧ e.times = leftTimes then
        s.strays.map fun x => if x.id = id then
          { x with state := state, cause := cause, untracked := mark, times := times } else x
      else s.strays := by
  simp only [undoStray, h]
  split <;> rfl

/-- R43 step 1: the entry that the launch made ON_LOOP, where the bag links it still. -/
def restoreLinked (linked : Option Tag) (n : UndoNote) (s : State) : State :=
  match n.entry with
  | some u => if linked = some u.tag then restoreEntry u s else s
  | none => s

theorem undoNote_def (linked : Option Tag) (n : UndoNote) (s : State) : undoNote linked n s =
    match n.stray with
    | some u => undoStray u (restoreLinked linked n s)
    | none => restoreLinked linked n s := rfl

theorem restoreLinked_eq (linked : Option Tag) (n : UndoNote) (s : State) :
    restoreLinked linked n s = { s with pool := (restoreLinked linked n s).pool } := by
  unfold restoreLinked
  split
  · split <;> rfl
  · rfl

theorem restoreLinked_restores {linked : Option Tag} {n : UndoNote} {s : State} {u : UndoEntry} {e : BagEntry}
    (hn : n.entry = some u) (hl : linked = some u.tag) (he : s.entry u.tag = some e)
    (hon : e.status.isOnLoop = true) :
    ((restoreLinked linked n s).entry u.tag).map (·.status) = some u.status := by
  rw [restoreLinked, hn]
  dsimp only
  rw [if_pos hl, restoreEntry, modEntry_entry_self, he]
  cases hs : e.status with
  | onLoop changed => simp [hs]
  | _ => rw [hs] at hon; cases hon

theorem restoreLinked_others {linked : Option Tag} {n : UndoNote} {tag : Tag}
    (h : ∀ u, n.entry = some u → u.tag = tag → linked ≠ some tag) (s : State) :
    (restoreLinked linked n s).entry tag = s.entry tag := by
  unfold restoreLinked
  split
  · next u hu =>
    split
    · next hl =>
      refine modEntry_entry_ne (fun ht => ?_) _ s
      exact h u hu ht.symm (hl.trans (congrArg some ht.symm))
    · rfl
  · rfl

section Note
variable (linked : Option Tag) (n : UndoNote) (s : State)

theorem undoNote_eq : undoNote linked n s = { s with
    loop := { s.loop with trays := (undoNote linked n s).loop.trays }, pool := (undoNote linked n s).pool
    strays := (undoNote linked n s).strays } := by
  have hr := restoreLinked_eq linked n s
  rw [undoNote_def]
  split
  · next u _ =>
    have hu := undoStray_eq u (restoreLinked linked n s)
    generalize undoStray u (restoreLinked linked n s) = v at *
    rw [hu, hr]
  · rw [hr]

theorem undoNote_tray : ∃ f : BagRecord → BagRecord, (∀ b, f b = { b with strayId := (f b).strayId }) ∧
    ∀ k, (undoNote linked n s).tray k = (s.tray k).mapBag f := by
  have hr : (restoreLinked linked n s).loop = s.loop := (congrArg State.loop (restoreLinked_eq linked n s) :)
  rw [undoNote_def]
  split
  · next u _ =>
    obtain ⟨f, hf, htray⟩ := undoStray_tray u (restoreLinked linked n s)
    refine ⟨f, hf, fun k => ?_⟩
    rw [htray, State.tray, hr]
    rfl
  · exact ⟨id, fun _ => rfl, fun k => by rw [Tray.mapBag_id, State.tray, hr]; rfl⟩

theorem undoNote_entry_status (tag : Tag) :
    ((undoNote linked n s).entry tag).map (·.status) = ((restoreLinked linked n s).entry tag).map (·.status) := by
  rw [undoNote_def]
  split
  · exact undoStray_entry_status ..
  · rfl

variable {n}

theorem undoNote_strays_none (h : n.stray = none) : (undoNote linked n s).strays = s.strays := by
  rw [undoNote_def, h]
  exact (congrArg State.strays (restoreLinked_eq linked n s) :)

theorem undoNote_strays_some {u : UndoStray} (h : n.stray = some u) :
    undoNote linked n s = undoStray u (restoreLinked linked n s) := by
  rw [undoNote_def, h]

theorem restoreLinked_strays : (restoreLinked linked n s).strays = s.strays :=
  (congrArg State.strays (restoreLinked_eq linked n s) :)

variable {s} {id : BitVec 16} {e : StrayEntry}

theorem restoreLinked_strayOfId (h : s.strayOfId id = some e) :
    (restoreLinked linked n s).strayOfId id = some e := by
  rwa [State.strayOfId, restoreLinked_strays]

theorem undoNote_appended (hn : n.stray = some (.appended id)) (h : s.strayOfId id = some e) :
    (undoNote linked n s).strays =
      if e.state = .routing ∧ e.times = 1 then s.strays.filter fun x => x.id ≠ id
      else if 1 < e.times ∧ e.times < 255 then
        s.strays.map fun x => if x.id = id then { x with times := x.times - 1 } else x
      else s.strays := by
  rw [undoNote_strays_some linked s hn, undoStray_appended (restoreLinked_strayOfId linked h), restoreLinked_strays]

theorem undoNote_moved {state leftState : StrayState} {cause : StrayCause} {mark : Bool} {times leftTimes : Nat}
    (hn : n.stray = some (.moved id state cause mark times leftState leftTimes))
    (h : s.strayOfId id = some e) :
    (undoNote linked n s).strays =
      if e.state = leftState ∧ e.times = leftTimes then
        s.strays.map fun x => if x.id = id then
          { x with state := state, cause := cause, untracked := mark, times := times } else x
      else s.strays := by
  rw [undoNote_strays_some linked s hn, undoStray_moved (restoreLinked_strayOfId linked h), restoreLinked_strays]

end Note

/-! ### The read record (R43 step 2) -/

section Read
variable {i : IndId} {s : State}

theorem returnRead_eq (i : IndId) (rec : ReadRecord) (s : State) : returnRead i rec s =
    { s with inds := (returnRead i rec s).inds, notices := (returnRead i rec s).notices } := by
  unfold returnRead
  dsimp only
  split
  · rfl
  · split <;> rfl

theorem returnRead_resync (h : (s.ind i).resync = true) (rec : ReadRecord) : returnRead i rec s = s :=
  if_pos (.inl h)

theorem returnRead_joins (he : (s.ind i).enabled = true) (h : (s.ind i).resync = false)
    (hlen : (s.ind i).queue.length ≤ 3) (rec : ReadRecord) :
    ((returnRead i rec s).ind i).queue = rec :: (s.ind i).queue ∧
      ((returnRead i rec s).ind i).waitCount = 0 := by
  have hkept : ¬ ((s.ind i).resync = true ∨ (s.ind i).enabled = false) := by simp [he, h]
  unfold returnRead
  dsimp only
  rw [if_neg hkept, if_neg (by omega), modInd_ind, Induction.judgeQueue_eq]
  exact ⟨rfl, rfl⟩

theorem returnRead_overrun (he : (s.ind i).enabled = true) (h : (s.ind i).resync = false)
    (hlen : 4 ≤ (s.ind i).queue.length) (rec : ReadRecord) : returnRead i rec s = overrun i s := by
  have hkept : ¬ ((s.ind i).resync = true ∨ (s.ind i).enabled = false) := by simp [he, h]
  unfold returnRead
  dsimp only
  rw [if_neg hkept, if_pos hlen]

/-- A read record returned leaves the receiver and the launch windows. -/
theorem returnRead_keeps (i : IndId) (rec : ReadRecord) (s : State) :
    ((returnRead i rec s).ind i).receiver = (s.ind i).receiver ∧
      ((returnRead i rec s).ind i).windows = (s.ind i).windows := by
  unfold returnRead
  dsimp only
  split
  · exact ⟨rfl, rfl⟩
  · split
    · rw [overrun_ind]
      exact ⟨rfl, rfl⟩
    · rw [modInd_ind, Induction.judgeQueue_eq]
      exact ⟨rfl, rfl⟩

end Read

end Sys2Proof.Machine
end

section
/-! PROOF. FAIL for an open window takes the launch back (O32). -/

namespace Sys2Proof.Machine

/-- R43: the window of the tray closes, with the receiver back in IDLE. -/
def Induction.answered (t : Nat) (r : Induction) : Induction :=
  { r with receiver := .idle, windows := r.windows.eraseP fun w => w.tray = t }

/-- R43: FAIL for an open window closes it and takes the launch back; the holds are settled after it. -/
theorem exec_failFrame {i : IndId} {tray : BitVec 16} {w : LaunchWindow} {s : State}
    (he : (s.ind i).enabled = true) (hf : s.framing i .fail (trayChars tray) = true)
    (hw : (s.ind i).windows.find? (fun v => v.tray = tray.toNat) = some w) :
    exec (.failFrame i tray) s = .next (settleHolds (setReceiver i .idle s)
      (failLaunch i w (modInd i (Induction.answered tray.toNat) s))) := by
  have hw' : ((setReceiver i .idle s).ind i).windows.find? (fun v => v.tray = tray.toNat) = some w := by
    rwa [setReceiver_ind]
  rw [exec, execFailFrame, completeFrame_open hf he, takeAnswer, hw']
  dsimp only
  rw [setReceiver, modInd_modInd]
  rfl

theorem eq_of_sansTraffic {s t : State} (h : t.sansTraffic = s.sansTraffic) (hu : t.unlisted = s.unlisted)
    (hn : t.nextStrayId = s.nextStrayId) : t = { s with
      loop := t.loop, inds := t.inds, pool := t.pool, slots := t.slots, chutes := t.chutes
      blocked := t.blocked, strayArmed := t.strayArmed, fireQueue := t.fireQueue
      strays := t.strays, notices := t.notices } := by
  cases s; cases t; simp_all [State.sansTraffic]

section Taken
variable {i : IndId} {w : LaunchWindow} {v f : State} {was : State}

/-- The state that a failed launch leaves where its tray takes the failure. -/
theorem failLaunch_some (h : takeFailure w.tray v = some f) : failLaunch i w v =
    returnRead i w.record (undoNote ((v.tray w.tray).bag.bind (·.entryLink)) w.note f) := by
  rw [failLaunch, h]

theorem failLaunch_none (h : takeFailure w.tray v = none) : failLaunch i w v = v := by
  rw [failLaunch, h]

/-- After the undo note only the inductions and the notices are reached. -/
theorem returned_eq (was x : State) (i : IndId) (rec : ReadRecord) :
    settleHolds was (returnRead i rec x) = { x with
      inds := (settleHolds was (returnRead i rec x)).inds
      notices := (settleHolds was (returnRead i rec x)).notices } := by
  have hn : (settleHolds was (returnRead i rec x)).notices = (returnRead i rec x).notices :=
    (congrArg State.notices (settleHolds_eq was (returnRead i rec x)) :)
  rw [hn]
  exact (settleHolds_eq ..).trans
    (congrArg (fun u : State => { u with inds := (settleHolds was (returnRead i rec x)).inds })
      (returnRead_eq i rec x) :)

/-- R43 step 2 with the holds settled: what it leaves of the induction. -/
theorem returned_ind {x : State} (was : State) (rec : ReadRecord) (he : (x.ind i).enabled = true) :
    ((settleHolds was (returnRead i rec x)).ind i).receiver = (x.ind i).receiver ∧
    ((settleHolds was (returnRead i rec x)).ind i).windows = (x.ind i).windows ∧
    ((x.ind i).resync = true →
      ((settleHolds was (returnRead i rec x)).ind i).queue = (x.ind i).queue) ∧
    ((x.ind i).resync = false → (x.ind i).queue.length ≤ 3 →
      ((settleHolds was (returnRead i rec x)).ind i).queue = rec :: (x.ind i).queue ∧
        ((settleHolds was (returnRead i rec x)).ind i).waitCount = 0) ∧
    ((x.ind i).resync = false → 4 ≤ (x.ind i).queue.length →
      ((settleHolds was (returnRead i rec x)).ind i).queue = [] ∧
        ((settleHolds was (returnRead i rec x)).ind i).resync = true ∧
        (settleHolds was (returnRead i rec x)).flagged .shore .inductionOverrun = true) := by
  rw [settleHolds_ind, settleHolds_flagged]
  simp only [Induction.settled_receiver, Induction.settled_windows, Induction.settled_queue,
    Induction.settled_waitCount, Induction.settled_resync]
  obtain ⟨hreceiver, hwindows⟩ := returnRead_keeps i rec x
  refine ⟨hreceiver, hwindows, fun h => by rw [returnRead_resync h], fun h hlen => returnRead_joins he h hlen rec,
    fun h hlen => ?_⟩
  rw [returnRead_overrun he h hlen, overrun_ind]
  exact ⟨rfl, rfl, overrun_flagged i x⟩

end Taken

theorem undone_ind {k : Nat} {v f : State} (h : takeFailure k v = some f) (linked : Option Tag) (note : UndoNote)
    (i : IndId) : (undoNote linked note f).ind i = v.ind i :=
  (congrArg (fun x : State => x.ind i) (undoNote_eq linked note f) :).trans
    (congrArg (fun x : State => x.ind i) (takeFailure_frame h) :)

/-! What a failed launch leaves where its tray took the failure: the undo note is applied, and only the inductions
and the notices are reached after it. -/

section Back
variable {k : Nat} {v f t : State} {linked : Option Tag} {note : UndoNote} {id : BitVec 16} {e : StrayEntry}
  (ht : t = { undoNote linked note f with inds := t.inds, notices := t.notices })
include ht

theorem back_tray (j : Nat) : t.tray j = (undoNote linked note f).tray j := by rw [ht]; rfl

theorem back_entry_status (tag : Tag) :
    (t.entry tag).map (·.status) = ((restoreLinked linked note f).entry tag).map (·.status) := by
  rw [← undoNote_entry_status, ht]
  rfl

theorem back_strays : t.strays = (undoNote linked note f).strays := by rw [ht]

theorem back_chutes : t.chutes = f.chutes := by
  rw [ht]
  exact (congrArg State.chutes (undoNote_eq linked note f) :)

theorem back_chute (c : ChuteId) : t.chute c = f.chute c := by
  rw [State.chute, back_chutes ht]
  rfl

theorem back_fireQueue : t.fireQueue = f.fireQueue := by
  rw [ht]
  exact (congrArg State.fireQueue (undoNote_eq linked note f) :)

variable (h : takeFailure k v = some f)
include h

theorem back_frame : t.unlisted = v.unlisted ∧ t.nextStrayId = v.nextStrayId := by
  have hx := undoNote_eq linked note f
  have hf := takeFailure_frame h
  rw [ht]
  exact ⟨(congrArg State.unlisted hx :).trans (congrArg State.unlisted hf :),
    (congrArg State.nextStrayId hx :).trans (congrArg State.nextStrayId hf :)⟩

/-- The trays of a failed launch: its own EMPTY, the bags of the others the same but for stray ids dropped. -/
theorem back_trays (hk : k < v.T) :
    t.tray k = .empty ∧
      ∀ j, j ≠ k → (∀ b, (t.tray j).bag = some b →
        ∃ b0, (v.tray j).bag = some b0 ∧ b = { b0 with strayId := b.strayId }) ∧
        (t.tray j).code = (v.tray j).code := by
  obtain ⟨g, hg, htray⟩ := undoNote_tray linked note f
  have hf := tray_of_set (takeFailure_trays h)
  refine ⟨?_, fun j hj => ?_⟩
  · rw [back_tray ht, htray, hf, if_pos ⟨rfl, hk⟩]
    rfl
  · rw [back_tray ht, htray, hf, if_neg fun he => hj he.1, Tray.code_mapBag, Tray.bag_mapBag]
    refine ⟨fun b hb => ?_, rfl⟩
    obtain ⟨b0, hb0, rfl⟩ := Option.map_eq_some_iff.mp hb
    exact ⟨b0, hb0, hg b0⟩

/-- R58: the entry that the bag links still gets its status back. -/
theorem back_entry_restored {u : UndoEntry} {e : BagEntry} (hn : note.entry = some u) (hl : linked = some u.tag)
    (he : v.entry u.tag = some e) (hon : e.status.isOnLoop = true) :
    (t.entry u.tag).map (·.status) = some u.status := by
  have hf : f.entry u.tag = v.entry u.tag := (congrArg (fun x : State => x.entry u.tag) (takeFailure_frame h) :)
  rw [back_entry_status ht]
  exact restoreLinked_restores hn hl (hf.trans he) hon

theorem back_entry_others {tag : Tag} (hn : ∀ u, note.entry = some u → u.tag = tag → linked ≠ some tag) :
    (t.entry tag).map (·.status) = (v.entry tag).map (·.status) := by
  have hf : f.entry tag = v.entry tag := (congrArg (fun x : State => x.entry tag) (takeFailure_frame h) :)
  rw [back_entry_status ht, restoreLinked_others hn, hf]

theorem back_strays_none (hn : note.stray = none) : t.strays = v.strays := by
  rw [back_strays ht, undoNote_strays_none _ _ hn]
  exact (congrArg State.strays (takeFailure_frame h) :)

theorem back_strays_appended (hn : note.stray = some (.appended id)) (he : v.strayOfId id = some e) :
    t.strays =
      if e.state = .routing ∧ e.times = 1 then v.strays.filter fun x => x.id ≠ id
      else if 1 < e.times ∧ e.times < 255 then
        v.strays.map fun x => if x.id = id then { x with times := x.times - 1 } else x
      else v.strays := by
  have hf : f.strays = v.strays := (congrArg State.strays (takeFailure_frame h) :)
  rw [back_strays ht, undoNote_appended _ hn (by rwa [State.strayOfId, hf]), hf]

theorem back_strays_moved {state leftState : StrayState} {cause : StrayCause} {mark : Bool}
    {times leftTimes : Nat} (hn : note.stray = some (.moved id state cause mark times leftState leftTimes))
    (he : v.strayOfId id = some e) :
    t.strays =
      if e.state = leftState ∧ e.times = leftTimes then
        v.strays.map fun x => if x.id = id then
          { x with state := state, cause := cause, untracked := mark, times := times } else x
      else v.strays := by
  have hf : f.strays = v.strays := (congrArg State.strays (takeFailure_frame h) :)
  rw [back_strays ht, undoNote_moved _ hn (by rwa [State.strayOfId, hf]), hf]

end Back

/-- R43: FAIL that names a tray which can take no failure only closes the window. -/
theorem failFrame_untaken {i : IndId} {w : LaunchWindow} {s : State} (h : (s.tray w.tray).bag = none) :
    settleHolds (setReceiver i .idle s) (failLaunch i w (modInd i (Induction.answered w.tray) s)) =
      modInd i (Induction.answered w.tray) s := by
  have hv : ((modInd i (Induction.answered w.tray) s).tray w.tray).bag = none := h
  rw [failLaunch_none (takeFailure_none hv)]
  refine settleHolds_of_held fun k => ?_
  rw [setReceiver_held]
  exact (modInd_held rfl rfl rfl k).symm

/-- Settles O32: the failure at the tray, the undo note, the read record, the holds. -/
theorem failedLaunchIsTakenBack : Obligations.failedLaunchIsTakenBack := by
  intro i tray w s he hf hw
  have hwt : w.tray = tray.toNat := by simpa using List.find?_some hw
  have hmoves := (failLaunch_moves i w (modInd i (Induction.answered tray.toNat) s)).trans
    (settleHolds_moves (setReceiver i .idle s) _)
  have hvi : (modInd i (Induction.answered tray.toNat) s).ind i = (s.ind i).answered tray.toNat := modInd_ind ..
  refine ⟨_, exec_failFrame he hf hw, ?_⟩
  rw [← hwt] at hmoves hvi ⊢
  cases hbag : (s.tray w.tray).bag with
  | none =>
    have hbare : ∀ b, (s.tray w.tray).bag ≠ some b := by simp [hbag]
    rw [failFrame_untaken hbag]
    refine ⟨rfl, by rw [hvi]; rfl, by rw [hvi]; rfl, fun _ => rfl, by simp, fun b hx => ?_, fun b c hx => ?_,
      fun b c hx => ?_, fun b c g hx => ?_, fun b c g pre u post hx => ?_⟩
    · exact absurd (congrArg Tray.bag hx) (hbare b)
    · rcases hx with ⟨a, d, hx⟩ | hx
      · exact absurd (congrArg Tray.bag hx) (hbare b)
      · exact absurd (congrArg Tray.bag hx) (hbare b)
    · exact absurd (congrArg Tray.bag hx) (hbare b)
    · rcases hx with hx | hx
      · exact absurd (congrArg Tray.bag hx) (hbare b)
      · exact absurd (congrArg Tray.bag hx) (hbare b)
    · exact absurd (congrArg Tray.bag hx) (hbare b)
  | some b =>
    generalize hv : modInd i (Induction.answered w.tray) s = v at *
    obtain ⟨f, hfail⟩ := takeFailure_isSome (t := w.tray) (s := v) (by
      rw [← hv]
      exact Option.isSome_of_eq_some hbag)
    have hlink : (v.tray w.tray).bag.bind (·.entryLink) = b.entryLink := by
      rw [← hv]
      exact (congrArg (fun x => x.bind (·.entryLink)) hbag :)
    rw [failLaunch_some hfail, hlink] at hmoves ⊢
    have hxi := (undone_ind hfail b.entryLink w.note i).trans hvi
    obtain ⟨hreceiver, hwindows, hresync, hjoins, hoverrun⟩ :=
      returned_ind (x := undoNote b.entryLink w.note f) (setReceiver i .idle s) w.record (by rw [hxi]; exact he)
    have ht := returned_eq (setReceiver i .idle s) (undoNote b.entryLink w.note f) i w.record
    rw [hxi] at hreceiver hwindows hresync hjoins hoverrun
    generalize settleHolds (setReceiver i .idle s)
      (returnRead i w.record (undoNote b.entryLink w.note f)) = t at *
    subst hv
    have hT : w.tray < s.T := by
      by_contra hle
      rw [tray_of_le (not_lt.mp hle)] at hbag
      cases hbag
    obtain ⟨hunlisted, hnextId⟩ := back_frame ht hfail
    obtain ⟨hown, hothers⟩ := back_trays ht hfail hT
    refine ⟨eq_of_sansTraffic hmoves.frame hunlisted hnextId, hwindows, hreceiver, by simp,
      fun _ => ⟨hown, hothers, fun u e => back_entry_restored ht hfail, fun tag hn => (back_entry_others ht hfail hn :),
        fun hn => (back_strays_none ht hfail hn :), fun id e hn hid => (back_strays_appended ht hfail hn hid :),
        fun id state cause mark times leftState leftTimes e hn hid =>
          (back_strays_moved ht hfail hn hid :), hresync, hjoins, hoverrun⟩,
      fun b hx => ?_, fun b c hx => ?_, fun b c hx => ?_, fun b c g hx => ?_,
      fun b c g pre u post hx hwin hu hpost => ?_⟩
    · rw [back_chutes ht, back_fireQueue ht]
      exact takeFailure_loaded (s := modInd i _ s) hx hfail
    · rw [back_chutes ht]
      exact takeFailure_committed (s := modInd i _ s) hx hfail
    · rw [back_fireQueue ht]
      exact takeFailure_armed (s := modInd i _ s) hx hfail
    · rw [back_chute ht]
      exact takeFailure_fill (s := modInd i _ s) hx hfail
    · rw [back_chute ht, takeFailure_chute_fired (s := modInd i _ s) hx hfail]
      exact (congrArg (dropOwnWindow w.tray) hwin :).trans (dropOwnWindow_last pre hu hpost)

end Sys2Proof.Machine
end

/-! ## Proofs: tag windows and the manifest store (chapter 3) -/

section
/-! SUPPORT. What the manifest law speaks of (R56, R57), and that nothing the bags on the loop bring about changes
it: requests against a bag entry keep its tag and its slot, and a report closes a slot that is CLOSING. -/

namespace Sys2Proof.Machine

/-- What the manifest law speaks of: the tag windows, each entry's tag and slot, each slot's quota, and which
slots are VACANT. -/
structure Ledger where
  windows : Vector TagWindow 8
  entries : List (Tag × Slot)
  quota : Slot → Nat
  vacant : Slot → Bool

def State.ledger (s : State) : Ledger where
  windows := s.tagWindows
  entries := s.pool.map fun e => (e.tag, e.slot)
  quota sl := (s.slot sl).quota
  vacant sl := (s.slot sl).state = .vacant

/-- The slot a tag decodes to by a ledger's windows. -/
def Ledger.decodeSlot (r : Ledger) (tag : Tag) : Option Slot :=
  ({ State.reset with tagWindows := r.windows } : State).decodeSlot tag

/-- The manifest law, said of a ledger. -/
structure Ledger.Sound (r : Ledger) : Prop where
  sorted : r.entries.Pairwise fun x y => x.1 < y.1
  filed : ∀ x ∈ r.entries, r.decodeSlot x.1 = some x.2 ∧ r.vacant x.2 = false
  count : ∀ sl, (r.entries.countP fun x => x.2 = sl) ≤ r.quota sl
  quotas : r.quota .a + r.quota .b ≤ 8192

theorem ledger_count (s : State) (sl : Slot) :
    (s.ledger.entries.countP fun x => x.2 = sl) = s.entryCount sl := List.countP_map

theorem manifestLaw_iff (s : State) : s.manifestLaw ↔ s.ledger.Sound := by
  have hsorted : poolSorted s.pool = true ↔ s.ledger.entries.Pairwise fun x y => x.1 < y.1 := by
    rw [poolSorted_iff, State.ledger, List.pairwise_map]
  have hfiled : (∀ e ∈ s.pool, s.decodeSlot e.tag = some e.slot ∧ (s.slot e.slot).state ≠ .vacant) ↔
      ∀ x ∈ s.ledger.entries, s.ledger.decodeSlot x.1 = some x.2 ∧ s.ledger.vacant x.2 = false := by
    simp only [State.ledger, List.forall_mem_map, decide_eq_false_iff_not]
    rfl
  constructor
  · rintro ⟨hs, hf, hc, hq⟩
    exact ⟨hsorted.mp hs, hfiled.mp hf, fun sl => (ledger_count s sl).trans_le (hc sl), hq⟩
  · rintro ⟨hs, hf, hc, hq⟩
    exact ⟨hsorted.mpr hs, hfiled.mpr hf, fun sl => (ledger_count s sl).symm.trans_le (hc sl), hq⟩

/-- What has the same ledger is under the same law. -/
theorem State.manifestLaw.of_ledger {s t : State} (h : s.manifestLaw) (e : t.ledger = s.ledger) :
    t.manifestLaw := (manifestLaw_iff t).mpr (e ▸ (manifestLaw_iff s).mp h)

/-! ### Frames that hold the ledger -/

section Masks
variable {s t : State}

theorem ledger_of_sansNotices (h : t.sansNotices = s.sansNotices) : t.ledger = s.ledger :=
  (congrArg State.ledger h :)

theorem ledger_of_sansInds (h : t.sansInds = s.sansInds) : t.ledger = s.ledger :=
  (congrArg State.ledger h :)

theorem ledger_of_sansChutes (h : t.sansChutes = s.sansChutes) : t.ledger = s.ledger :=
  (congrArg State.ledger h :)

theorem ledger_of_sansSelection (h : t.sansSelection = s.sansSelection) : t.ledger = s.ledger :=
  (congrArg State.ledger h :)

end Masks

/-! ### Slots and trays -/

theorem raise_ledger (n : Notice) (sc : Scope) (s : State) : (raise n sc s).ledger = s.ledger := rfl

theorem putTray_ledger (t : Nat) (x : Tray) (s : State) : (putTray t x s).ledger = s.ledger := rfl

theorem raiseIf_ledger (b : Bool) (n : Notice) (sc : Scope) (s : State) : (raiseIf b n sc s).ledger = s.ledger :=
  ledger_of_sansNotices (raiseIf_frame ..)

theorem modSlot_ledger {sl : Slot} {f : SlotRecord → SlotRecord} {s : State}
    (hq : (f (s.slot sl)).quota = (s.slot sl).quota)
    (hv : (f (s.slot sl)).state = .vacant ↔ (s.slot sl).state = .vacant) : (modSlot sl f s).ledger = s.ledger := by
  have h : ∀ k, ((modSlot sl f s).slot k).quota = (s.slot k).quota ∧
      (((modSlot sl f s).slot k).state = .vacant ↔ (s.slot k).state = .vacant) := by
    intro k
    by_cases hk : k = sl
    · subst hk; rw [modSlot_slot]; exact ⟨hq, hv⟩
    · rw [modSlot_slot_ne _ _ _ _ hk]; exact ⟨rfl, .rfl⟩
  simp [State.ledger, h]

theorem reportZero_ledger (sl : Slot) (s : State) : (reportZero sl s).ledger = s.ledger := by
  unfold reportZero
  split
  · next h => exact (raise_ledger ..).trans (modSlot_ledger rfl (by simp [h]))
  · rfl

theorem reportCount_ledger (sl : Slot) (s : State) : (reportCount sl s).ledger = s.ledger := by
  unfold reportCount
  split
  · exact reportZero_ledger sl s
  · rfl

theorem judgeQuota_ledger (sl : Slot) (s : State) : (judgeQuota sl s).ledger = s.ledger := by
  unfold judgeQuota
  dsimp only
  split
  · exact (raise_ledger ..).trans (modSlot_ledger rfl .rfl)
  · split
    · exact modSlot_ledger rfl .rfl
    · rfl

theorem judgeLoopHold_ledger (s : State) : (judgeLoopHold s).ledger = s.ledger := by
  unfold judgeLoopHold
  split
  · rfl
  · split <;> rfl

theorem emptyTray_ledger (t : Nat) (s : State) : (emptyTray t s).ledger = s.ledger := by
  refine (judgeLoopHold_ledger _).trans ?_
  split
  · exact reportCount_ledger _ (putTray t .empty s)
  · rfl

theorem loadTray_ledger (t : Nat) (b : BagRecord) (s : State) : (loadTray t b s).ledger = s.ledger :=
  judgeLoopHold_ledger (putTray t (.loaded b) s)

/-! ### Entries and strays -/

/-- A rewrite of the pool that keeps each entry's tag and slot. -/
theorem pool_map_ledger {s : State} {f : BagEntry → BagEntry} (h : ∀ e, (f e).tag = e.tag ∧ (f e).slot = e.slot) :
    ({ s with pool := s.pool.map f } : State).ledger = s.ledger := by
  simp only [State.ledger, List.map_map, Function.comp_def, h]
  rfl

theorem modEntry_ledger {tag : Tag} {f : BagEntry → BagEntry} (s : State)
    (h : ∀ e, (f e).slot = e.slot := by exact fun _ => rfl) : (modEntry tag f s).ledger = s.ledger :=
  pool_map_ledger fun e => by split <;> simp [h]

theorem linkEntry_ledger (tag : Tag) (s : State) : (linkEntry tag s).ledger = s.ledger :=
  modEntry_ledger s fun e => by split <;> rfl

theorem untrackEntry_ledger (tag : Tag) (s : State) : (untrackEntry tag s).ledger = s.ledger :=
  modEntry_ledger s fun e => by split <;> rfl

theorem strayBagEntry_ledger (tag : Tag) (id : Option (BitVec 16)) (s : State) :
    (strayBagEntry tag id s).ledger = s.ledger :=
  modEntry_ledger s fun e => by split <;> rfl

theorem restoreEntry_ledger (u : UndoEntry) (s : State) : (restoreEntry u s).ledger = s.ledger :=
  modEntry_ledger s fun e => by split <;> rfl

theorem sortEntry_ledger (tag : Tag) (c : ChuteId) (u : Bool) (s : State) :
    (sortEntry tag c u s).ledger = s.ledger := by
  unfold sortEntry
  split
  · split
    · exact (raiseIf_ledger ..).trans (modEntry_ledger s)
    all_goals rfl
  · rfl

theorem countStray_ledger (sl : Option Slot) (s : State) : (countStray sl s).ledger = s.ledger := by
  unfold countStray
  split
  · exact modSlot_ledger rfl .rfl
  · rfl

theorem recordStray_ledger (q : StrayRequest) (s : State) : (recordStray q s).state.ledger = s.ledger := by
  refine Eq.trans ?_ (countStray_ledger q.slot s)
  unfold recordStray
  dsimp only
  split
  · rfl
  · split <;> rfl

theorem reinductStray_ledger (tag : Tag) (sl : Slot) (s : State) :
    (reinductStray tag sl s).state.ledger = s.ledger := by
  unfold reinductStray
  split <;> rfl

theorem removeStray_ledger (id : BitVec 16) (s : State) : (removeStray id s).ledger = s.ledger :=
  pool_map_ledger (s := s) fun e => by split <;> exact ⟨rfl, rfl⟩

theorem straySorted_ledger (id : Option (BitVec 16)) (s : State) : (straySorted id s).ledger = s.ledger := by
  unfold straySorted
  split
  · split
    · exact removeStray_ledger ..
    · rfl
  · rfl

theorem strayUntracked_ledger (id : Option (BitVec 16)) (s : State) : (strayUntracked id s).ledger = s.ledger := by
  rw [strayUntracked_eq]
  rfl

theorem undoStray_ledger (u : UndoStray) (s : State) : (undoStray u s).ledger = s.ledger := by
  unfold undoStray
  split <;> split
  · split
    · exact removeStray_ledger ..
    · split <;> rfl
  · rfl
  · split <;> rfl
  · rfl

theorem undoNote_ledger (linked : Option Tag) (n : UndoNote) (s : State) :
    (undoNote linked n s).ledger = s.ledger := by
  have hrestored : (restoreLinked linked n s).ledger = s.ledger := by
    unfold restoreLinked
    split
    · split
      · exact restoreEntry_ledger ..
      · rfl
    · rfl
  rw [undoNote_def]
  split
  · exact (undoStray_ledger ..).trans hrestored
  · exact hrestored

theorem sortBag_ledger (b : BagRecord) (c : ChuteId) (u : Bool) (s : State) :
    (sortBag b c u s).ledger = s.ledger := by
  unfold sortBag
  split
  · exact (straySorted_ledger ..).trans (sortEntry_ledger ..)
  · split
    · split <;> rfl
    · rfl

theorem loseBag_ledger (b : BagRecord) (s : State) : (loseBag b s).ledger = s.ledger := by
  refine (strayUntracked_ledger ..).trans ?_
  split
  · exact untrackEntry_ledger ..
  · rfl

/-! ### Classification and selection -/

theorem makeStray_ledger (t : Nat) (q : StrayRequest) (s : State) : (makeStray t q s).state.ledger = s.ledger :=
  recordStray_ledger q s

theorem routeBag_ledger (t : Nat) (sl : Slot) (e : BagEntry) (s : State) :
    (routeBag t sl e s).state.ledger = s.ledger :=
  (reinductStray_ledger e.tag sl _).trans (linkEntry_ledger e.tag s)

theorem classifyEntry_ledger (t : Nat) (tag : Tag) (sl : Slot) (e : BagEntry) (s : State) :
    (classifyEntry t tag sl e s).state.ledger = s.ledger := by
  unfold classifyEntry
  split
  case h_1 | h_2 => exact makeStray_ledger t _ (raise .duplicateTag (.slot sl) s)
  all_goals
    split
    · exact routeBag_ledger ..
    · split
      · rfl
      · exact makeStray_ledger ..

theorem classifyInSlot_ledger (t : Nat) (tag : Tag) (sl : Slot) (s : State) :
    (classifyInSlot t tag sl s).state.ledger = s.ledger := by
  unfold classifyInSlot
  split
  · exact makeStray_ledger ..
  · split
    · exact classifyEntry_ledger ..
    · split
      · rfl
      · exact makeStray_ledger ..

theorem classifyTag_ledger (t : Nat) (tag : Tag) (s : State) : (classifyTag t tag s).state.ledger = s.ledger := by
  unfold classifyTag
  split
  · exact makeStray_ledger ..
  · next sl _ =>
    split
    case h_1 | h_2 => exact makeStray_ledger ..
    all_goals exact classifyInSlot_ledger t tag sl (modBag t _ s)

theorem classify_ledger (t : Nat) (s : State) : (classify t s).state.ledger = s.ledger := by
  unfold classify
  split
  · rfl
  · split
    · exact makeStray_ledger ..
    · next tag _ =>
      split
      · exact makeStray_ledger ..
      · exact classifyTag_ledger t tag (modBag t _ s)

theorem passToSelection_ledger (t : Nat) (s : State) : (passToSelection t s).ledger = s.ledger :=
  ledger_of_sansSelection (passToSelection_frame ..)

theorem raiseExpired_ledger (t : Nat) (s : State) : (raiseExpired t s).ledger = s.ledger :=
  ledger_of_sansNotices (raiseExpired_frame ..)

theorem wakeTray_ledger (t : Nat) (s : State) : (wakeTray t s).ledger = s.ledger := by
  unfold wakeTray
  split
  case h_1 =>
    split
    · exact (passToSelection_ledger ..).trans ((raiseExpired_ledger ..).trans
        ((ledger_of_sansInds (writeNote_frame ..)).trans (classify_ledger t s)))
    · rfl
  all_goals rfl

theorem wakeWhere_ledger (sl : Slot) (want : BagRecord → Bool) (s : State) :
    (wakeWhere sl want s).ledger = s.ledger := foldl_keeps State.ledger _ (fun s t => wakeTray_ledger t s) _ s

/-! ### The check eye -/

theorem judgeWait_ledger (t : Nat) (s : State) : (judgeWait t s).ledger = s.ledger := by
  refine Eq.trans ?_ (classify_ledger t s)
  unfold judgeWait
  dsimp only
  split
  · split
    · split
      · exact (raise_ledger ..).trans (makeStray_ledger ..)
      · rfl
    · rfl
    · exact raiseExpired_ledger ..
  · rfl

theorem judgeLimit_ledger (t : Nat) (s : State) : (judgeLimit t s).ledger = s.ledger := by
  unfold judgeLimit
  split
  · split
    · dsimp only
      split
      · exact (strayBagEntry_ledger ..).trans (makeStray_ledger ..)
      · exact makeStray_ledger ..
    · rfl
  · rfl

theorem newPass_ledger (t : Nat) (s : State) : (newPass t s).ledger = s.ledger := by
  rw [newPass_eq]
  refine (passToSelection_ledger ..).trans ((judgeLimit_ledger ..).trans ?_)
  unfold passJudged
  dsimp only
  split
  · split
    · exact judgeWait_ledger t (modBag t _ s)
    · rfl
  · rfl

theorem loadOrphan_ledger (t : Nat) (s : State) : (loadOrphan t s).ledger = s.ledger :=
  (passToSelection_ledger ..).trans ((makeStray_ledger ..).trans (loadTray_ledger ..))

theorem orphanFound_ledger (t : Nat) (s : State) : (orphanFound t s).ledger = s.ledger := by
  refine (loadOrphan_ledger ..).trans ((raise_ledger ..).trans ?_)
  split
  · exact ledger_of_sansInds (loseReservation_frame ..)
  all_goals rfl

theorem settleLoaded_ledger (t : Nat) (b : BagRecord) (eye : Bool) (s : State) :
    (settleLoaded t b eye s).ledger = s.ledger := by
  unfold settleLoaded
  split
  · exact newPass_ledger t s
  · exact (emptyTray_ledger ..).trans (loseBag_ledger ..)

theorem settleUnconfirmed_ledger (t : Nat) (b : BagRecord) (c : ChuteId) (g : BitVec 8) (eye : Bool) (s : State) :
    (settleUnconfirmed t b c g eye s).ledger = s.ledger := by
  unfold settleUnconfirmed
  split
  · exact (newPass_ledger ..).trans ((putTray_ledger ..).trans
      (ledger_of_sansChutes ((tiltFailed_frame ..).trans (returnFill_frame ..))))
  · exact (emptyTray_ledger ..).trans (sortBag_ledger ..)

theorem settleRow_ledger (t : Nat) (eye : Bool) (s : State) : (settleRow t eye s).ledger = s.ledger := by
  unfold settleRow
  split
  case h_1 | h_2 =>
    split
    · exact orphanFound_ledger t s
    · rfl
  case h_3 => exact settleLoaded_ledger ..
  case h_4 => exact settleUnconfirmed_ledger ..
  case h_5 => exact (settleLoaded_ledger ..).trans (ledger_of_sansSelection (cancelSelection_frame t s))
  case h_6 =>
    exact (settleUnconfirmed_ledger ..).trans ((putTray_ledger ..).trans
      (ledger_of_sansChutes (removeWindow_frame _ t s)))
  case h_7 =>
    split
    · exact loadOrphan_ledger t s
    · exact emptyTray_ledger t s
  case h_8 => rfl

theorem closeLaunch_ledger (t : Nat) (s : State) : (closeLaunch t s).ledger = s.ledger := by
  unfold closeLaunch
  split
  · exact foldl_keeps State.ledger _ (fun _ _ => rfl) allInds s
  · rfl

theorem reconcile_ledger (t : Nat) (eye : Bool) (s : State) : (reconcile t eye s).ledger = s.ledger :=
  (settleRow_ledger ..).trans (closeLaunch_ledger ..)

/-! ### The acts of a pitch event, launch answers, confirmations -/

theorem claimTray_ledger (i : IndId) (t : Nat) (s : State) : (claimTray i t s).ledger = s.ledger := by
  unfold claimTray
  split
  · dsimp only
    refine (passToSelection_ledger ..).trans ((classify_ledger ..).trans ((loadTray_ledger ..).trans ?_))
    rfl
  · rfl

theorem freeReserved_ledger (i : IndId) (t : Nat) (s : State) : (freeReserved i t s).ledger = s.ledger := by
  rw [freeReserved_eq]
  rfl

theorem claimCheck_ledger (hold : Bool) (i : IndId) (s : State) : (claimCheck hold i s).ledger = s.ledger := by
  unfold claimCheck
  dsimp only
  split
  · exact (ledger_of_sansInds (requestReservation_frame ..)).trans (claimTray_ledger ..)
  · refine (ledger_of_sansInds (requestReservation_frame ..)).trans ?_
    unfold releaseGranted
    split
    · split
      · exact freeReserved_ledger ..
      · rfl
    · rfl

theorem settleHolds_ledger (v u : State) : (settleHolds v u).ledger = u.ledger :=
  ledger_of_sansInds (settleHolds_frame v u)

theorem grantReservation_ledger (s : State) : (grantReservation s).ledger = s.ledger := by
  unfold grantReservation
  split
  · split <;> rfl
  · rfl

theorem doAct_ledger (hold eye : Bool) (s : State) (a : PitchAct) : (doAct hold eye s a).ledger = s.ledger := by
  refine (settleHolds_ledger ..).trans ?_
  cases a with
  | claim i => exact claimCheck_ledger hold i s
  | grant => exact grantReservation_ledger s
  | reconcile => exact reconcile_ledger _ eye s
  | arm t => exact ledger_of_sansSelection (armTray_frame t s)
  | reselect t => exact passToSelection_ledger t s

theorem expireWindows_ledger (i : IndId) (s : State) : (expireWindows i s).ledger = s.ledger := by
  rw [expireWindows_eq]
  rfl

theorem pitchActs_ledger (hold first : Bool) (order : List Nat) (eye : Bool) (s : State) :
    (pitchActs hold first order eye s).ledger = s.ledger := by
  rw [pitchActs_eq]
  refine (foldl_keeps State.ledger _ (doAct_ledger hold eye) _ _).trans ?_
  exact foldl_keeps State.ledger _ (fun s i => expireWindows_ledger i (countWindows i s)) allInds s

theorem takeFailure_ledger {t : Nat} {s u : State} (h : takeFailure t s = some u) : u.ledger = s.ledger := by
  have hcommitted : ∀ (c : ChuteId) (n : Nat) (v : State), (returnCommitted c n v).ledger = v.ledger :=
    fun _ _ _ => ledger_of_sansChutes (returnCommitted_frame ..)
  have hfill : ∀ (c : ChuteId) (g : BitVec 8) (n : Nat) (v : State), (returnFill c g n v).ledger = v.ledger :=
    fun _ _ _ _ => ledger_of_sansChutes (returnFill_frame ..)
  unfold takeFailure at h
  split at h
  all_goals cases h
  case h_1 => exact emptyTray_ledger ..
  case h_2 => exact (emptyTray_ledger ..).trans (hcommitted ..)
  case h_3 => exact (emptyTray_ledger ..).trans (hcommitted _ _ (removeFire t s))
  case h_4 => exact (emptyTray_ledger ..).trans (hfill ..)
  case h_5 => exact (emptyTray_ledger ..).trans (hfill ..)

theorem failLaunch_ledger (i : IndId) (w : LaunchWindow) (s : State) : (failLaunch i w s).ledger = s.ledger := by
  unfold failLaunch
  split
  · next u hu =>
    rw [returnRead_eq]
    exact (undoNote_ledger ..).trans (takeFailure_ledger hu)
  · rfl

theorem takeAnswer_ledger (i : IndId) (kind : AnswerKind) (t : Nat) (s : State) :
    (takeAnswer i kind t s).ledger = s.ledger := by
  unfold takeAnswer
  split
  · dsimp only
    split
    · rfl
    · exact (settleHolds_ledger ..).trans (failLaunch_ledger ..)
  · rfl

theorem confirmTray_ledger (c : ChuteId) (w : ConfirmWindow) (later : List ConfirmWindow) (s : State) :
    (confirmTray c w later s).ledger = s.ledger := by
  unfold confirmTray
  split
  case h_1 =>
    split
    · exact (sortBag_ledger ..).trans (emptyTray_ledger ..)
    · rfl
  all_goals rfl

theorem confirmOldest_ledger (c : ChuteId) (s : State) : (confirmOldest c s).ledger = s.ledger := by
  unfold confirmOldest
  split
  · exact confirmTray_ledger ..
  · rfl

end Sys2Proof.Machine
end

section
/-! SUPPORT. The tag decode (R52): the longest match of a list of windows, and the windows in use (R53, R54). -/

namespace Sys2Proof.Machine

/-! ### The longest match -/

/-- Nothing is found exactly when nothing matches. -/
theorem foldl_longerMatch_eq_none {tag : Tag} {ws : List TagWindow} {best : Option TagWindow} :
    ws.foldl (longerMatch tag) best = none ↔ best = none ∧ ∀ w ∈ ws, w.isMatch tag = false := by
  induction ws generalizing best with
  | nil => simp
  | cons v r ih =>
    rw [List.foldl_cons, ih]
    unfold longerMatch
    cases hv : v.isMatch tag with
    | false => simp [hv]
    | true =>
      cases best with
      | none => simp [hv]
      | some u => by_cases hu : u.digits.length < v.digits.length <;> simp [hu, hv]

/-- What is found is one of the windows, or what one began with. -/
theorem foldl_longerMatch_mem {tag : Tag} {ws : List TagWindow} {best : Option TagWindow} {w : TagWindow}
    (h : ws.foldl (longerMatch tag) best = some w) : best = some w ∨ w ∈ ws ∧ w.isMatch tag = true := by
  induction ws generalizing best with
  | nil => exact .inl h
  | cons v r ih =>
    rcases ih h with hb | ⟨hw, hm⟩
    · unfold longerMatch at hb
      split at hb
      · next hv =>
        split at hb
        · split at hb
          · obtain rfl := Option.some.inj hb
            exact .inr ⟨List.mem_cons_self .., hv⟩
          · exact .inl hb
        · obtain rfl := Option.some.inj hb
          exact .inr ⟨List.mem_cons_self .., hv⟩
      · exact .inl hb
    · exact .inr ⟨List.mem_cons_of_mem _ hw, hm⟩

/-- What is found is at least as long as every match, and as what one began with. -/
theorem foldl_longerMatch_longest {tag : Tag} {ws : List TagWindow} {best : Option TagWindow} {w : TagWindow}
    (h : ws.foldl (longerMatch tag) best = some w) {v : TagWindow}
    (hv : best = some v ∨ v ∈ ws ∧ v.isMatch tag = true) : v.digits.length ≤ w.digits.length := by
  induction ws generalizing best v with
  | nil =>
    rcases hv with hv | ⟨hv, -⟩
    · rw [Option.some.inj (hv.symm.trans h)]
    · cases hv
  | cons u r ih =>
    rw [List.foldl_cons] at h
    -- The comparison with `u` leaves something at least as long as `v`.
    by_cases hmem : v ∈ r ∧ v.isMatch tag = true
    · exact ih h (.inr hmem)
    suffices ∃ x, longerMatch tag best u = some x ∧ v.digits.length ≤ x.digits.length by
      obtain ⟨x, hx, hle⟩ := this
      exact hle.trans (ih h (.inl hx))
    have hv' : best = some v ∨ v = u ∧ u.isMatch tag = true := by
      rcases hv with hb | ⟨hin, hm⟩
      · exact .inl hb
      · rcases List.mem_cons.mp hin with rfl | hin
        · exact .inr ⟨rfl, hm⟩
        · exact absurd ⟨hin, hm⟩ hmem
    unfold longerMatch
    rcases hv' with rfl | ⟨rfl, hm⟩
    · dsimp only
      split
      · split
        · next hlt => exact ⟨u, rfl, hlt.le⟩
        · exact ⟨v, rfl, le_rfl⟩
      · exact ⟨v, rfl, le_rfl⟩
    · rw [if_pos hm]
      split
      · split
        · exact ⟨v, rfl, le_rfl⟩
        · next b hge => exact ⟨b, rfl, not_lt.mp hge⟩
      · exact ⟨v, rfl, le_rfl⟩

/-- A window that does not match, written over one that does not, changes no decode. -/
theorem foldl_longerMatch_set {tag : Tag} {w : TagWindow} (hw : w.isMatch tag = false) {ws : List TagWindow} {n : Nat}
    (hn : ∀ v, ws[n]? = some v → v.isMatch tag = false) (best : Option TagWindow) :
    (ws.set n w).foldl (longerMatch tag) best = ws.foldl (longerMatch tag) best := by
  induction ws generalizing n best with
  | nil => rfl
  | cons v r ih =>
    cases n with
    | zero =>
      have hv : v.isMatch tag = false := hn v rfl
      simp [longerMatch, hw, hv]
    | succ n => exact ih (by simpa using hn) _

/-! ### The decode -/

variable {s : State} {tag : Tag}

theorem mem_tagWindows {w : TagWindow} : w ∈ s.tagWindows.toList ↔ ∃ n, s.tagWindows.get n = w := by
  simp only [Vector.mem_toList_iff, Vector.mem_iff_getElem, Vector.get_eq_getElem]
  exact ⟨fun ⟨i, hi, h⟩ => ⟨⟨i, hi⟩, h⟩, fun ⟨n, h⟩ => ⟨n, n.isLt, h⟩⟩

theorem decode_eq_none : s.decode tag = none ↔ ∀ n, (s.tagWindows.get n).isMatch tag = false := by
  rw [State.decode, Option.map_eq_none_iff, foldl_longerMatch_eq_none]
  simp only [mem_tagWindows, forall_exists_index, forall_apply_eq_imp_iff, true_and]

theorem decode_eq_some {x : Target} (h : s.decode tag = some x) :
    ∃ n, (s.tagWindows.get n).isMatch tag = true ∧ (s.tagWindows.get n).target = x ∧
      ∀ m, (s.tagWindows.get m).isMatch tag = true →
        (s.tagWindows.get m).digits.length ≤ (s.tagWindows.get n).digits.length := by
  obtain ⟨w, hw, rfl⟩ := Option.map_eq_some_iff.mp h
  obtain ⟨hmem, hm⟩ := (foldl_longerMatch_mem hw).resolve_left nofun
  obtain ⟨n, rfl⟩ := mem_tagWindows.mp hmem
  exact ⟨n, hm, rfl, fun m hmatch =>
    foldl_longerMatch_longest hw (.inr ⟨mem_tagWindows.mpr ⟨m, rfl⟩, hmatch⟩)⟩

/-- R52: the one longest match. -/
theorem decode_of_longest {n : Fin 8} (hn : (s.tagWindows.get n).isMatch tag = true)
    (hlonger : ∀ m, m ≠ n → (s.tagWindows.get m).isMatch tag = true →
      (s.tagWindows.get m).digits.length < (s.tagWindows.get n).digits.length) :
    s.decode tag = some (s.tagWindows.get n).target := by
  cases hd : s.decode tag with
  | none => rw [decode_eq_none.mp hd n] at hn; cases hn
  | some x =>
    obtain ⟨m, hm, rfl, hmax⟩ := decode_eq_some hd
    by_cases hmn : m = n
    · rw [hmn]
    · exact absurd (hmax n hn) (not_le.mpr (hlonger m hmn hm))

theorem decode_putWindow {n : Fin 8} {w : TagWindow} (hold : (s.tagWindows.get n).isMatch tag = false)
    (hnew : w.isMatch tag = false) : (putWindow n w s).decode tag = s.decode tag := by
  have hn : ∀ v, s.tagWindows.toList[n.val]? = some v → v.isMatch tag = false := by
    intro v hv
    have hget : s.tagWindows.get n = v := by simpa [Vector.get_eq_getElem] using hv
    exact hget ▸ hold
  unfold State.decode putWindow
  rw [Vector.toList_set, foldl_longerMatch_set hnew hn]

/-! ### Windows in use -/

/-- Two windows that match one tag have prefixes that are related (section 3.1). -/
theorem prefixRelated_of_match {v w : TagWindow} (hv : v.isMatch tag = true) (hw : w.isMatch tag = true) :
    prefixRelated v.digits w.digits = true := by
  have hpre : ∀ {u : TagWindow}, u.isMatch tag = true → u.digits <+: tagDigits tag := fun hu =>
    List.isPrefixOf_iff_prefix.mp (Bool.and_eq_true_iff.mp hu).2
  rw [prefixRelated, Bool.or_eq_true, List.isPrefixOf_iff_prefix, List.isPrefixOf_iff_prefix]
  exact List.prefix_or_prefix_of_prefix (hpre hv) (hpre hw)

theorem digits_of_match {w : TagWindow} (h : w.isMatch tag = true) : w.digits.isEmpty = false := by
  simpa using (Bool.and_eq_true_iff.mp h).1

/-- The window that decodes a tag to a slot that is not VACANT serves. -/
theorem serves_of_decodeSlot {sl : Slot} (h : s.decodeSlot tag = some sl) (hsl : (s.slot sl).state ≠ .vacant) :
    ∃ n, (s.tagWindows.get n).isMatch tag = true ∧ s.windowServes (s.tagWindows.get n) = true := by
  obtain ⟨x, hx, hslot⟩ := Option.bind_eq_some_iff.mp h
  obtain ⟨n, hm, rfl, -⟩ := decode_eq_some hx
  exact ⟨n, hm, by simp [State.windowServes, digits_of_match hm, hslot, hsl]⟩

/-- A window that matches a tag decoded to a slot that is not VACANT is in use (R53). -/
theorem windowInUse_of_match {sl : Slot} (h : s.decodeSlot tag = some sl) (hsl : (s.slot sl).state ≠ .vacant)
    {w : TagWindow} (hw : w.isMatch tag = true) : s.windowInUse w = true := by
  obtain ⟨n, hm, hserves⟩ := serves_of_decodeSlot h hsl
  rw [State.windowInUse, digits_of_match hw, Bool.not_false, Bool.true_and, List.any_eq_true]
  exact ⟨_, mem_tagWindows.mpr ⟨n, rfl⟩, by rw [hserves, prefixRelated_of_match hw hm]; rfl⟩

theorem mem_otherWindows {n : Fin 8} {w : TagWindow} :
    w ∈ s.otherWindows n ↔ ∃ m, m ≠ n ∧ s.tagWindows.get m = w := by
  simp [State.otherWindows]

end Sys2Proof.Machine
end

section
/-! SUPPORT. What changes the ledger keeps the manifest law: windows that are not in use (R53, R54), entries taken
and returned (R56), quotas and slot states (R77, R80, R87). -/

namespace Sys2Proof.Machine

/-! ### The pool's counts -/

theorem insertEntry_perm (e : BagEntry) (p : List BagEntry) : (insertEntry e p).Perm (e :: p) := by
  induction p with
  | nil => exact .refl _
  | cons x r ih =>
    unfold insertEntry
    split
    · exact .refl _
    · exact (ih.cons x).trans (.swap ..)

/-- R56: an entry taken is counted for its slot. -/
theorem entryCount_insertEntry (e : BagEntry) (s : State) (sl : Slot) :
    ({ s with pool := insertEntry e s.pool } : State).entryCount sl =
      s.entryCount sl + if e.slot = sl then 1 else 0 := by
  refine ((insertEntry_perm e s.pool).countP_eq _).trans ?_
  by_cases h : e.slot = sl <;> simp [State.entryCount, h]

section Law
variable {s : State} (h : s.manifestLaw)
include h

theorem State.manifestLaw.entryCount_vacant {sl : Slot} (hv : (s.slot sl).state = .vacant) : s.entryCount sl = 0 := by
  refine List.countP_eq_zero.mpr fun e he hsl => ?_
  exact (h.2.1 e he).2 (of_decide_eq_true hsl ▸ hv)

/-- R53, R54: a window not in use, written with one that matches no tag of a window in use. -/
theorem State.manifestLaw.putWindow {n : Fin 8} {w : TagWindow} (hold : s.windowInUse (s.tagWindows.get n) = false)
    (hnew : ∀ m tag, m ≠ n → s.windowServes (s.tagWindows.get m) = true →
      (s.tagWindows.get m).isMatch tag = true →
      w.isMatch tag = false) : (putWindow n w s).manifestLaw := by
  obtain ⟨hsorted, hfiled, hcount, hquotas⟩ := h
  refine ⟨hsorted, fun e he => ?_, hcount, hquotas⟩
  obtain ⟨hdec, hslot⟩ := hfiled e he
  have holdm : (s.tagWindows.get n).isMatch e.tag = false := by
    by_contra hm
    rw [windowInUse_of_match hdec hslot (Bool.eq_true_of_not_eq_false hm)] at hold
    cases hold
  have hnewm : w.isMatch e.tag = false := by
    obtain ⟨m, hm, hserves⟩ := serves_of_decodeSlot hdec hslot
    refine hnew m e.tag ?_ hserves hm
    rintro rfl
    rw [holdm] at hm
    cases hm
  have hdec' : (Machine.putWindow n w s).decodeSlot e.tag = s.decodeSlot e.tag :=
    congrArg (·.bind Target.slot) (decode_putWindow holdm hnewm)
  exact ⟨hdec'.trans hdec, hslot⟩

/-- R56, R57: an entry taken for a tag that has none, within the quota of the slot the tag decodes to. -/
theorem State.manifestLaw.insertEntry {e : BagEntry} (hnone : s.entry e.tag = none)
    (hdec : s.decodeSlot e.tag = some e.slot) (hslot : (s.slot e.slot).state ≠ .vacant)
    (hquota : s.entryCount e.slot < (s.slot e.slot).quota) :
    ({ s with pool := insertEntry e s.pool } : State).manifestLaw := by
  obtain ⟨hsorted, hfiled, hcount, hquotas⟩ := h
  refine ⟨poolSorted_insertEntry hsorted hnone, fun x hx => ?_, fun sl => ?_, hquotas⟩
  · rcases (mem_insertEntry e x s.pool).mp hx with rfl | hx
    · exact ⟨hdec, hslot⟩
    · exact hfiled x hx
  · rw [entryCount_insertEntry]
    split
    · next hsl => subst hsl; exact hquota
    · exact hcount sl

/-- R56: entries returned to the pool. -/
theorem State.manifestLaw.filterPool (f : BagEntry → Bool) :
    ({ s with pool := s.pool.filter f } : State).manifestLaw := by
  obtain ⟨hsorted, hfiled, hcount, hquotas⟩ := h
  exact ⟨poolSorted_filter f hsorted, fun e he => hfiled e (List.mem_filter.mp he).1,
    fun sl => List.filter_sublist.countP_le.trans (hcount sl), hquotas⟩

/-- R56: a slot record written with a quota that holds the slot's entries, and VACANT only where it has none. -/
theorem State.manifestLaw.modSlot {sl : Slot} {f : SlotRecord → SlotRecord}
    (hcount : s.entryCount sl ≤ (f (s.slot sl)).quota)
    (hquota : (f (s.slot sl)).quota + (s.slot sl.other).quota ≤ 8192)
    (hvacant : (f (s.slot sl)).state = .vacant → s.entryCount sl = 0) : (modSlot sl f s).manifestLaw := by
  obtain ⟨hsorted, hfiled, hcounts, -⟩ := h
  refine ⟨hsorted, fun e he => ⟨(hfiled e he).1, ?_⟩, fun k => ?_, ?_⟩
  · by_cases hk : e.slot = sl
    · subst hk
      rw [modSlot_slot]
      intro hv
      exact List.countP_eq_zero.mp (hvacant hv) e he (decide_eq_true rfl)
    · rw [modSlot_slot_ne _ _ _ _ hk]
      exact (hfiled e he).2
  · by_cases hk : k = sl
    · subst hk
      rw [modSlot_slot]
      exact hcount
    · rw [modSlot_slot_ne _ _ _ _ hk]
      exact hcounts k
  · cases sl with
    | a => exact hquota
    | b => exact (Nat.add_comm ..).trans_le hquota

end Law

end Sys2Proof.Machine
end

section
/-! PROOF. The laws of the tables hold right after reset (O11). -/

namespace Sys2Proof.Machine

theorem reset_tray (k : Nat) : State.reset.tray k = .empty := by
  rw [State.tray, List.getD_eq_getElem?_getD]
  change ((List.replicate 256 Tray.empty)[k]?).getD .empty = .empty
  rw [List.getElem?_replicate]
  split <;> rfl

theorem reset_chute (c : ChuteId) : State.reset.chute c = .reset := Vector.getElem_replicate c.isLt

theorem reset_ind (i : IndId) : State.reset.ind i = .reset := by cases i <;> rfl

theorem reset_port (l : LinkId) : State.reset.port l = .reset := by cases l <;> rfl

/-- R75, R92: no entries, and no quota. -/
theorem reset_manifestLaw : State.reset.manifestLaw :=
  ⟨rfl, fun _ he => absurd he List.not_mem_nil, fun _ => Nat.zero_le _, Nat.zero_le _⟩

/-- R136, R152: every tray is EMPTY, and no chute has units committed. -/
theorem reset_committedLaw : State.reset.committedLaw := by
  intro c
  change (State.reset.chute c).committed = ((List.replicate 256 Tray.empty).map (·.heldFor c)).sum
  rw [reset_chute, List.map_replicate, List.sum_replicate]
  rfl

theorem reset_bounded : State.reset.Bounded where
  loop := (resetBlocks_bounded { powerOn := true, pin := false } false State.reset).loop
  inds i := reset_ind i ▸ Induction.sound_reset
  chutes c := by rw [reset_chute]; exact Nat.zero_le _
  fires := Nat.zero_le _
  blocked := Nat.zero_le _

/-- R184: nothing is flagged, enabled or latched. -/
theorem reset_noticeLaw : State.reset.noticeLaw := by
  intro l g
  cases l <;> cases g <;> decide

theorem reset_strayLaw : State.reset.strayLaw := ⟨Nat.zero_le _, .nil, .nil⟩

/-- R193: every port is IDLE with an empty buffer. -/
theorem reset_portLaw : State.reset.portLaw := by
  intro l
  rw [reset_port]
  exact ⟨fun _ => .inl rfl, fun _ => rfl, nofun, nofun, nofun⟩

theorem reset_waitingLaw : State.reset.waitingLaw := by
  intro t b hb
  rw [reset_tray] at hb
  cases hb

/-- Settles O11. -/
theorem lawsHoldAtReset : Obligations.lawsHoldAtReset :=
  ⟨reset_manifestLaw, reset_committedLaw, (boundsLaw_iff _).mpr reset_bounded, reset_noticeLaw, reset_strayLaw,
    reset_portLaw, reset_waitingLaw⟩

end Sys2Proof.Machine
end

section
/-! PROOF. Every step keeps the manifest law (O12). -/

namespace Sys2Proof.Machine

/-- Whatever state an answer goes with is under the manifest law. -/
def Answer.Lawful (a : Answer) : Prop := ∀ t reply, a = .ok (t, reply) → t.manifestLaw

/-- Whatever state a command leaves is under the manifest law. -/
def Out.Lawful (o : Out) : Prop := ∀ t, o = .next t → t.manifestLaw

theorem Answer.lawful_error {r : Reason} : Answer.Lawful (.error r) := fun _ _ e => by cases e

theorem Answer.lawful_ok {t : State} {reply : Reply} (h : t.manifestLaw) : Answer.Lawful (.ok (t, reply)) :=
  fun _ _ e => (Prod.mk.inj (Except.ok.inj e)).1 ▸ h

theorem Out.lawful_next {t : State} (h : t.manifestLaw) : Out.Lawful (.next t) :=
  fun _ e => Host.Outcome.next.inj e ▸ h

section Requests
variable {s : State} (h : s.manifestLaw)
include h

/-! ### Tag windows and the manifest (chapter 3) -/

theorem setWindow_lawful (p : Payload) : Answer.Lawful (setWindow p s) := by
  unfold setWindow
  dsimp only
  repeat' split
  any_goals exact Answer.lawful_error
  next hunused =>
    rw [not_or, List.any_eq_true, not_exists] at hunused
    obtain ⟨hold, hother⟩ := hunused
    refine Answer.lawful_ok (h.putWindow (Bool.eq_false_of_not_eq_true hold) fun m tag hmn hserves hm => ?_)
    by_contra hw
    refine hother _ ⟨mem_otherWindows.mpr ⟨m, hmn, rfl⟩, Bool.and_eq_true_iff.mpr ⟨hserves, ?_⟩⟩
    exact prefixRelated_of_match (Bool.eq_true_of_not_eq_false hw) hm

theorem clearWindow_lawful (p : Payload) : Answer.Lawful (clearWindow p s) := by
  unfold clearWindow
  dsimp only
  split
  · split
    · exact Answer.lawful_error
    · next hunused => exact Answer.lawful_ok (h.putWindow (Bool.eq_false_of_not_eq_true hunused) fun _ _ _ _ _ => rfl)
  · exact Answer.lawful_error

omit h in
theorem matchStray_ledger (sl : Slot) (tag : Tag) (s : State) : (matchStray sl tag s).ledger = s.ledger := by
  unfold matchStray
  split
  · exact (raise_ledger ..).trans (modEntry_ledger (modStray _ _ s))
  · rfl

theorem addBag_lawful (sl : Slot) (p : Payload) : Answer.Lawful (addBag sl p s) := by
  unfold addBag
  dsimp only
  repeat' split
  any_goals exact Answer.lawful_error
  next tag _ _ hstate _ k hdec hk hentry hquota =>
    obtain rfl := not_not.mp hk
    have hslot : (s.slot k).state ≠ .vacant := fun hv => hstate (by rw [hv]; exact ⟨nofun, nofun⟩)
    have hadded := h.insertEntry (e := s.newEntry k tag (u16 p 5)) (Option.not_isSome_iff_eq_none.mp hentry) hdec hslot
      (not_le.mp hquota)
    exact Answer.lawful_ok (hadded.of_ledger ((wakeWhere_ledger ..).trans ((matchStray_ledger ..).trans
      ((raiseIf_ledger ..).trans (judgeQuota_ledger ..)))))

omit h in
theorem withdrawOnLoop_ledger (tag : Tag) (s : State) : (withdrawOnLoop tag s).ledger = s.ledger := by
  unfold withdrawOnLoop
  split
  · split
    · exact (passToSelection_ledger ..).trans ((ledger_of_sansSelection (cancelSelection_frame ..)).trans
        (makeStray_ledger ..))
    · rfl
  · rfl

theorem withdrawBag_lawful (sl : Slot) (p : Payload) : Answer.Lawful (withdrawBag sl p s) := by
  unfold withdrawBag
  split
  · next tag _ =>
    split
    · next e _ =>
      have hstrayed : (if e.status.isOnLoop then withdrawOnLoop tag s else s).manifestLaw := by
        split
        · exact h.of_ledger (withdrawOnLoop_ledger ..)
        · exact h
      exact Answer.lawful_ok ((hstrayed.filterPool _).of_ledger (judgeQuota_ledger ..))
    · exact Answer.lawful_error
  · exact Answer.lawful_error

omit h in
theorem changeOnLoop_ledger (tag : Tag) (s : State) : (changeOnLoop tag s).ledger = s.ledger := by
  unfold changeOnLoop
  split
  · split
    case h_1 | h_2 =>
      exact (passToSelection_ledger ..).trans (ledger_of_sansSelection (cancelSelection_frame ..))
    case h_3 | h_4 => exact modEntry_ledger s
    all_goals rfl
  · rfl

omit h in
theorem applyCabin_ledger (sl : Slot) (e : BagEntry) (cabin : Nat) (s : State) :
    (applyCabin sl e cabin s).ledger = s.ledger := by
  refine Eq.trans ?_ (modEntry_ledger (tag := e.tag) (f := fun e => { e with cabin := cabin }) s)
  unfold applyCabin
  dsimp only
  split
  case h_1 | h_2 | h_3 => exact wakeWhere_ledger ..
  case h_4 => exact changeOnLoop_ledger ..
  case h_5 => rfl

theorem changeCabin_lawful (sl : Slot) (p : Payload) : Answer.Lawful (changeCabin sl p s) := by
  unfold changeCabin
  dsimp only
  repeat' split
  any_goals exact Answer.lawful_error
  · exact Answer.lawful_ok h
  · exact Answer.lawful_ok (h.of_ledger (applyCabin_ledger ..))

omit h in
theorem changeMap_ledger (sl : Slot) (n : Fin 96) (r : CabinRange) (s : State) :
    (changeMap sl n r s).ledger = s.ledger := wakeWhere_ledger ..

theorem setCabinRange_lawful (sl : Slot) (p : Payload) : Answer.Lawful (setCabinRange sl p s) := by
  unfold setCabinRange
  dsimp only
  repeat' split
  any_goals exact Answer.lawful_error
  · exact Answer.lawful_ok h
  · exact Answer.lawful_ok (h.of_ledger (changeMap_ledger ..))

theorem clearCabinRange_lawful (sl : Slot) (p : Payload) : Answer.Lawful (clearCabinRange sl p s) := by
  unfold clearCabinRange
  dsimp only
  repeat' split
  · exact Answer.lawful_ok (h.of_ledger (changeMap_ledger ..))
  · exact Answer.lawful_ok h
  · exact Answer.lawful_error

/-! ### The slots (chapter 4) -/

theorem berth_lawful (p : Payload) : Answer.Lawful (berth p s) := by
  unfold berth
  dsimp only
  repeat' split
  any_goals exact Answer.lawful_error
  next sl _ _ hvacant hquotas =>
    have hnone := h.entryCount_vacant (not_not.mp hvacant)
    refine Answer.lawful_ok (State.manifestLaw.of_ledger ?_ (judgeQuota_ledger ..))
    exact h.modSlot (by rw [hnone]; exact Nat.zero_le _) (not_lt.mp hquotas) nofun

omit h in
theorem setSlotState_ledger {sl : Slot} {x : SlotState} {s : State} (hx : x ≠ .vacant)
    (hs : (s.slot sl).state ≠ .vacant) : (setSlotState sl x s).ledger = s.ledger :=
  modSlot_ledger rfl (iff_of_false hx hs)

theorem manifestFinal_lawful (sl : Slot) : Answer.Lawful (manifestFinal sl s) := by
  unfold manifestFinal
  split
  any_goals exact Answer.lawful_error
  · exact Answer.lawful_ok h
  · next hst => exact Answer.lawful_ok (h.of_ledger (setSlotState_ledger nofun (by rw [hst]; nofun)))

theorem manifestReopen_lawful (sl : Slot) : Answer.Lawful (manifestReopen sl s) := by
  unfold manifestReopen
  split
  any_goals exact Answer.lawful_error
  · exact Answer.lawful_ok h
  · next hst => exact Answer.lawful_ok (h.of_ledger (setSlotState_ledger nofun (by rw [hst]; nofun)))

theorem setQuota_lawful (p : Payload) : Answer.Lawful (setQuota p s) := by
  unfold setQuota
  dsimp only
  repeat' split
  any_goals exact Answer.lawful_error
  next sl _ _ hvacant hquotas huse =>
    refine Answer.lawful_ok (State.manifestLaw.of_ledger ?_ (judgeQuota_ledger ..))
    exact h.modSlot (not_lt.mp huse) (not_lt.mp hquotas) fun hv => absurd hv hvacant

theorem cutOff_lawful (l : LinkId) (p : Payload) : Answer.Lawful (cutOff l p s) := by
  unfold cutOff
  split
  · split
    case h_1 | h_2 | h_3 => exact Answer.lawful_error
    all_goals
      next hst =>
        exact Answer.lawful_ok (h.of_ledger ((reportCount_ledger ..).trans ((wakeWhere_ledger ..).trans
          (setSlotState_ledger nofun (by rw [hst]; nofun)))))
  · exact Answer.lawful_error

omit h in
theorem releaseChutes_ledger (sl : Slot) (s : State) : (releaseChutes sl s).ledger = s.ledger := by
  unfold releaseChutes
  dsimp only
  refine (foldl_keeps State.ledger _ (fun u c => ledger_of_sansChutes (judgeStandby_frame c u)) _ _).trans ?_
  split <;> rfl

theorem clearSlot_manifest (sl : Slot) : (clearSlot sl s).manifestLaw := by
  have hcleared : State.manifestLaw { s with
      pool := s.pool.filter fun e => e.slot != sl
      maps := s.maps.set sl (Vector.replicate 96 .reset) } := h.filterPool _
  have hnone : (s.pool.filter fun e => e.slot != sl).countP (fun e => e.slot = sl) = 0 :=
    List.countP_eq_zero.mpr fun e he => by simpa using (List.mem_filter.mp he).2
  have hquotas : ∀ k : Slot, (s.slot k).quota ≤ 8192 := by
    obtain ⟨-, -, -, hq⟩ := h
    intro k
    cases k with
    | a => exact (Nat.le_add_right ..).trans hq
    | b => exact (Nat.le_add_left ..).trans hq
  exact hcleared.modSlot (Nat.le_of_eq hnone) ((Nat.zero_add _).trans_le (hquotas _)) fun _ => hnone

theorem unberth_lawful (p : Payload) : Answer.Lawful (unberth p s) := by
  unfold unberth
  repeat' split
  any_goals exact Answer.lawful_error
  exact Answer.lawful_ok ((clearSlot_manifest h _).of_ledger (releaseChutes_ledger ..))

/-! ### The strays (chapter 8) -/

theorem resolveEntry_manifest {tag : Tag} {sl : Slot} {cabin : Nat} {id : BitVec 16} {t : State}
    (hdec : s.decodeSlot tag = some sl) (hslot : (s.slot sl).state ≠ .vacant)
    (ht : resolveEntry tag sl cabin id s = .ok t) : t.manifestLaw := by
  unfold resolveEntry at ht
  split at ht
  · next hnone =>
    split at ht
    · cases ht
    · next hquota =>
      obtain rfl := Except.ok.inj ht
      refine State.manifestLaw.of_ledger ?_ (judgeQuota_ledger ..)
      exact h.insertEntry hnone hdec hslot (not_le.mp hquota)
  · split at ht
    · cases ht
    all_goals exact Except.ok.inj ht ▸ h.of_ledger (modEntry_ledger s)

theorem resolveTag_lawful (id : BitVec 16) (tag : Tag) (cabin : Nat) :
    Answer.Lawful (resolveTag id tag cabin s) := by
  unfold resolveTag
  repeat' split
  any_goals exact Answer.lawful_error
  next sl hdec hstate _ t ht =>
    have hslot : (s.slot sl).state ≠ .vacant := fun hv => hstate (by rw [hv]; exact ⟨nofun, nofun⟩)
    exact Answer.lawful_ok ((resolveEntry_manifest h hdec hslot ht).of_ledger rfl)

theorem resolveStray_lawful (p : Payload) : Answer.Lawful (resolveStray p s) := by
  unfold resolveStray
  dsimp only
  repeat' split
  any_goals exact Answer.lawful_error
  exact resolveTag_lawful h _ _ _

theorem discardStray_lawful (p : Payload) : Answer.Lawful (discardStray p s) := by
  unfold discardStray
  dsimp only
  repeat' split
  any_goals exact Answer.lawful_error
  exact Answer.lawful_ok (h.of_ledger (removeStray_ledger ..))

end Requests

end Sys2Proof.Machine
end

section
/-! PROOF. Every step keeps the manifest law (O12). -/

namespace Sys2Proof.Machine

section Requests
variable {s : State} (h : s.manifestLaw)
include h

/-! ### The loop and the inductions (chapters 1 and 2) -/

omit h in
theorem cancelAll_ledger (want : Tray → Bool) (s : State) : (cancelAll want s).ledger = s.ledger :=
  ledger_of_sansSelection (cancelAll_frame ..)

theorem configureLoop_lawful (p : Payload) : Answer.Lawful (configureLoop p s) := by
  unfold configureLoop
  dsimp only
  repeat' split
  any_goals exact Answer.lawful_error
  · exact Answer.lawful_ok (h.of_ledger ((settleHolds_ledger ..).trans ((judgeLoopHold_ledger _).trans
      (foldl_keeps State.ledger _ (fun _ _ => rfl) allInds _))))
  · exact Answer.lawful_ok (h.of_ledger ((settleHolds_ledger ..).trans (judgeLoopHold_ledger _)))

theorem startLoop_lawful : Answer.Lawful (startLoop s) := by
  unfold startLoop
  split
  · exact Answer.lawful_ok (h.of_ledger (settleHolds_ledger ..))
  · exact Answer.lawful_error

theorem stopLoop_lawful : Answer.Lawful (stopLoop s) := by
  unfold stopLoop
  split
  · exact Answer.lawful_ok h
  · exact Answer.lawful_ok (h.of_ledger ((settleHolds_ledger ..).trans (cancelAll_ledger ..)))

omit h in
theorem raiseUntracked_ledger (v s : State) : (raiseUntracked v s).ledger = s.ledger :=
  ledger_of_sansNotices (raiseUntracked_frame v s)

omit h in
/-- R74: RESET LOOP keeps each entry's tag and slot. -/
theorem motionCleared_ledger (s : State) : s.motionCleared.ledger = s.ledger :=
  pool_map_ledger (s := s) (f := BagEntry.loopReset) fun e => by
    unfold BagEntry.loopReset
    split <;> exact ⟨rfl, rfl⟩

omit h in
theorem resetMotion_ledger (s : State) : (resetMotion s).ledger = s.ledger := by
  rw [resetMotion_def]
  exact (ledger_of_sansChutes (judgeStrayArmed_frame _)).trans ((reportZero_ledger ..).trans
    ((reportZero_ledger ..).trans ((raiseUntracked_ledger ..).trans (motionCleared_ledger s))))

theorem resetLoop_lawful : Answer.Lawful (resetLoop s) := by
  unfold resetLoop
  split
  · exact Answer.lawful_ok (h.of_ledger ((settleHolds_ledger ..).trans (resetMotion_ledger s)))
  · exact Answer.lawful_error

omit h in
theorem applyInduction_ledger (i : IndId) (offset n w : Nat) (enabled : Bool) (s : State) :
    (applyInduction i offset n w enabled s).ledger = s.ledger := by
  rw [applyInduction_eq]
  rfl

theorem configureInduction_lawful (p : Payload) : Answer.Lawful (configureInduction p s) := by
  unfold configureInduction
  dsimp only
  repeat' split
  any_goals exact Answer.lawful_error
  exact Answer.lawful_ok (h.of_ledger (applyInduction_ledger ..))

theorem inductionResume_lawful (p : Payload) : Answer.Lawful (inductionResume p s) := by
  unfold inductionResume
  repeat' split
  any_goals exact Answer.lawful_error
  exact Answer.lawful_ok (h.of_ledger (settleHolds_ledger ..))

/-! ### The chutes (chapter 6) -/

omit h in
theorem modChute_ledger (c : ChuteId) (f : Chute → Chute) (s : State) : (modChute c f s).ledger = s.ledger :=
  ledger_of_sansChutes (modChute_frame ..)

omit h in
theorem judgeStandby_ledger (c : ChuteId) (s : State) : (judgeStandby c s).ledger = s.ledger :=
  ledger_of_sansChutes (judgeStandby_frame ..)

omit h in
theorem judgeStrayArmed_ledger (s : State) : (judgeStrayArmed s).ledger = s.ledger :=
  ledger_of_sansChutes (judgeStrayArmed_frame s)

theorem configureChute_lawful (p : Payload) : Answer.Lawful (configureChute p s) := by
  unfold configureChute
  dsimp only
  repeat' split
  any_goals exact Answer.lawful_error
  exact Answer.lawful_ok (h.of_ledger ((judgeStrayArmed_ledger _).trans ((judgeStandby_ledger ..).trans
    ((raiseIf_ledger ..).trans (ledger_of_sansChutes (setChute_frame ..))))))

theorem assignChute_lawful (p : Payload) : Answer.Lawful (assignChute p s) := by
  unfold assignChute
  repeat' split
  any_goals exact Answer.lawful_error
  exact Answer.lawful_ok (h.of_ledger (modChute_ledger ..))

theorem releaseChute_lawful (p : Payload) : Answer.Lawful (releaseChute p s) := by
  unfold releaseChute
  dsimp only
  repeat' split
  any_goals exact Answer.lawful_error
  refine Answer.lawful_ok (h.of_ledger ?_)
  unfold dropGroup
  split
  · exact (judgeStandby_ledger ..).trans (modChute_ledger ..)
  · exact modChute_ledger ..

theorem swapBegin_lawful (p : Payload) : Answer.Lawful (swapBegin p s) := by
  unfold swapBegin
  repeat' split
  any_goals exact Answer.lawful_error
  exact Answer.lawful_ok (h.of_ledger
    ((foldl_keeps State.ledger _ (fun u t => passToSelection_ledger t u) _ _).trans
      ((foldl_keeps State.ledger _ (fun u t => ledger_of_sansSelection (cancelSelection_frame t u)) _ _).trans
        (modChute_ledger ..))))

theorem swapEnd_lawful (p : Payload) : Answer.Lawful (swapEnd p s) := by
  unfold swapEnd
  repeat' split
  any_goals exact Answer.lawful_error
  exact Answer.lawful_ok (h.of_ledger ((judgeStrayArmed_ledger _).trans
    ((ledger_of_sansChutes (judgeBlocked_frame _)).trans ((judgeStandby_ledger ..).trans (modChute_ledger ..)))))

theorem setBlockedInterval_lawful (p : Payload) : Answer.Lawful (setBlockedInterval p s) := by
  unfold setBlockedInterval
  dsimp only
  split
  · exact Answer.lawful_ok h
  · exact Answer.lawful_error

/-! ### The notices (chapter 9) -/

theorem ackGroup_lawful (l : LinkId) (p : Payload) : Answer.Lawful (ackGroup l p s) := by
  unfold ackGroup
  split
  · exact Answer.lawful_ok h
  · exact Answer.lawful_error

theorem clearNotice_lawful (l : LinkId) (p : Payload) : Answer.Lawful (clearNotice l p s) := by
  unfold clearNotice
  repeat' split
  any_goals exact Answer.lawful_error
  exact Answer.lawful_ok h

theorem setClearMode_lawful (l : LinkId) (p : Payload) : Answer.Lawful (setClearMode l p s) := by
  unfold setClearMode
  split
  · exact Answer.lawful_ok h
  · exact Answer.lawful_error

/-! ### The reads -/

omit h in
theorem onOwnSlot_lawful {l : LinkId} {f : Slot → State → Answer} (hf : ∀ sl, Answer.Lawful (f sl s)) :
    Answer.Lawful (onOwnSlot l f s) := by
  unfold onOwnSlot
  split
  · exact hf _
  · exact Answer.lawful_error

/-- The rule of every owning block keeps the manifest law. The reads return the state as it is. -/
theorem own_lawful (k : Command) (l : LinkId) (p : Payload) : Answer.Lawful (Command.own k l p s) := by
  cases k with
  | configureLoop => exact configureLoop_lawful h p
  | startLoop => exact startLoop_lawful h
  | stopLoop => exact stopLoop_lawful h
  | resetLoop => exact resetLoop_lawful h
  | configureInduction => exact configureInduction_lawful h p
  | inductionResume => exact inductionResume_lawful h p
  | setWindow => exact setWindow_lawful h p
  | clearWindow => exact clearWindow_lawful h p
  | addBag => exact onOwnSlot_lawful fun sl => addBag_lawful h sl p
  | withdrawBag => exact onOwnSlot_lawful fun sl => withdrawBag_lawful h sl p
  | changeCabin => exact onOwnSlot_lawful fun sl => changeCabin_lawful h sl p
  | setCabinRange => exact onOwnSlot_lawful fun sl => setCabinRange_lawful h sl p
  | clearCabinRange => exact onOwnSlot_lawful fun sl => clearCabinRange_lawful h sl p
  | berth => exact berth_lawful h p
  | manifestFinal => exact onOwnSlot_lawful (manifestFinal_lawful h)
  | manifestReopen => exact onOwnSlot_lawful (manifestReopen_lawful h)
  | setQuota => exact setQuota_lawful h p
  | cutOff => exact cutOff_lawful h l p
  | unberth => exact unberth_lawful h p
  | configureChute => exact configureChute_lawful h p
  | assignChute => exact assignChute_lawful h p
  | releaseChute => exact releaseChute_lawful h p
  | swapBegin => exact swapBegin_lawful h p
  | swapEnd => exact swapEnd_lawful h p
  | setBlockedInterval => exact setBlockedInterval_lawful h p
  | resolveStray => exact resolveStray_lawful h p
  | discardStray => exact discardStray_lawful h p
  | ackGroup => exact ackGroup_lawful h l p
  | clearNotice => exact clearNotice_lawful h l p
  | setClearMode => exact setClearMode_lawful h l p
  | fetchNotice | setNoticeEnables | readResetCause | clearResetCause => exact Answer.lawful_ok h
  | readTray | readInduction | readWindow | readBag | readCabinRange | shipStatus | readChute | readStrayList
    | readStray =>
    simp only [Command.own, readTray, readInduction, readWindow, readBag, readCabinRange, shipStatus, readChute,
      readStrayList, readStray]
    repeat' split
    all_goals first
      | exact Answer.lawful_ok h
      | exact Answer.lawful_error

theorem takeRequest_lawful (k : Command) (l : LinkId) (p : Payload) :
    Out.Lawful (.next (takeRequest k l p (Command.own k l p) s)) := by
  refine Out.lawful_next ?_
  have hdeliver : ∀ {t : State} (x : Port) (l : LinkId) (frame response : List Byte), t.manifestLaw →
      (deliver x l frame response t).manifestLaw := fun {t} x l frame response ht =>
    ht.of_ledger (by unfold deliver; split <;> rfl)
  unfold takeRequest
  dsimp only
  split
  · split
    · exact hdeliver _ _ _ _ h
    · next t reply ha =>
      refine hdeliver _ _ _ _ ?_
      unfold State.answerTo at ha
      split at ha
      · cases ha
      · exact own_lawful h k l p t reply ha
  · exact h

end Requests

section Steps
variable {s : State} (h : s.manifestLaw)
include h

/-! ### Pitch events and timed events -/

omit h in
theorem slipTrays_ledger (s : State) : (slipTrays s).ledger = s.ledger := by
  have hzero : ∀ (p : Prop) [Decidable p] (sl : Slot) (u : State),
      ((if p then reportZero sl else id) u).ledger = u.ledger := fun p _ sl u => by
    split
    · exact reportZero_ledger sl u
    · rfl
  have hunits : ∀ (u : State) (x : Tray), (slipUnits u x).ledger = u.ledger := fun u x => by
    unfold slipUnits
    split
    case h_1 | h_2 => exact ledger_of_sansChutes (returnCommitted_frame ..)
    all_goals rfl
  have hcleared : s.slipCleared.ledger = s.ledger :=
    (foldl_keeps State.ledger _ hunits _ _).trans
      (foldl_keeps State.ledger _ (fun _ _ => rfl) allInds { s with fireQueue := [] })
  rw [slipTrays_def]
  refine (raiseUntracked_ledger ..).trans ((raise_ledger ..).trans ?_)
  exact (hzero ..).trans ((hzero ..).trans
    ((foldl_keeps State.ledger _ (fun u b => loseBag_ledger b u) _ _).trans hcleared))

omit h in
theorem pitchEvent_ledger (order : List Nat) (home eye : Bool) (s : State) :
    (pitchEvent order home eye s).ledger = s.ledger := by
  unfold pitchEvent
  dsimp only
  split
  · rfl
  · have hpitched : (settleHolds s (pitchLoop s)).ledger = s.ledger := settleHolds_ledger ..
    split
    · exact (settleHolds_ledger ..).trans ((reconcile_ledger ..).trans ((slipTrays_ledger _).trans hpitched))
    · refine (pitchActs_ledger ..).trans ?_
      rw [homeSample_eq]
      exact hpitched

omit h in
theorem enterStalled_ledger (s : State) : (enterStalled s).ledger = s.ledger :=
  (settleHolds_ledger ..).trans ((raise_ledger ..).trans (cancelAll_ledger ..))

/-! ### The induction lines -/

omit h in
theorem completeFrame_ledger (i : IndId) (k : FrameKind) (data : List Byte) {take : State → State} (s : State)
    (htake : ∀ u : State, (take u).ledger = u.ledger) : (completeFrame i k data take s).ledger = s.ledger := by
  unfold completeFrame
  split
  · exact htake _
  · rfl

omit h in
theorem takeRead_ledger (i : IndId) (rec : ReadRecord) (s : State) : (takeRead i rec s).ledger = s.ledger := by
  obtain ⟨_, _, _, e⟩ := takeRead_lineOnly i rec s
  rw [e, queueRead_eq]
  rfl

omit h in
theorem receiveMark_ledger (i : IndId) (k : FrameKind) (s : State) : (receiveMark i k s).ledger = s.ledger := by
  unfold receiveMark
  split <;> rfl

omit h in
theorem receiveFault_ledger (i : IndId) (bad : CharFault) (s : State) : (receiveFault i bad s).ledger = s.ledger := by
  unfold receiveFault
  split
  · exact receiveMark_ledger ..
  · split <;> rfl
  · split <;> rfl

omit h in
theorem receiveBadData_ledger (i : IndId) (field : DataField) (value : Byte) (s : State) :
    (receiveBadData i field value s).ledger = s.ledger := by
  unfold receiveBadData
  split
  · split <;> rfl
  all_goals rfl

omit h in
theorem takeFrame_ledger (i : IndId) (k : FrameKind) (data : List Byte) (s : State) :
    (takeFrame i k data s).ledger = s.ledger := by
  have hsized : ∀ reading size, (takeSized i reading size s).ledger = s.ledger := fun reading size => by
    unfold takeSized
    split
    · exact takeRead_ledger ..
    · rfl
  unfold takeFrame
  split
  case h_1 | h_2 | h_3 => exact hsized ..
  all_goals exact takeAnswer_ledger ..

omit h in
theorem receiveData_ledger (i : IndId) (v : Byte) (s : State) : (receiveData i v s).ledger = s.ledger := by
  unfold receiveData
  split
  · split
    · rfl
    · split
      · exact takeFrame_ledger i _ _ (setReceiver i .idle s)
      · rfl
  all_goals rfl

omit h in
theorem whenEnabled_ledger {i : IndId} {f : State → State} {s : State} (hf : (f s).ledger = s.ledger) :
    (whenEnabled i f s).ledger = s.ledger := by
  unfold whenEnabled
  split
  · exact hf
  · rfl

omit h in
theorem receiveChar_ledger (i : IndId) (c : LineChar) (s : State) : (receiveChar i c s).ledger = s.ledger := by
  refine whenEnabled_ledger ?_
  split
  · exact receiveFault_ledger ..
  · split
    · split
      · exact receiveMark_ledger ..
      · exact receiveFault_ledger ..
    · exact receiveData_ledger ..

omit h in
theorem receiveChars_ledger (s : State) : (receiveChars s).ledger = s.ledger := by
  refine foldl_keeps State.ledger nextChar (fun u i => ?_) _ (drawOrder s)
  unfold nextChar
  split
  · exact receiveChar_ledger i _ { u with arriving := _ }
  · rfl

/-! ### Every command -/

/-- A reset leaves the ledger of the reset state; a command that is no request keeps the ledger it finds. -/
theorem exec_lawful (c : Instr) : Out.Lawful (exec c s) := by
  have hnext : ∀ {t : State}, t.ledger = s.ledger → Out.Lawful (.next t) := fun e => Out.lawful_next (h.of_ledger e)
  cases c with
  | powerOnReset | pinReset => exact Out.lawful_next (reset_manifestLaw.of_ledger rfl)
  | pitchEvent home check => exact hnext (pitchEvent_ledger _ home check (drawOrder s))
  | reservationRequest i => exact hnext (ledger_of_sansInds (requestReservation_frame ..))
  | launchWindowExpiry i => exact hnext (expireWindows_ledger ..)
  | stallTimeout => exact hnext (by split; exacts [enterStalled_ledger s, rfl])
  | fire => exact hnext (ledger_of_sansSelection (fireHead_frame s))
  | tiltPulseEnd c => exact hnext (by (repeat' split) <;> rfl)
  | confirmWindowEnd c =>
    exact hnext (by split; exacts [ledger_of_sansSelection (closeUnconfirmed_frame ..), rfl])
  | chuteEyeDetection c =>
    exact hnext (by split; exacts [rfl, (settleHolds_ledger ..).trans (confirmOldest_ledger ..)])
  | chuteJam c => exact hnext (by split; exacts [ledger_of_sansChutes (setJam_frame ..), rfl])
  | chuteEyeClear c => exact hnext (by split; exacts [ledger_of_sansChutes (clearEye_frame ..), rfl])
  | hallClockSecond => exact hnext (by split <;> rfl)
  | bagFrame i | multiFrame i | noreadFrame i => exact hnext (completeFrame_ledger i _ _ s (takeRead_ledger i _))
  | holdResend i => exact hnext (ledger_of_sansInds (resendHold_frame ..))
  | doneFrame i | failFrame i | lateAnswer i => exact hnext (completeFrame_ledger i _ _ s (takeAnswer_ledger i _ _))
  | inductionCharacterFault i bad => exact hnext (whenEnabled_ledger (receiveFault_ledger i bad s))
  | badDataCharacter i field value => exact hnext (whenEnabled_ledger (receiveBadData_ledger i field value s))
  | inductionSilenceTimeout i => exact hnext (by split <;> rfl)
  | transmitFrameSent i => exact hnext (by split <;> rfl)
  | inductionFrameOpened i kind => exact hnext (whenEnabled_ledger (receiveMark_ledger i kind s))
  | linkSelectAsserted l => exact hnext (by unfold assertSelect; dsimp only; split_ifs <;> rfl)
  | linkSelectReleased l | linkSelectReleasedEarly l => exact hnext (by unfold releaseSelect; split <;> rfl)
  | linkResponseSent l => exact hnext (by split <;> rfl)
  | resetNReleased => exact hnext rfl
  | badCommand l code p => exact hnext (by unfold deliver; split_ifs <;> rfl)
  | configureLoop l p | startLoop l p | stopLoop l p | resetLoop l p | readTray l p | configureInduction l p
    | inductionResume l p | readInduction l p | setWindow l p | clearWindow l p | readWindow l p | addBag l p
    | withdrawBag l p | changeCabin l p | readBag l p | setCabinRange l p | clearCabinRange l p
    | readCabinRange l p | berth l p | manifestFinal l p | manifestReopen l p | setQuota l p | cutOff l p
    | unberth l p | shipStatus l p | configureChute l p | assignChute l p | releaseChute l p | swapBegin l p
    | swapEnd l p | setBlockedInterval l p | readChute l p | resolveStray l p | discardStray l p
    | readStrayList l p | readStray l p | fetchNotice l p | ackGroup l p | clearNotice l p
    | setNoticeEnables l p | setClearMode l p | readResetCause l p | clearResetCause l p =>
    exact takeRequest_lawful h _ l p

theorem idle_lawful : (idle s).manifestLaw := by
  unfold idle
  split
  · exact h
  · split
    · exact h.of_ledger rfl
    · split
      · exact h.of_ledger (by rw [clockBytes_frame]; rfl)
      · split
        · exact h.of_ledger rfl
        · exact h.of_ledger (receiveChars_ledger s)

end Steps

/-- Settles O12. -/
theorem everyStepKeepsTheManifestLaw : Obligations.everyStepKeepsTheManifestLaw := by
  intro s t h ht
  unfold step at ht
  split at ht
  · exact Out.lawful_next (idle_lawful h) t ht
  · next c r _ => exact exec_lawful (s := { s with pending := r }) (h.of_ledger rfl) c t ht

end Sys2Proof.Machine
end

section
/-! PROOF. The decode and the cabin lookup (O22). -/

namespace Sys2Proof.Machine

/-- A range that contains a cabin (R69). -/
def CabinRange.Contains (r : CabinRange) (cabin : Nat) : Prop :=
  r.valid = true ∧ r.first ≤ cabin ∧ cabin ≤ r.last

variable {m : Vector CabinRange 96} {cabin : Nat}

theorem rangeWith_eq_some {r : CabinRange} (h : rangeWith m cabin = some r) :
    (∃ n, m.get n = r) ∧ r.Contains cabin := by
  have hmem := Vector.mem_toList_iff.mp (List.mem_of_find?_eq_some h)
  obtain ⟨i, hi, hr⟩ := Vector.mem_iff_getElem.mp hmem
  refine ⟨⟨⟨i, hi⟩, hr⟩, ?_⟩
  simpa [CabinRange.Contains, and_assoc] using List.find?_some h

theorem rangeWith_eq_none : rangeWith m cabin = none ↔ ∀ n, ¬ (m.get n).Contains cabin := by
  have hmem : ∀ n, m.get n ∈ m.toList := fun n => Vector.mem_toList_iff.mpr (Vector.getElem_mem n.isLt)
  constructor
  · intro h n ⟨hv, hlo, hhi⟩
    exact List.find?_eq_none.mp h _ (hmem n) (by simp [hv, hlo, hhi])
  · intro h
    cases hr : rangeWith m cabin with
    | none => rfl
    | some r =>
      obtain ⟨⟨n, rfl⟩, hc⟩ := rangeWith_eq_some hr
      exact absurd hc (h n)

/-- R69: the only range that contains the cabin. -/
theorem rangeWith_of_contains {n : Fin 96} (hn : (m.get n).Contains cabin)
    (hothers : ∀ k, k ≠ n → ¬ (m.get k).Contains cabin) : rangeWith m cabin = some (m.get n) := by
  cases hr : rangeWith m cabin with
  | none => exact absurd hn (rangeWith_eq_none.mp hr n)
  | some r =>
    obtain ⟨⟨k, rfl⟩, hc⟩ := rangeWith_eq_some hr
    by_cases hk : k = n
    · rw [hk]
    · exact absurd hc (hothers k hk)

/-- Settles O22. -/
theorem decodeTakesTheLongestMatch : Obligations.decodeTakesTheLongestMatch := by
  intro s tag sl cabin
  refine ⟨fun n => decode_of_longest, decode_eq_none, fun n hv hlo hhi hothers => ?_, ?_⟩
  · rw [State.lookup, rangeWith_of_contains ⟨hv, hlo, hhi⟩ hothers]
    rfl
  · rw [State.lookup, Option.map_eq_none_iff]
    exact rangeWith_eq_none

end Sys2Proof.Machine
end

section
/-! PROOF. SET WINDOW and CLEAR WINDOW (O44). -/

namespace Sys2Proof.Machine

variable {p : Payload} {s : State} {n : Fin 8}

theorem windowOf_val (n : Fin 8) : windowOf n.val = some n := windowOf_of_lt n.isLt

/-- R53 with its first two checks passed. -/
theorem setWindow_checked {target : Target} {digits : List Nat} (hn : u8 p 0 = n.val)
    (htarget : targetOf (u8 p 7) = some target) (hdigits : digits = (halfBytes p 2 5).take (u8 p 1))
    (hlo : 1 ≤ u8 p 1) (hhi : u8 p 1 ≤ 10) (hten : ∀ d ∈ digits, d ≤ 9)
    (hother : ∀ m, m ≠ n → (s.tagWindows.get m).digits ≠ digits) :
    setWindow p s =
      if s.windowInUse (s.tagWindows.get n) = true ∨
          ((s.otherWindows n).any fun w => s.windowServes w && prefixRelated digits w.digits) = true then
        .error .windowInUse
      else .ok (putWindow n { digits := digits, target := target } s, .ok) := by
  have hvalues : ¬ (u8 p 1 < 1 ∨ 10 < u8 p 1 ∨ (digits.all (· ≤ 9)) = false) := by
    rintro (hlt | hlt | hall)
    · omega
    · omega
    · rw [List.all_eq_true.mpr fun d hd => decide_eq_true (hten d hd)] at hall
      cases hall
  have hfree : ¬ ((s.otherWindows n).any fun w => w.digits = digits) = true := by
    intro h
    obtain ⟨w, hw, he⟩ := List.any_eq_true.mp h
    obtain ⟨m, hm, rfl⟩ := mem_otherWindows.mp hw
    exact hother m hm (of_decide_eq_true he)
  unfold setWindow
  dsimp only
  rw [hn, windowOf_val, htarget, ← hdigits]
  dsimp only
  rw [if_neg hvalues, if_neg hfree]

theorem clearWindow_eq (hn : u8 p 0 = n.val) :
    clearWindow p s =
      if s.windowInUse (s.tagWindows.get n) = true then .error .windowInUse
      else .ok (putWindow n { s.tagWindows.get n with digits := [] } s, .ok) := by
  unfold clearWindow
  rw [hn, windowOf_val]

/-- Settles O44. -/
theorem windowsAreWrittenAndCleared : Obligations.windowsAreWrittenAndCleared := by
  intro l p s n hn
  refine ⟨fun h target digits htarget hdigits hlo hhi hten hother => ?_, fun h =>
    ⟨fun huse => ?_, fun huse => ?_⟩⟩
  · have hset := setWindow_checked hn htarget hdigits hlo hhi hten hother
    refine ⟨fun huse => exec_refusedWith h (hset.trans (if_pos (.inl huse))), fun huse hserves => ?_⟩
    refine exec_answeredOk h (hset.trans (if_neg ?_))
    rintro (hold | hany)
    · rw [huse] at hold; cases hold
    · obtain ⟨w, hw, hrelated⟩ := List.any_eq_true.mp hany
      obtain ⟨m, hm, rfl⟩ := mem_otherWindows.mp hw
      obtain ⟨hs, hr⟩ := Bool.and_eq_true_iff.mp hrelated
      rw [hserves m hm hs] at hr
      cases hr
  · exact exec_refusedWith h ((clearWindow_eq hn).trans (if_pos huse))
  · exact exec_answeredOk h ((clearWindow_eq hn).trans (if_neg (by rw [huse]; nofun)))

end Sys2Proof.Machine
end

section
/-! SUPPORT. What judging a slot's QUOTA_LOW flag leaves (R81), and entries taken (R56). -/

namespace Sys2Proof.Machine

/-- R81: the armed flag of the slot alone moves. -/
theorem judgeQuota_slot (sl k : Slot) (s : State) :
    (judgeQuota sl s).slot k = { s.slot k with quotaArmed := ((judgeQuota sl s).slot k).quotaArmed } := by
  have hmod : ∀ armed, (modSlot sl (fun r => { r with quotaArmed := armed }) s).slot k =
      { s.slot k with quotaArmed := ((modSlot sl (fun r => { r with quotaArmed := armed }) s).slot k).quotaArmed } := by
    intro armed
    by_cases hk : k = sl
    · subst hk; rw [modSlot_slot]
    · rw [modSlot_slot_ne _ _ _ _ hk]
  unfold judgeQuota
  dsimp only
  split
  · exact hmod false
  · split
    · exact hmod true
    · rfl

theorem judgeQuota_eq (sl : Slot) (s : State) :
    judgeQuota sl s = { s with slots := (judgeQuota sl s).slots, notices := (judgeQuota sl s).notices } :=
  eq_of_sansSlots (judgeQuota_frame sl s)

theorem judgeQuota_state (sl k : Slot) (s : State) : ((judgeQuota sl s).slot k).state = (s.slot k).state := by
  rw [judgeQuota_slot]

theorem judgeQuota_call (sl k : Slot) (s : State) : ((judgeQuota sl s).slot k).call = (s.slot k).call := by
  rw [judgeQuota_slot]

theorem judgeQuota_entry (sl : Slot) (s : State) (tag : Tag) : (judgeQuota sl s).entry tag = s.entry tag := by
  rw [judgeQuota_eq]
  rfl

/-- An entry taken for a tag that had none. -/
theorem insertEntry_entry {e : BagEntry} {s : State} (hnone : s.entry e.tag = none) (tag : Tag) :
    ({ s with pool := insertEntry e s.pool } : State).entry tag = if tag = e.tag then some e else s.entry tag := by
  split
  · next h => subst h; exact findEntry_insertEntry_self e s.pool hnone
  · next h => exact findEntry_insertEntry_ne e h s.pool

theorem strayOfId_id {id : BitVec 16} {s : State} {x : StrayEntry} (h : s.strayOfId id = some x) : x.id = id := by
  simpa using List.find?_some h

end Sys2Proof.Machine
end

section
/-! PROOF. RESOLVE STRAY (O57). -/

namespace Sys2Proof.Machine

variable {s : State} {tag : Tag} {sl : Slot}

/-- R165 with its checks passed: the rule is R59's. -/
theorem resolveStray_checked {p : Payload} {x : StrayEntry} (hcabin : u16 p 2 ≠ 0)
    (hx : s.strayOfId (BitVec.ofNat 16 (u16 p 0)) = some x) (htag : x.tag = some tag) (hst : x.state ≠ .reinducted)
    (hdec : s.decodeSlot tag = some sl) (hsl : (s.slot sl).state = .loading ∨ (s.slot sl).state = .final) :
    resolveStray p s =
      match resolveEntry tag sl (u16 p 2) x.id s with
      | .error r => .error r
      | .ok s1 => .ok (markResolved x.id sl (u16 p 2) s1, .ok) := by
  have hstate : ¬ ((s.slot sl).state ≠ .loading ∧ (s.slot sl).state ≠ .final) := by tauto
  have hid := strayOfId_id hx
  unfold resolveStray
  dsimp only
  rw [if_neg hcabin, hx]
  dsimp only
  rw [htag]
  dsimp only
  rw [if_neg hst, resolveTag, hdec, ← hid]
  exact if_neg hstate

/-- R59: a new entry for the tag, STRAYED and linked. -/
def State.resolvedNew (s : State) (tag : Tag) (sl : Slot) (cabin : Nat) (id : BitVec 16) : State :=
  let e : BagEntry := ⟨tag, sl, cabin, .strayed, some id, decide ((s.slot sl).state = .final)⟩
  judgeQuota sl { s with pool := insertEntry e s.pool }

theorem resolveEntry_new (hnone : s.entry tag = none) (cabin : Nat) (id : BitVec 16) :
    resolveEntry tag sl cabin id s =
      if (s.slot sl).quota ≤ s.entryCount sl then .error .quotaFull
      else .ok (s.resolvedNew tag sl cabin id) := by
  unfold resolveEntry
  rw [hnone]
  rfl

theorem resolveEntry_onLoop {e : BagEntry} (he : s.entry tag = some e) (hon : e.status.isOnLoop = true) (cabin : Nat)
    (id : BitVec 16) : resolveEntry tag sl cabin id s = .error .state := by
  unfold resolveEntry
  rw [he]
  dsimp only
  split
  · rfl
  all_goals next hst => rw [hst] at hon; cases hon

/-- R59: the present entry of the tag made STRAYED and linked. -/
theorem resolveEntry_present {e : BagEntry} (he : s.entry tag = some e) (hon : e.status.isOnLoop = false) (cabin : Nat)
    (id : BitVec 16) : resolveEntry tag sl cabin id s =
      .ok (modEntry tag (fun e => { e with cabin := cabin, status := .strayed, strayLink := some id }) s) := by
  unfold resolveEntry
  rw [he]
  dsimp only
  split
  · next hst => rw [hst] at hon; cases hon
  all_goals rfl

/-- Settles O57. -/
theorem resolveStrayLinksTheEntry : Obligations.resolveStrayLinksTheEntry := by
  intro l p s x tag sl h hcabin hx htag hst hdec hsl
  have hown : Command.own .resolveStray l p s = _ := resolveStray_checked hcabin hx htag hst hdec hsl
  refine ⟨fun e he hon => ?_, fun hnone hquota => ?_, fun hcases => ?_⟩
  · rw [resolveEntry_onLoop he hon] at hown
    exact exec_refusedWith h hown
  · rw [resolveEntry_new hnone, if_pos hquota] at hown
    exact exec_refusedWith h hown
  · rcases hcases with ⟨hnone, hquota⟩ | ⟨e, he, hon⟩
    · rw [resolveEntry_new hnone, if_neg (not_le.mpr hquota)] at hown
      refine ⟨_, exec_answeredOk h hown, ?_, ?_, ?_, fun _ => ?_, fun e he => ?_⟩
      · rw [State.resolvedNew, judgeQuota_eq]
        rfl
      · rw [markResolved, State.resolvedNew, judgeQuota_call, judgeQuota_eq]
        rfl
      · intro other hother
        exact (judgeQuota_entry ..).trans ((insertEntry_entry hnone other).trans (if_neg hother))
      · exact (judgeQuota_entry ..).trans ((insertEntry_entry hnone tag).trans (if_pos rfl))
      · rw [hnone] at he; cases he
    · rw [resolveEntry_present he hon] at hown
      refine ⟨_, exec_answeredOk h hown, rfl, rfl, ?_, fun hnone => ?_, fun e' he' => ⟨rfl, rfl, ?_⟩⟩
      · intro other hother
        exact modEntry_entry_ne hother _ s
      · rw [hnone] at he; cases he
      · refine (modEntry_entry_self tag _ s).trans ?_
        rw [he', Option.map_some, ← (findEntry_some he').1]

end Sys2Proof.Machine
end

section
/-! SUPPORT. A classification and a wake, tray by tray: no other tray changes, what the pool's entries keep, and
the bag of a slot that is LOADING, FINAL or CLOSING (R96 to R100, R104). -/

namespace Sys2Proof.Machine

variable {t k : Nat} {s : State}

/-! ### What a classification leaves of the other trays and the pool -/

theorem tray_of_loop {s u : State} (h : u.loop = s.loop) (k : Nat) : u.tray k = s.tray k :=
  congrArg (fun l : Loop => l.trays.getD k .empty) h

theorem routeBag_tray_ne (h : k ≠ t) (sl : Slot) (e : BagEntry) (s : State) :
    (routeBag t sl e s).state.tray k = s.tray k :=
  (putTray_tray_ne t k _ _ h).trans
    (tray_of_loop (s := s) (reinductStray_loop e.tag sl (linkEntry e.tag s)) k)

theorem classifyEntry_tray_ne (h : k ≠ t) (tag : Tag) (sl : Slot) (e : BagEntry) (s : State) :
    (classifyEntry t tag sl e s).state.tray k = s.tray k := by
  unfold classifyEntry
  split
  case h_1 | h_2 => exact makeStray_tray_ne h _ (raise .duplicateTag (.slot sl) s)
  all_goals
    split
    · exact routeBag_tray_ne h ..
    · split
      · exact putTray_tray_ne t k _ s h
      · exact makeStray_tray_ne h ..

theorem classifyInSlot_tray_ne (h : k ≠ t) (tag : Tag) (sl : Slot) (s : State) :
    (classifyInSlot t tag sl s).state.tray k = s.tray k := by
  unfold classifyInSlot
  split
  · exact makeStray_tray_ne h ..
  · split
    · exact classifyEntry_tray_ne h ..
    · split
      · exact putTray_tray_ne t k _ s h
      · exact makeStray_tray_ne h ..

theorem classifyTag_tray_ne (h : k ≠ t) (tag : Tag) (s : State) :
    (classifyTag t tag s).state.tray k = s.tray k := by
  unfold classifyTag
  split
  · exact makeStray_tray_ne h ..
  · split
    case h_1 | h_2 => exact makeStray_tray_ne h ..
    all_goals exact (classifyInSlot_tray_ne h ..).trans (putTray_tray_ne t k _ s h)

theorem classify_tray_ne (h : k ≠ t) (s : State) : (classify t s).state.tray k = s.tray k := by
  unfold classify
  split
  · rfl
  · split
    · exact makeStray_tray_ne h ..
    · split
      · exact makeStray_tray_ne h ..
      · exact (classifyTag_tray_ne h ..).trans (putTray_tray_ne t k _ s h)

/-- The pool after a classification of a bag with a tag: as it was, or with the tag's entry linked. -/
def LinkedAtMost (tag : Tag) (s u : State) : Prop := u.pool = s.pool ∨ u.pool = (linkEntry tag s).pool

theorem reinductStray_pool (tag : Tag) (sl : Slot) (s : State) : (reinductStray tag sl s).state.pool = s.pool := by
  unfold reinductStray
  split <;> rfl

theorem classifyInSlot_linked (tag : Tag) (sl : Slot) (s : State) :
    LinkedAtMost tag s (classifyInSlot t tag sl s).state := by
  unfold classifyInSlot
  split
  · exact .inl (makeStray_pool ..)
  · split
    · next e he =>
      have htag : e.tag = tag := (findEntry_some (Option.filter_eq_some_iff.mp he).1).1
      unfold classifyEntry
      split
      case h_1 | h_2 => exact .inl (makeStray_pool ..)
      all_goals
        split
        · exact .inr (htag ▸ reinductStray_pool e.tag sl (linkEntry e.tag s))
        · split
          · exact .inl rfl
          · exact .inl (makeStray_pool ..)
    · split
      · exact .inl rfl
      · exact .inl (makeStray_pool ..)

/-- R93 to R101: a classification links at most the entry of the bag's own tag. -/
theorem classify_linked {b : BagRecord} {tag : Tag} (hb : (s.tray t).bag = some b) (htag : b.tag = some tag) :
    LinkedAtMost tag s (classify t s).state := by
  have hinSlot : ∀ (f g : BagRecord → BagRecord) sl,
      LinkedAtMost tag s (classifyInSlot t tag sl (modBag t g (modBag t f s))).state := fun f g sl =>
    classifyInSlot_linked tag sl (modBag t g (modBag t f s))
  unfold classify
  rw [hb]
  dsimp only
  rw [htag]
  dsimp only
  split
  · exact .inl (makeStray_pool ..)
  · unfold classifyTag
    split
    · exact .inl (makeStray_pool ..)
    · split
      case h_1 | h_2 => exact .inl (makeStray_pool ..)
      all_goals exact hinSlot ..

/-! ### What a wake leaves -/

/-- R104: what a wake of a WAITING tray passes to selection. -/
def wakeJudged (t : Nat) (s : State) : State :=
  raiseExpired t (writeNote t (classify t s).note (classify t s).state)

theorem wakeTray_waiting {b : BagRecord} (hb : s.tray t = .loaded b) (hw : b.isWaiting = true) :
    wakeTray t s = passToSelection t (wakeJudged t s) := by
  rw [wakeTray, hb]
  exact if_pos hw

/-- R104: a tray that is not WAITING is ignored. -/
theorem wakeTray_ignored (h : ∀ b, (s.tray t).bag = some b → b.isWaiting = false) : wakeTray t s = s := by
  unfold wakeTray
  split
  · next b hb => exact if_neg (by rw [h b (by rw [hb]; rfl)]; nofun)
  all_goals rfl

theorem wakeTray_cases (t : Nat) (s : State) :
    (∃ b, s.tray t = .loaded b ∧ b.isWaiting = true ∧ wakeTray t s = passToSelection t (wakeJudged t s)) ∨
      wakeTray t s = s := by
  by_cases h : ∃ b, s.tray t = .loaded b ∧ b.isWaiting = true
  · obtain ⟨b, hb, hw⟩ := h
    exact .inl ⟨b, hb, hw, wakeTray_waiting hb hw⟩
  · right
    unfold wakeTray
    split
    · next b hb => exact if_neg fun hw => h ⟨b, hb, hw⟩
    all_goals rfl

/-- Beyond the classification, what a wake judges reaches the inductions and the notices alone. -/
theorem wakeJudged_eq (t : Nat) (s : State) :
    wakeJudged t s = { (classify t s).state with
      inds := (wakeJudged t s).inds, notices := (wakeJudged t s).notices } := by
  unfold wakeJudged raiseExpired writeNote raiseIf
  split <;> split <;> try split
  all_goals rfl

theorem wakeJudged_loop (t : Nat) (s : State) : (wakeJudged t s).loop = (classify t s).state.loop := by
  rw [wakeJudged_eq]

theorem wakeJudged_pool (t : Nat) (s : State) : (wakeJudged t s).pool = (classify t s).state.pool := by
  rw [wakeJudged_eq]

theorem wakeJudged_strays (t : Nat) (s : State) : (wakeJudged t s).strays = (classify t s).state.strays := by
  rw [wakeJudged_eq]

theorem wakeJudged_chutes (t : Nat) (s : State) : (wakeJudged t s).chutes = s.chutes := by
  rw [wakeJudged_eq]
  exact (congrArg State.chutes (classify_frame t s) :)

theorem wakeJudged_maps (t : Nat) (s : State) : (wakeJudged t s).maps = s.maps := by
  rw [wakeJudged_eq]
  exact (congrArg State.maps (classify_frame t s) :)

theorem wakeJudged_tray (t k : Nat) (s : State) : (wakeJudged t s).tray k = (classify t s).state.tray k :=
  tray_of_loop (wakeJudged_loop t s) k

theorem wakeTray_tray_ne (h : k ≠ t) (s : State) : (wakeTray t s).tray k = s.tray k := by
  rcases wakeTray_cases t s with ⟨b, -, -, e⟩ | e
  · rw [e, passToSelection_tray_ne h, wakeJudged_tray, classify_tray_ne h]
  · rw [e]

/-- A wake keeps every bag's tag. -/
theorem wakeTray_tag {b : BagRecord} (hb : ((wakeTray t s).tray k).bag = some b) :
    ∃ b', (s.tray k).bag = some b' ∧ b.tag = b'.tag := by
  by_cases hk : k = t
  · subst hk
    rcases wakeTray_cases k s with ⟨b', hb', -, e⟩ | e
    · have hbag : (s.tray k).bag = some b' := by rw [hb']; rfl
      obtain ⟨c, hc, hsame⟩ := (classify_keepsBag k s).bag b' hbag
      rw [e, passToSelection_bag, wakeJudged_tray, hc] at hb
      obtain rfl := Option.some.inj hb
      exact ⟨b', hbag, hsame.tag⟩
    · rw [e] at hb
      exact ⟨b, hb, rfl⟩
  · rw [wakeTray_tray_ne hk] at hb
    exact ⟨b, hb, rfl⟩

/-- R104: a wake of a tray whose bag has a tag links at most the tag's entry. -/
theorem wakeTray_linked {tag : Tag} (h : ∀ b, (s.tray t).bag = some b → b.tag = some tag) :
    LinkedAtMost tag s (wakeTray t s) := by
  rcases wakeTray_cases t s with ⟨b, hb, -, e⟩ | e
  · have hbag : (s.tray t).bag = some b := by rw [hb]; rfl
    rw [LinkedAtMost, e, (passToSelection_keeps t _).2.1, wakeJudged_pool]
    exact classify_linked hbag (h b hbag)
  · exact .inl (by rw [e])

/-- Linking leaves the cabin of every entry, and the entries of the other tags as they are. -/
theorem LinkedAtMost.entries {tag : Tag} {s u : State} (h : LinkedAtMost tag s u) :
    (u.entry tag).map (·.cabin) = (s.entry tag).map (·.cabin) ∧
      ∀ other, other ≠ tag → u.entry other = s.entry other := by
  rcases h with h | h
  · exact ⟨by rw [State.entry, h]; rfl, fun other _ => by rw [State.entry, h]; rfl⟩
  · have hentry : ∀ x, u.entry x = (linkEntry tag s).entry x := fun x => by rw [State.entry, h]; rfl
    refine ⟨?_, fun other hother => (hentry other).trans (modEntry_entry_ne hother _ s)⟩
    rw [hentry, linkEntry, modEntry_entry_self, Option.map_map]
    refine Option.map_congr fun e _ => ?_
    dsimp only [Function.comp]
    split <;> rfl

theorem foldl_wakeTray_tray {ts : List Nat} (h : k ∉ ts) (s : State) :
    (ts.foldl (fun s t => wakeTray t s) s).tray k = s.tray k := by
  induction ts generalizing s with
  | nil => rfl
  | cons t r ih =>
    obtain ⟨hk, hr⟩ := not_or.mp (mt List.mem_cons.mpr h)
    exact (ih hr _).trans (wakeTray_tray_ne hk s)

theorem foldl_wakeTray_entries {tag : Tag} {ts : List Nat}
    (h : ∀ t ∈ ts, ∀ b, (s.tray t).bag = some b → b.tag = some tag) :
    ((ts.foldl (fun s t => wakeTray t s) s).entry tag).map (·.cabin) = (s.entry tag).map (·.cabin) ∧
      ∀ other, other ≠ tag → (ts.foldl (fun s t => wakeTray t s) s).entry other = s.entry other := by
  induction ts generalizing s with
  | nil => exact ⟨rfl, fun _ _ => rfl⟩
  | cons t r ih =>
    have hlinked := (wakeTray_linked (h t (List.mem_cons_self ..))).entries
    have hrest := ih (s := wakeTray t s) fun j hj b hb => by
      obtain ⟨b', hb', htag⟩ := wakeTray_tag hb
      exact htag.trans (h j (List.mem_cons_of_mem _ hj) b' hb')
    exact ⟨hrest.1.trans hlinked.1, fun other hother => (hrest.2 other hother).trans (hlinked.2 other hother)⟩

/-! ### The set a wake takes (R60) -/

/-- The trays a wake takes: the slot's WAITING trays that meet a test, from the highest offset to the lowest. -/
def State.wakeSet (s : State) (sl : Slot) (want : BagRecord → Bool) : List Nat :=
  s.traysByOffset.filter fun t =>
    match (s.tray t).bag with
    | some b => b.isWaiting && b.slot = some sl && want b
    | none => false

theorem wakeWhere_def (sl : Slot) (want : BagRecord → Bool) (s : State) :
    wakeWhere sl want s = (s.wakeSet sl want).foldl (fun s t => wakeTray t s) s := rfl

theorem mem_wakeSet {sl : Slot} {want : BagRecord → Bool} :
    k ∈ s.wakeSet sl want ↔ k < s.T ∧ ∃ b, (s.tray k).bag = some b ∧ b.isWaiting = true ∧ b.slot = some sl ∧
      want b = true := by
  rw [State.wakeSet, List.mem_filter, mem_traysByOffset]
  cases hb : (s.tray k).bag with
  | none => simp
  | some b => simp [and_assoc]

theorem wakeSet_nodup (s : State) (sl : Slot) (want : BagRecord → Bool) : (s.wakeSet sl want).Nodup :=
  (traysByOffset_nodup s).filter _

/-- A wake whose set is empty does nothing. -/
theorem wakeWhere_none {sl : Slot} {want : BagRecord → Bool}
    (h : ∀ k b, (s.tray k).bag = some b → b.isWaiting = true → b.slot = some sl → want b = false) :
    wakeWhere sl want s = s := by
  have hnil : s.wakeSet sl want = [] := List.eq_nil_iff_forall_not_mem.mpr fun k hk => by
    obtain ⟨-, b, hb, hw, hsl, hwant⟩ := mem_wakeSet.mp hk
    rw [h k b hb hw hsl] at hwant
    cases hwant
  rw [wakeWhere_def, hnil]
  rfl

/-- A wake that takes one tray. -/
theorem wakeWhere_single {sl : Slot} {want : BagRecord → Bool} {b : BagRecord} (hk : k < s.T)
    (hb : (s.tray k).bag = some b) (hw : b.isWaiting = true) (hsl : b.slot = some sl) (hwant : want b = true)
    (honly : ∀ j b', j ≠ k → (s.tray j).bag = some b' → b'.slot = some sl → want b' = false) :
    wakeWhere sl want s = wakeTray k s := by
  have hset : s.wakeSet sl want = [k] := by
    refine List.perm_singleton.mp ((List.perm_ext_iff_of_nodup (wakeSet_nodup s sl want)
      (List.nodup_singleton k)).mpr fun j => ?_)
    rw [mem_wakeSet, List.mem_singleton]
    constructor
    · rintro ⟨-, b', hb', -, hsl', hwant'⟩
      by_contra hj
      rw [honly j b' hj hb' hsl'] at hwant'
      cases hwant'
    · rintro rfl
      exact ⟨hk, b, hb, hw, hsl, hwant⟩
  rw [wakeWhere_def, hset]
  rfl

end Sys2Proof.Machine
end

section
/-! SUPPORT. A chosen chute is eligible (R119, R120), and so the chute a bag is SELECTED for. -/

namespace Sys2Proof.Machine

variable {s : State} {dest : Dest}

theorem chooseOne_eligible {size : SizeClass} {x : Nat} {best : Option Choice} {c : ChuteId}
    (hbest : ∀ k, best = some k → (s.chute k.chute).eligible dest (unitsOf size) = true) (k : Choice)
    (h : s.chooseOne dest size x best c = some k) : (s.chute k.chute).eligible dest (unitsOf size) = true := by
  unfold State.chooseOne at h
  split at h
  · next hc =>
    split at h
    · split at h
      · split at h
        · cases h; exact hc
        · exact hbest k h
      · cases h; exact hc
    · exact hbest k h
  · exact hbest k h

/-- R120: the chute chosen is eligible. -/
theorem choose_eligible {size : SizeClass} {x : Nat} {k : Choice} (h : s.choose dest size x = some k) :
    (s.chute k.chute).eligible dest (unitsOf size) = true := by
  have hfold : ∀ (cs : List ChuteId) (best : Option Choice),
      (∀ k, best = some k → (s.chute k.chute).eligible dest (unitsOf size) = true) →
      ∀ k, cs.foldl (s.chooseOne dest size x) best = some k →
        (s.chute k.chute).eligible dest (unitsOf size) = true := by
    intro cs
    induction cs with
    | nil => exact fun best hbest => hbest
    | cons c r ih => exact fun best hbest => ih _ (chooseOne_eligible hbest)
  exact hfold allChutes none nofun k h

theorem eligible_group {x : Chute} {g : Group} {units : Nat} (h : x.eligible (.group g) units = true) :
    x.group = some g := by
  unfold Chute.eligible at h
  simp_all

theorem eligible_stray {x : Chute} {units : Nat} (h : x.eligible .stray units = true) : x.cfg.role = .stray := by
  unfold Chute.eligible at h
  simp_all

/-- R120: a LOADED tray that selection takes is SELECTED for a chute eligible for its bag's destination, whose
committed units alone of all chute records change; or it and every chute stand. -/
theorem passToSelection_eligible {t : Nat} {b : BagRecord} (hb : s.tray t = .loaded b) :
    (∃ c a d dest, s.bagDest b = some dest ∧ (s.chute c).eligible dest (unitsOf b.size) = true ∧
      (passToSelection t s).tray t = .selected b c a d ∧
      ∀ k, k ≠ c → (passToSelection t s).chute k = s.chute k) ∨
    ((passToSelection t s).tray t = .loaded b ∧ (passToSelection t s).chutes = s.chutes) := by
  unfold passToSelection
  rw [hb]
  dsimp only
  cases hdest : s.bagDest b with
  | none => exact .inr ⟨hb, rfl⟩
  | some dest =>
    dsimp only
    cases hk : s.choose dest b.size (s.offsetOf t) with
    | none =>
      refine .inr ⟨?_, ?_⟩
      · dsimp only
        rw [noChute_eq]
        exact hb
      · dsimp only
        rw [noChute_eq]
    | some k =>
      refine .inl ⟨k.chute, k.arm, k.d, dest, rfl, choose_eligible hk, ?_, fun j hj => ?_⟩
      · exact (tray_of_loop (modChute_loop ..) t).trans (putTray_tray t _ s (tray_loaded_lt hb))
      · exact (modChute_chute ..).trans (if_neg hj)

/-- R120: a tray that is not LOADED is left as it is. -/
theorem passToSelection_of_not_loaded {t : Nat} (h : ∀ b, s.tray t ≠ .loaded b) : passToSelection t s = s := by
  unfold passToSelection
  split
  · next b hb => exact absurd hb (h b)
  all_goals rfl

/-- R103: a WAITING bag is not selected. -/
theorem passToSelection_waiting {t : Nat} {b : BagRecord} (hb : s.tray t = .loaded b) (hw : b.isWaiting = true) :
    passToSelection t s = s := by
  have hdest : s.bagDest b = none := by
    unfold BagRecord.isWaiting at hw
    unfold State.bagDest
    split at hw
    · next hcls => rw [hcls]
    all_goals cases hw
  unfold passToSelection
  rw [hb]
  dsimp only
  rw [hdest]

end Sys2Proof.Machine
end

section
/-! SUPPORT. The classification of a bag that has its slot, by the slot's state and the entry (R96 to R100). -/

namespace Sys2Proof.Machine

variable {t : Nat} {s : State} {b : BagRecord} {tag : Tag} {sl : Slot}

theorem putTray_self (t : Nat) (s : State) : putTray t (s.tray t) s = s := by
  unfold putTray
  rw [trays_set_self]

/-- A rewrite that leaves the tray's bag as it is. -/
theorem modBag_self {f : BagRecord → BagRecord} (hb : (s.tray t).bag = some b) (hf : f b = b) : modBag t f s = s := by
  have hx : (s.tray t).mapBag f = s.tray t := by
    cases hx : s.tray t <;> rw [hx] at hb <;> cases hb <;> simp [Tray.mapBag, hf]
  rw [modBag, hx, putTray_self]

/-- A bag with one tag that carries the slot the tag decodes to. -/
structure BagOf (tag : Tag) (sl : Slot) (b : BagRecord) : Prop where
  tag : b.tag = some tag
  tag2 : b.tag2 = none
  slot : b.slot = some sl

/-- R95, R96: such a bag of a slot in LOADING, FINAL or CLOSING is classified within its slot. -/
theorem classify_inSlot (hb : (s.tray t).bag = some b) (hbag : BagOf tag sl b) (hdec : s.decodeSlot tag = some sl)
    (hst : (s.slot sl).state = .loading ∨ (s.slot sl).state = .final ∨ (s.slot sl).state = .closing) :
    classify t s = classifyInSlot t tag sl s := by
  obtain ⟨htag, htag2, hslot⟩ := hbag
  have hread : modBag t (fun b => { b with tag2 := none }) s = s := modBag_self hb (by rw [← htag2])
  have htaken : modBag t (fun b => { b with slot := b.slot.or (some sl) }) s = s :=
    modBag_self hb (by cases b; subst hslot; rfl)
  have hsingle : ¬ (b.tag2.isSome = true ∧ b.tag2 ≠ some tag) := by rw [htag2]; exact fun h => nomatch h.1
  unfold classify
  rw [hb]
  dsimp only
  rw [htag]
  dsimp only
  rw [if_neg hsingle, hread, classifyTag, hdec]
  dsimp only
  rcases hst with h | h | h <;> rw [h] <;> dsimp only <;> rw [htaken]

/-- R96: the slot is CLOSING. -/
theorem classifyInSlot_closing (h : (s.slot sl).state = .closing) :
    classifyInSlot t tag sl s =
      makeStray t (tagged .shipClosed tag (some sl) ((s.entryIn sl tag).map (·.cabin))) s := if_pos h

/-- R97: the slot is FINAL and holds no entry for the tag. -/
theorem classifyInSlot_unknown (h : (s.slot sl).state = .final) (he : s.entryIn sl tag = none) :
    classifyInSlot t tag sl s = makeStray t (tagged .unknownTag tag (some sl) none) s := by
  unfold classifyInSlot
  rw [h, he]
  rfl

/-- R100: the entry's status lets the bag be routed, and its cabin is mapped. -/
theorem classifyInSlot_routed {e : BagEntry} {g : Group}
    (hst : (s.slot sl).state = .loading ∨ (s.slot sl).state = .final) (he : s.entryIn sl tag = some e)
    (hon : e.status.code ≠ 1) (hsorted : e.status.code ≠ 2) (hg : s.lookup sl e.cabin = some g) :
    classifyInSlot t tag sl s = routeBag t sl e s := by
  have hclosing : (s.slot sl).state ≠ .closing := by
    rcases hst with h | h <;> rw [h] <;> nofun
  unfold classifyInSlot
  rw [if_neg hclosing, he]
  dsimp only
  unfold classifyEntry
  rw [hg]
  split
  · next hs => rw [hs] at hon; exact absurd rfl hon
  · next hs => rw [hs] at hsorted; exact absurd rfl hsorted
  all_goals rfl

theorem entry_of_entryIn {e : BagEntry} (h : s.entryIn sl tag = some e) : s.entry tag = some e ∧ e.slot = sl := by
  obtain ⟨he, hsl⟩ := Option.filter_eq_some_iff.mp h
  exact ⟨he, of_decide_eq_true hsl⟩

/-- R58, R100: the entry of a routed bag is ON_LOOP. -/
theorem routeBag_entry {e : BagEntry} (he : s.entry tag = some e) (hon : e.status.code ≠ 1)
    (hsorted : e.status.code ≠ 2) (t : Nat) (sl : Slot) :
    (routeBag t sl e s).state.entry tag = some { e with status := .onLoop false } := by
  have htag : e.tag = tag := (findEntry_some he).1
  have hpool : (routeBag t sl e s).state.pool = (linkEntry e.tag s).pool :=
    reinductStray_pool e.tag sl (linkEntry e.tag s)
  have hlinked : (linkEntry e.tag s).entry tag = some { e with status := .onLoop false } := by
    subst htag
    rw [linkEntry, modEntry_entry_self, he, Option.map_some]
    split
    case h_4 hs => rw [hs] at hon; exact absurd rfl hon
    case h_5 hs => rw [hs] at hsorted; exact absurd rfl hsorted
    all_goals rfl
  exact (congrArg (findEntry tag) hpool).trans hlinked

/-- R100: the bag record of a routed bag. -/
theorem routeBag_tray (hb : s.tray t = .loaded b) (sl : Slot) (e : BagEntry) :
    ∃ id, (routeBag t sl e s).state.tray t =
      .loaded { b with cls := .routed, entryLink := some e.tag, strayId := id } := by
  refine ⟨(reinductStray e.tag sl (linkEntry e.tag s)).id, (modBag_tray ..).trans ?_⟩
  rw [tray_of_loop (s := s) (reinductStray_loop e.tag sl (linkEntry e.tag s)), hb]
  rfl

/-- R104: a WAITING tray woken where its slot holds an entry that lets it be routed. -/
theorem wakeTray_routed {e : BagEntry} {g : Group} (hb : s.tray t = .loaded b) (hw : b.isWaiting = true)
    (hbag : BagOf tag sl b) (hdec : s.decodeSlot tag = some sl)
    (hst : (s.slot sl).state = .loading ∨ (s.slot sl).state = .final) (he : s.entryIn sl tag = some e)
    (hon : e.status.code ≠ 1) (hsorted : e.status.code ≠ 2) (hg : s.lookup sl e.cabin = some g) :
    (wakeTray t s).entry tag = some { e with status := .onLoop false } ∧
      ∃ b', b'.cls = .routed ∧ b'.entryLink = some tag ∧
        ((wakeTray t s).tray t = .loaded b' ∨ ∃ c a d,
          (wakeTray t s).tray t = .selected b' c a d ∧ (s.chute c).group = some g) := by
  obtain ⟨hentry, -⟩ := entry_of_entryIn he
  have htag : e.tag = tag := (findEntry_some hentry).1
  have hcls : classify t s = routeBag t sl e s :=
    (classify_inSlot (by rw [hb]; rfl) hbag hdec (by tauto)).trans (classifyInSlot_routed hst he hon hsorted hg)
  have hje : (wakeJudged t s).entry tag = some { e with status := .onLoop false } := by
    rw [State.entry, wakeJudged_pool, hcls]
    exact routeBag_entry hentry hon hsorted t sl
  obtain ⟨id, hrouted⟩ := routeBag_tray hb sl e
  generalize hb' : ({ b with cls := .routed, entryLink := some e.tag, strayId := id } : BagRecord) = b' at hrouted
  have hjt : (wakeJudged t s).tray t = .loaded b' := by rw [wakeJudged_tray, hcls, hrouted]
  have hlink : b'.entryLink = some tag := by rw [← hb', ← htag]
  have hroutedCls : b'.cls = .routed := by rw [← hb']
  have hslot : b'.slot = some sl := by rw [← hb']; exact hbag.slot
  rw [wakeTray_waiting hb hw]
  refine ⟨?_, b', hroutedCls, hlink, ?_⟩
  · rw [State.entry, (passToSelection_keeps t _).2.1]
    exact hje
  · rcases passToSelection_eligible hjt with ⟨c, a, d, dest, hdest, hel, htray, -⟩ | ⟨htray, -⟩
    · refine .inr ⟨c, a, d, htray, ?_⟩
      have hgroup : (wakeJudged t s).bagDest b' = some (.group g) := by
        have hlookup : (wakeJudged t s).lookup sl e.cabin = some g := by
          rw [State.lookup, wakeJudged_maps]
          exact hg
        simp [State.bagDest, State.bagGroup, hroutedCls, hlink, hslot, hje, hlookup]
      rw [hgroup] at hdest
      obtain rfl := Option.some.inj hdest
      have hc : (wakeJudged t s).chute c = s.chute c := by rw [State.chute, wakeJudged_chutes]; rfl
      exact hc ▸ eligible_group hel
    · exact .inl htray

end Sys2Proof.Machine
end

section
/-! PROOF. Wakes (O49). -/

namespace Sys2Proof.Machine

variable {k : Nat} {s : State} {b : BagRecord} {tag : Tag} {sl : Slot}

/-- R104: a woken bag that its classification makes a stray carries it from the wake. -/
theorem wakeTray_stray {q : StrayRequest} (hb : s.tray k = .loaded b) (hw : b.isWaiting = true)
    (hcls : classify k s = makeStray k q s) :
    ((wakeTray k s).tray k).bag =
      some { b with cls := .stray q.cause, strayId := (recordStray q s).id, entryLink := none } := by
  rw [wakeTray_waiting hb hw, passToSelection_bag, wakeJudged_tray, hcls, makeStray_tray, hb]
  rfl

theorem writeNote_loop (t : Nat) (n : UndoNote) (s : State) : (writeNote t n s).loop = s.loop :=
  (congrArg State.loop (writeNote_frame t n s) :)

theorem raiseExpired_stray (hb : (s.tray k).bag = some b) (hcls : b.cls = .stray .unknownTag)
    (hslot : b.slot = some sl) : raiseExpired k s = raise .waitExpired (.slot sl) s := by
  unfold raiseExpired
  rw [hb]
  dsimp only
  rw [hcls, hslot]
  rfl

/-- R106: a bag that stops waiting as an UNKNOWN_TAG stray raises WAIT_EXPIRED. -/
theorem wakeTray_expired {q : StrayRequest} (hb : s.tray k = .loaded b) (hw : b.isWaiting = true)
    (hslot : b.slot = some sl) (hq : q.cause = .unknownTag) (hcls : classify k s = makeStray k q s) :
    (wakeTray k s).flagged (slotLink sl) .waitExpired = true := by
  rw [wakeTray_waiting hb hw]
  refine (passToSelection_moves k _).flags _ _ ?_
  have hbag : ((writeNote k (classify k s).note (classify k s).state).tray k).bag =
      some { b with cls := .stray q.cause, strayId := (recordStray q s).id, entryLink := none } := by
    rw [tray_of_loop (writeNote_loop ..), hcls, makeStray_tray, hb]
    rfl
  rw [wakeJudged, raiseExpired_stray hbag (by rw [hq]) hslot]
  exact flagged_raise .waitExpired (Scope.names_slotLink sl) _

/-- Settles O49. -/
theorem wakesReachWaitingTraysOnly : Obligations.wakesReachWaitingTraysOnly := by
  intro sl want s
  refine ⟨fun hp => ⟨s.wakeSet sl want, wakeWhere_def sl want s, fun k => mem_wakeSet,
    (traysByOffset_pairwise hp).filter _⟩, fun k => ⟨fun h => ?_, wakeTray_ignored, ?_⟩⟩
  · refine foldl_wakeTray_tray (fun hk => ?_) s
    obtain ⟨-, b, hb, hw, hsl, hwant⟩ := mem_wakeSet.mp hk
    rw [h b hb hw hsl] at hwant
    cases hwant
  · intro b tag hb hw hsl htag htag2 hdec
    have hbag : BagOf tag sl b := ⟨htag, htag2, hsl⟩
    have hin := classify_inSlot (t := k) (by rw [hb]; rfl) hbag hdec
    refine ⟨⟨_, wakeTray_waiting hb hw, wakeJudged_loop k s, wakeJudged_pool k s, wakeJudged_strays k s,
      wakeJudged_chutes k s⟩, fun hst => ?_, fun hst he => ?_, fun hst he => ?_,
      fun e g hst he hon hsorted hg => ?_⟩
    · have hcls := (hin (.inr (.inr hst))).trans (classifyInSlot_closing hst)
      exact ⟨_, wakeTray_stray hb hw hcls, rfl, hsl⟩
    · have hcls := (hin (.inr (.inl hst))).trans (classifyInSlot_unknown hst he)
      exact ⟨⟨_, wakeTray_stray hb hw hcls, rfl⟩, wakeTray_expired hb hw hsl rfl hcls⟩
    · have hjt : (wakeJudged k s).tray k =
          .loaded { b with cls := .waiting .unknownTag, strayId := none, entryLink := none } :=
        (wakeJudged_tray k k s).trans (classify_unknownTag hb htag htag2 hsl hdec hst he)
      rw [wakeTray_waiting hb hw, passToSelection_waiting hjt rfl]
      exact hjt
    · exact wakeTray_routed hb hw hbag hdec hst he hon hsorted hg

end Sys2Proof.Machine
end

section
/-! PROOF. SET CABIN RANGE and CLEAR CABIN RANGE (O48). -/

namespace Sys2Proof.Machine

variable {s u : State} {sl : Slot} {n : Fin 96} {r : CabinRange} {l : LinkId} {p : Payload}

/-- A vessel link's request acts on the link's own slot (R190). -/
theorem onOwnSlot_slotLink (sl : Slot) (f : Slot → State → Answer) (s : State) :
    onOwnSlot (slotLink sl) f s = f sl s := by
  rw [onOwnSlot, linkSlot_slotLink]

/-- One range written: it reads back, and every other range of either slot is as it was. -/
theorem maps_written (h : u.maps = s.maps.set sl ((s.maps.get sl).set n r)) :
    (u.maps.get sl).get n = r ∧ (∀ m, m ≠ n → (u.maps.get sl).get m = (s.maps.get sl).get m) ∧
      u.maps.get sl.other = s.maps.get sl.other := by
  have hother : sl.other ≠ sl := by cases sl <;> decide
  rw [h, PerSlot.get_set]
  refine ⟨Vector.getElem_set_self n.isLt, fun m hm => ?_, PerSlot.get_set_ne _ _ _ _ hother⟩
  exact Vector.getElem_set_ne n.isLt m.isLt (fun e => hm (Fin.ext e).symm)

/-- A range written as it already was writes nothing. -/
theorem maps_set_self (h : (s.maps.get sl).get n = r) : s.maps = s.maps.set sl ((s.maps.get sl).set n r) := by
  have hrow : (s.maps.get sl).set n r = s.maps.get sl := by
    rw [← h]
    exact Vector.set_getElem_self n.isLt
  rw [hrow]
  cases sl <;> rfl

theorem changeMap_maps (sl : Slot) (n : Fin 96) (r : CabinRange) (s : State) :
    (changeMap sl n r s).maps = s.maps.set sl ((s.maps.get sl).set n r) :=
  (congrArg State.maps (wakeWhere_frame sl (fun b => b.cls = .waiting .cabinUnmapped) (putRange sl n r s)) :)

/-- R71: a range changed wakes the trays that wait for one. -/
theorem changeMap_wakes (sl : Slot) (n : Fin 96) (r : CabinRange) (s : State) :
    changeMap sl n r s =
      wakeWhere sl (fun b => b.cls = .waiting .cabinUnmapped) { s with maps := (changeMap sl n r s).maps } := by
  rw [changeMap_maps]
  rfl

theorem changeMap_no_waiters
    (h : ∀ k b, (s.tray k).bag = some b → b.slot = some sl → b.cls ≠ .waiting .cabinUnmapped) :
    changeMap sl n r s = { s with maps := (changeMap sl n r s).maps } := by
  conv_lhs => rw [changeMap_wakes]
  exact wakeWhere_none fun k b hb _ hsl => decide_eq_false (h k b hb hsl)

/-- READ CABIN RANGE's bytes of a range that SET CABIN RANGE's seven bytes wrote. -/
theorem rangeBytes_request (hlen : p.length = 7) :
    rangeBytes ⟨true, u16 p 1, u16 p 3, u8 p 5, u8 p 6⟩ = 1 :: p.drop 1 := by
  have hu8 : ∀ i, b1 (u8 p i) = [p.getD i 0] := fun i => by simp [b1, u8]
  unfold rangeBytes
  rw [b2_u16, b2_u16, hu8, hu8]
  match p, hlen with
  | [_, _, _, _, _, _, _], _ => rfl

theorem length_of_admits {k : Command} (h : s.admits k l p = true) : p.length = Command.length k l := by
  have hnone := linkRefusal_of_admits h
  unfold State.linkRefusal at hnone
  by_contra hlen
  rw [if_pos hlen] at hnone
  cases hnone

/-- R70, R71 with the range's values in their bounds. -/
theorem setCabinRange_checked (hn : u8 p 0 = n.val) (hfirst : u16 p 1 ≠ 0) (hlast : u16 p 1 ≤ u16 p 3)
    (hdeck : 1 ≤ u8 p 5 ∧ u8 p 5 ≤ 20) (hzone : 1 ≤ u8 p 6 ∧ u8 p 6 ≤ 6) (s : State) :
    setCabinRange sl p s =
      if rangeOverlaps (s.maps.get sl) n (u16 p 1) (u16 p 3) = true then .error .overlap
      else .ok (if (s.maps.get sl).get n = ⟨true, u16 p 1, u16 p 3, u8 p 5, u8 p 6⟩ then s
        else changeMap sl n ⟨true, u16 p 1, u16 p 3, u8 p 5, u8 p 6⟩ s, .ok) := by
  have hvalues : ¬ (u16 p 1 = 0 ∨ u16 p 3 = 0 ∨ u8 p 5 < 1 ∨ 20 < u8 p 5 ∨ u8 p 6 < 1 ∨ 6 < u8 p 6) := by omega
  unfold setCabinRange
  rw [hn, rangeOf_of_lt n.isLt]
  dsimp only
  rw [if_neg hvalues, if_neg (not_lt.mpr hlast)]

theorem clearCabinRange_eq (hn : u8 p 0 = n.val) (s : State) :
    clearCabinRange sl p s =
      .ok (if ((s.maps.get sl).get n).valid = true then
        changeMap sl n { (s.maps.get sl).get n with valid := false } s else s, .ok) := by
  unfold clearCabinRange
  rw [hn, rangeOf_of_lt n.isLt]

/-- Settles O48. -/
theorem cabinRangesAreWritten : Obligations.cabinRangesAreWritten := by
  intro l p s sl n hl hn
  subst hl
  refine ⟨fun h hfirst hlast hd1 hd20 hz1 hz6 => ?_, fun h => ?_⟩
  · have hown := (onOwnSlot_slotLink sl (fun sl => setCabinRange sl p) s).trans
      (setCabinRange_checked hn hfirst hlast ⟨hd1, hd20⟩ ⟨hz1, hz6⟩ s)
    refine ⟨fun ho => exec_refusedWith h (hown.trans (if_pos ho)), fun ho => ?_⟩
    have hok := hown.trans (if_neg (by rw [ho]; nofun))
    have hbytes := rangeBytes_request (length_of_admits h)
    by_cases hsame : (s.maps.get sl).get n = ⟨true, u16 p 1, u16 p 3, u8 p 5, u8 p 6⟩
    · obtain ⟨hget, hothers, hslot⟩ := maps_written (maps_set_self hsame)
      exact ⟨s, exec_answeredOk h (by rw [if_pos hsame] at hok; exact hok), hget,
        (congrArg rangeBytes hget).trans hbytes, hothers, hslot, fun _ => rfl,
        fun hne => absurd hsame hne, fun _ => rfl⟩
    · obtain ⟨hget, hothers, hslot⟩ := maps_written (changeMap_maps sl n _ s)
      exact ⟨_, exec_answeredOk h (by rw [if_neg hsame] at hok; exact hok), hget,
        (congrArg rangeBytes hget).trans hbytes, hothers, hslot, fun he => absurd he hsame,
        fun _ => changeMap_wakes .., changeMap_no_waiters⟩
  · have hok := (onOwnSlot_slotLink sl (fun sl => clearCabinRange sl p) s).trans (clearCabinRange_eq hn s)
    by_cases hvalid : ((s.maps.get sl).get n).valid = true
    · obtain ⟨hget, hothers, hslot⟩ := maps_written
        (changeMap_maps sl n { (s.maps.get sl).get n with valid := false } s)
      exact ⟨_, exec_answeredOk h (by rw [if_pos hvalid] at hok; exact hok), hget, hothers, hslot,
        fun hne => absurd (hvalid.symm.trans hne) nofun, fun _ => changeMap_wakes .., changeMap_no_waiters⟩
    · have hcleared : (s.maps.get sl).get n = { (s.maps.get sl).get n with valid := false } := by
        rw [← Bool.eq_false_of_not_eq_true hvalid]
      exact ⟨s, exec_answeredOk h (by rw [if_neg hvalid] at hok; exact hok), hcleared, fun _ _ => rfl, rfl,
        fun _ => rfl, fun hv => absurd hv hvalid, fun _ => rfl⟩

end Sys2Proof.Machine
end

section
/-! SUPPORT. The tray that links an entry (R58), and a selection taken back (R13). -/

namespace Sys2Proof.Machine

variable {s : State} {k : Nat} {b : BagRecord} {tag : Tag} {c : ChuteId} {a d : Nat}

/-- R58: the one tray that links an entry. -/
theorem trayOfEntry_only (hk : k < s.T) (hb : (s.tray k).bag = some b) (hlink : b.entryLink = some tag)
    (honly : ∀ j b', (s.tray j).bag = some b' → b'.entryLink = some tag → j = k) :
    s.trayOfEntry tag = some k := by
  have hget : ∀ j (hj : j < s.loop.trays.length), s.loop.trays[j] = s.tray j := fun j hj =>
    (List.getD_eq_getElem _ _ hj).symm
  refine List.findIdx?_eq_some_iff_getElem.mpr ⟨hk, ?_, fun j hj => ?_⟩
  · rw [hget k hk, hb]
    exact decide_eq_true hlink
  · rw [hget j (hj.trans hk), decide_eq_true_eq]
    intro hl
    obtain ⟨b', hb', hl'⟩ := Option.bind_eq_some_iff.mp hl
    exact absurd (honly j b' hb' hl') (Nat.ne_of_lt hj)

/-- R13: a SELECTED or ARMED tray whose selection is taken back is LOADED. -/
theorem cancelSelection_loaded (h : s.tray k = .armed b c ∨ ∃ a d, s.tray k = .selected b c a d) :
    (cancelSelection k s).tray k = .loaded b := by
  rw [cancelSelection_tray, if_pos rfl]
  rcases h with h | ⟨a, d, h⟩ <;> rw [h] <;> rfl

theorem cancelSelection_fireQueue (h : s.tray k = .armed b c) :
    (cancelSelection k s).fireQueue = s.fireQueue.filter fun r => r.tray ≠ k := by
  have hcancel : (cancelSelection k s).fireQueue = (removeFire k s).fireQueue := by
    unfold cancelSelection
    rw [h]
    exact (congrArg State.fireQueue (modChute_frame c _ (removeFire k s)) :)
  rw [hcancel]
  exact List.filter_congr fun r _ => by rw [bne, beq_eq_decide, decide_not]

theorem cancelSelection_pool (t : Nat) (s : State) : (cancelSelection t s).pool = s.pool :=
  (congrArg State.pool (cancelSelection_frame t s) :)

theorem passToSelection_pool (t : Nat) (s : State) : (passToSelection t s).pool = s.pool :=
  (passToSelection_keeps t s).2.1

/-- An entry rewritten, its tag kept. -/
theorem modEntry_entry_some {e : BagEntry} {f : BagEntry → BagEntry} (he : s.entry tag = some e)
    (hf : (f e).tag = e.tag) : (modEntry tag f s).entry tag = some (f e) := by
  rw [modEntry_entry_self, he, Option.map_some, ← (findEntry_some he).1, ← hf]

end Sys2Proof.Machine
end

section
/-! PROOF. CHANGE CABIN (O47). -/

namespace Sys2Proof.Machine

variable {s : State} {k : Nat} {b : BagRecord} {tag : Tag} {sl : Slot} {e : BagEntry} {cabin : Nat}

/-- R66: the entry of a tag with its cabin set. -/
def setCabin (tag : Tag) (cabin : Nat) (s : State) : State := modEntry tag (fun e => { e with cabin := cabin }) s

theorem setCabin_entry (he : s.entry tag = some e) (cabin : Nat) :
    (setCabin tag cabin s).entry tag = some { e with cabin := cabin } := modEntry_entry_some he rfl

theorem setCabin_entry_ne {other : Tag} (h : other ≠ tag) (cabin : Nat) (s : State) :
    (setCabin tag cabin s).entry other = s.entry other := modEntry_entry_ne h _ s

/-! ### The rule by the entry's status (R66) -/

/-- The trays an entry not yet on the loop wakes: those waiting with its tag for a cabin range. -/
def awaitsRange (tag : Tag) (b : BagRecord) : Bool := b.cls = .waiting .cabinUnmapped && b.tag = some tag

theorem applyCabin_absent (htag : e.tag = tag) (hon : e.status.isOnLoop = false) (hsort : e.status.sort = none) :
    applyCabin sl e cabin s = wakeWhere sl (awaitsRange tag) (setCabin tag cabin s) := by
  subst htag
  unfold applyCabin
  cases hst : e.status <;> rw [hst] at hon hsort
  case onLoop => cases hon
  case sorted => cases hsort
  all_goals rfl

theorem applyCabin_onLoop (htag : e.tag = tag) (hon : e.status.isOnLoop = true) :
    applyCabin sl e cabin s = changeOnLoop tag (setCabin tag cabin s) := by
  subst htag
  unfold applyCabin
  cases hst : e.status <;> rw [hst] at hon
  case onLoop => rfl
  all_goals cases hon

theorem applyCabin_sorted (htag : e.tag = tag) {c : ChuteId} {t : BitVec 32} {m : Bool}
    (hst : e.status = .sorted c t m) :
    applyCabin sl e cabin s = raise .cabinChangedAfterSort (.slot sl) (setCabin tag cabin s) := by
  subst htag
  unfold applyCabin
  rw [hst]
  rfl

/-! ### The ON_LOOP entry's tray (R67) -/

theorem changeOnLoop_fired (ht : s.trayOfEntry tag = some k)
    (h : ∃ c g, s.tray k = .fired b c g ∨ s.tray k = .unconfirmed b c g) :
    changeOnLoop tag s = modEntry tag (fun e => { e with status := .onLoop true }) s := by
  unfold changeOnLoop
  rw [ht]
  obtain ⟨c, g, h | h⟩ := h <;> dsimp only <;> rw [h]

theorem changeOnLoop_loaded (ht : s.trayOfEntry tag = some k) (h : s.tray k = .loaded b) : changeOnLoop tag s = s := by
  unfold changeOnLoop
  rw [ht]
  dsimp only
  rw [h]

theorem changeOnLoop_selected {c : ChuteId} (ht : s.trayOfEntry tag = some k)
    (h : s.tray k = .armed b c ∨ ∃ a d, s.tray k = .selected b c a d) :
    changeOnLoop tag s = passToSelection k (cancelSelection k s) := by
  unfold changeOnLoop
  rw [ht]
  rcases h with h | ⟨a, d, h⟩ <;> dsimp only <;> rw [h]

/-- R67: what follows on the loop leaves the entry's cabin. -/
theorem changeOnLoop_cabin (tag : Tag) (s : State) :
    ((changeOnLoop tag s).entry tag).map (·.cabin) = (s.entry tag).map (·.cabin) := by
  unfold changeOnLoop
  split
  · next t _ =>
    split
    case h_1 | h_2 =>
      rw [State.entry, passToSelection_pool, cancelSelection_pool]
      rfl
    case h_3 | h_4 =>
      rw [modEntry_entry_self, Option.map_map]
      rfl
    all_goals rfl
  · rfl

/-- R66, R67: the entry has the new cabin, whatever follows. -/
theorem applyCabin_cabin (he : s.entry tag = some e) (sl : Slot) (cabin : Nat) :
    ((applyCabin sl e cabin s).entry tag).map (·.cabin) = some cabin := by
  have htag : e.tag = tag := (findEntry_some he).1
  have hset : ((setCabin tag cabin s).entry tag).map (·.cabin) = some cabin := by rw [setCabin_entry he]; rfl
  by_cases hon : e.status.isOnLoop = true
  · rw [applyCabin_onLoop htag hon, changeOnLoop_cabin, hset]
  · cases hsort : e.status.sort with
    | none =>
      rw [applyCabin_absent htag (Bool.eq_false_of_not_eq_true hon) hsort, wakeWhere_def]
      refine (foldl_wakeTray_entries fun t ht b hb => ?_).1.trans hset
      obtain ⟨-, b', hb', -, -, hwant⟩ := mem_wakeSet.mp ht
      obtain rfl := Option.some.inj (hb.symm.trans hb')
      exact of_decide_eq_true (Bool.and_eq_true_iff.mp hwant).2
    | some x =>
      cases hst : e.status <;> rw [hst] at hsort
      case sorted => rw [applyCabin_sorted htag hst]; exact hset
      all_goals cases hsort

/-- R66 with the checks passed. -/
theorem changeCabin_checked {p : Payload} (hp : tagAt p 0 = some tag) (hcabin : u16 p 5 ≠ 0)
    (he : s.entryIn sl tag = some e) :
    changeCabin sl p s = .ok (if u16 p 5 = e.cabin then s else applyCabin sl e (u16 p 5) s, .ok) := by
  unfold changeCabin
  rw [hp]
  dsimp only
  rw [if_neg hcabin, he]

/-- Settles O47. -/
theorem changeCabinFollowsTheStatus : Obligations.changeCabinFollowsTheStatus := by
  intro l p s sl tag e hl h hp hcabin hein
  subst hl
  obtain ⟨he, -⟩ := entry_of_entryIn hein
  have htag : e.tag = tag := (findEntry_some he).1
  have hown := (onOwnSlot_slotLink sl (fun sl => changeCabin sl p) s).trans (changeCabin_checked hp hcabin hein)
  refine ⟨fun hsame => ?_, fun hne => ?_⟩
  · exact exec_answeredOk h (by rw [if_pos hsame] at hown; exact hown)
  rw [if_neg hne] at hown
  refine ⟨_, exec_answeredOk h hown, applyCabin_cabin he sl _, ?_, ?_, ?_, ?_⟩
  · intro c t m hst
    rw [applyCabin_sorted htag hst]
    exact ⟨rfl, setCabin_entry he _, flagged_raise .cabinChangedAfterSort (Scope.names_slotLink sl) _⟩
  · exact fun hon hsort => applyCabin_absent htag hon hsort
  · intro hon hsort hnone
    have hwake : applyCabin sl e (u16 p 5) s = setCabin tag (u16 p 5) s :=
      (applyCabin_absent htag hon hsort).trans (wakeWhere_none fun k b hb _ hsl =>
        Bool.eq_false_of_not_eq_true fun hwant => by
          obtain ⟨hcls, hbtag⟩ := Bool.and_eq_true_iff.mp hwant
          exact hnone k b hb hsl (of_decide_eq_true hbtag) (of_decide_eq_true hcls))
    rw [hwake]
    exact ⟨rfl, setCabin_entry he _, fun other hother => setCabin_entry_ne hother _ s⟩
  · intro k b hon hk hb hlink honly
    have htray : (setCabin tag (u16 p 5) s).trayOfEntry tag = some k := trayOfEntry_only (s := s) hk hb hlink honly
    rw [applyCabin_onLoop htag hon]
    refine ⟨fun c g hx => ?_, fun hx => ?_, fun c hx => ?_⟩
    · rw [changeOnLoop_fired htray ⟨c, g, hx⟩]
      exact ⟨rfl, modEntry_entry_some (setCabin_entry he _) rfl⟩
    · rw [changeOnLoop_loaded htray hx]
      exact ⟨rfl, setCabin_entry he _⟩
    · rw [changeOnLoop_selected htray hx]
      refine ⟨passToSelection_tray (cancelSelection_loaded hx), fun r hr harmed => ?_, fun j hj => ?_⟩
      · rw [(passToSelection_keeps k _).2.2, cancelSelection_fireQueue (s := setCabin tag (u16 p 5) s) harmed] at hr
        exact of_decide_eq_true (List.mem_filter.mp hr).2
      · rw [passToSelection_tray_ne hj, cancelSelection_tray, if_neg hj]
        rfl

end Sys2Proof.Machine
end

section
/-! PROOF. WITHDRAW BAG (O46). -/

namespace Sys2Proof.Machine

variable {s : State} {k : Nat} {b : BagRecord} {tag : Tag} {sl : Slot}

/-! ### Selections given up and taken by a stray (R13, R120) -/

/-- R13: the chute selected takes the bag's units back from committed; no other chute changes. -/
theorem cancelSelection_chute {c : ChuteId} (h : s.tray k = .armed b c ∨ ∃ a d, s.tray k = .selected b c a d)
    (j : ChuteId) : (cancelSelection k s).chute j =
      if j = c then { s.chute c with committed := (s.chute c).committed - unitsOf b.size } else s.chute j := by
  unfold cancelSelection
  rcases h with h | ⟨a, d, h⟩ <;> rw [h]
  · exact modChute_chute c j _ (removeFire k s)
  · exact modChute_chute c j _ s

/-- R14: a tray with no selection is left as it is. -/
theorem cancelSelection_of_unselected
    (h : (∃ c g, s.tray k = .fired b c g) ∨ (∃ c g, s.tray k = .unconfirmed b c g) ∨ s.tray k = .loaded b) :
    cancelSelection k s = s := by
  unfold cancelSelection
  rcases h with ⟨c, g, h⟩ | ⟨c, g, h⟩ | h <;> rw [h]

/-- R120: a stray bag on a LOADED tray is selected for a STRAY chute or for none. -/
theorem passToSelection_stray {cause : StrayCause} (hb : s.tray k = .loaded b) (hcls : b.cls = .stray cause) :
    ((passToSelection k s).tray k = .loaded b ∨
      ∃ c a d, (passToSelection k s).tray k = .selected b c a d ∧
        ((passToSelection k s).chute c).cfg.role = .stray) ∧
    ∀ c, (s.chute c).cfg.role ≠ .stray → (passToSelection k s).chute c = s.chute c := by
  rcases passToSelection_eligible hb with ⟨c, a, d, dest, hdest, hel, htray, hothers⟩ | ⟨htray, hchutes⟩
  · have hstray : dest = .stray := by
      unfold State.bagDest at hdest
      rw [hcls] at hdest
      exact (Option.some.inj hdest).symm
    subst hstray
    have hrole := eligible_stray hel
    obtain ⟨n, hn⟩ := passToSelection_chute k s c
    exact ⟨.inr ⟨c, a, d, htray, by rw [hn]; exact hrole⟩, fun j hj => hothers j fun e => hj (e ▸ hrole)⟩
  · exact ⟨.inl htray, fun c _ => by rw [State.chute, hchutes]; rfl⟩

/-! ### The entry's tray (R65) -/

/-- R65 step 1: the state with the bag of the entry's tray a WITHDRAWN stray. -/
def State.strayed (s : State) (k : Nat) (b : BagRecord) : State := (makeStray k (s.strayOfBag b .withdrawn) s).state

/-- The bag record of a WITHDRAWN stray. -/
def State.withdrawnBag (s : State) (b : BagRecord) : BagRecord :=
  { b with
    cls := .stray .withdrawn, entryLink := none
    strayId := (recordStray (s.strayOfBag b .withdrawn) s).id }

theorem strayed_tray (h : (s.tray k).bag = some b) :
    (s.strayed k b).tray k = (s.tray k).mapBag fun _ => s.withdrawnBag b := by
  refine (makeStray_tray ..).trans ?_
  cases hx : s.tray k <;> rw [hx] at h <;> cases h <;> rfl

theorem strayed_chute (k : Nat) (b : BagRecord) (s : State) (c : ChuteId) : (s.strayed k b).chute c = s.chute c := by
  rw [State.chute, State.strayed, makeStray_chutes]
  rfl

theorem strayed_fireQueue (k : Nat) (b : BagRecord) (s : State) : (s.strayed k b).fireQueue = s.fireQueue :=
  (congrArg State.fireQueue (makeStray_frame k (s.strayOfBag b .withdrawn) s) :)

theorem withdrawOnLoop_eq (ht : s.trayOfEntry tag = some k) (hb : (s.tray k).bag = some b) :
    withdrawOnLoop tag s = passToSelection k (cancelSelection k (s.strayed k b)) := by
  unfold withdrawOnLoop
  rw [ht]
  dsimp only
  rw [hb]
  rfl

theorem withdrawOnLoop_pool (tag : Tag) (s : State) : (withdrawOnLoop tag s).pool = s.pool := by
  unfold withdrawOnLoop
  split
  · split
    · rw [passToSelection_pool, cancelSelection_pool, makeStray_pool]
    · rfl
  · rfl

theorem withdrawOnLoop_tray_ne {j : Nat} (ht : s.trayOfEntry tag = some k) (hb : (s.tray k).bag = some b)
    (hj : j ≠ k) :
    (withdrawOnLoop tag s).tray j = s.tray j := by
  rw [withdrawOnLoop_eq ht hb, passToSelection_tray_ne hj, cancelSelection_tray, if_neg hj]
  exact makeStray_tray_ne hj ..

/-- R65: a SELECTED or ARMED tray gives its selection up and is selected for a STRAY chute or for none. -/
theorem withdrawOnLoop_selected {c : ChuteId} (ht : s.trayOfEntry tag = some k)
    (h : s.tray k = .armed b c ∨ ∃ a d, s.tray k = .selected b c a d) :
    ((withdrawOnLoop tag s).tray k = .loaded (s.withdrawnBag b) ∨ ∃ c a d,
      (withdrawOnLoop tag s).tray k = .selected (s.withdrawnBag b) c a d ∧
        ((withdrawOnLoop tag s).chute c).cfg.role = .stray) ∧
    ((s.chute c).cfg.role ≠ .stray →
      ((withdrawOnLoop tag s).chute c).committed = (s.chute c).committed - unitsOf b.size) ∧
    (s.tray k = .armed b c → (withdrawOnLoop tag s).fireQueue = s.fireQueue.filter fun r => r.tray ≠ k) := by
  have hb : (s.tray k).bag = some b := by rcases h with h | ⟨a, d, h⟩ <;> rw [h] <;> rfl
  have hm : (s.strayed k b).tray k = .armed (s.withdrawnBag b) c ∨
      ∃ a d, (s.strayed k b).tray k = .selected (s.withdrawnBag b) c a d := by
    rw [strayed_tray hb]
    rcases h with h | ⟨a, d, h⟩ <;> rw [h]
    · exact .inl rfl
    · exact .inr ⟨a, d, rfl⟩
  have hchute : (cancelSelection k (s.strayed k b)).chute c =
      { s.chute c with committed := (s.chute c).committed - unitsOf b.size } := by
    rw [cancelSelection_chute hm, if_pos rfl, strayed_chute]
    rfl
  obtain ⟨htray, hkept⟩ := passToSelection_stray (cancelSelection_loaded hm) rfl
  rw [withdrawOnLoop_eq ht hb]
  refine ⟨htray, fun hrole => ?_, fun harmed => ?_⟩
  · rw [hkept c (by rw [hchute]; exact hrole), hchute]
  · have hmarmed : (s.strayed k b).tray k = .armed (s.withdrawnBag b) c := by rw [strayed_tray hb, harmed]; rfl
    rw [(passToSelection_keeps k _).2.2, cancelSelection_fireQueue hmarmed, strayed_fireQueue]

/-- R65: a LOADED tray is passed to selection as a stray's. -/
theorem withdrawOnLoop_loaded (ht : s.trayOfEntry tag = some k) (h : s.tray k = .loaded b) :
    (withdrawOnLoop tag s).tray k = .loaded (s.withdrawnBag b) ∨ ∃ c a d,
      (withdrawOnLoop tag s).tray k = .selected (s.withdrawnBag b) c a d ∧
        ((withdrawOnLoop tag s).chute c).cfg.role = .stray := by
  have hb : (s.tray k).bag = some b := by rw [h]; rfl
  have hm : (s.strayed k b).tray k = .loaded (s.withdrawnBag b) := by rw [strayed_tray hb, h]; rfl
  rw [withdrawOnLoop_eq ht hb, cancelSelection_of_unselected (.inr (.inr hm))]
  exact (passToSelection_stray hm rfl).1

/-- R65: a FIRED or UNCONFIRMED tray stands, its bag a stray. -/
theorem withdrawOnLoop_fired (ht : s.trayOfEntry tag = some k)
    (h : (∃ c g, s.tray k = .fired b c g) ∨ ∃ c g, s.tray k = .unconfirmed b c g) :
    (withdrawOnLoop tag s).tray k = (s.tray k).mapBag fun _ => s.withdrawnBag b := by
  have hb : (s.tray k).bag = some b := by rcases h with ⟨c, g, h⟩ | ⟨c, g, h⟩ <;> rw [h] <;> rfl
  have hm := strayed_tray hb
  have hfired : (∃ c g, (s.strayed k b).tray k = .fired (s.withdrawnBag b) c g) ∨
      ∃ c g, (s.strayed k b).tray k = .unconfirmed (s.withdrawnBag b) c g := by
    rw [hm]
    rcases h with ⟨c, g, h⟩ | ⟨c, g, h⟩ <;> rw [h]
    · exact .inl ⟨c, g, rfl⟩
    · exact .inr ⟨c, g, rfl⟩
  have hnot : ∀ x, (s.strayed k b).tray k ≠ .loaded x := by
    intro x hx
    rcases hfired with ⟨c, g, h⟩ | ⟨c, g, h⟩ <;> rw [h] at hx <;> cases hx
  have hcancel : cancelSelection k (s.strayed k b) = s.strayed k b :=
    cancelSelection_of_unselected (b := s.withdrawnBag b) (hfired.imp_right Or.inl)
  rw [withdrawOnLoop_eq ht hb, hcancel, passToSelection_of_not_loaded hnot, hm]

/-! ### The entry (R64) -/

theorem returnEntry_eq (sl : Slot) (tag : Tag) (s : State) :
    returnEntry sl tag s = { s with
      pool := (returnEntry sl tag s).pool, slots := (returnEntry sl tag s).slots
      notices := (returnEntry sl tag s).notices } := by
  unfold returnEntry
  rw [judgeQuota_eq]

theorem returnEntry_entry (sl : Slot) (tag : Tag) (s : State) :
    (returnEntry sl tag s).entry tag = none ∧
      ∀ other, other ≠ tag → (returnEntry sl tag s).entry other = s.entry other :=
  ⟨(judgeQuota_entry ..).trans (findEntry_eraseEntry_self tag s.pool),
    fun _ hother => (judgeQuota_entry ..).trans (findEntry_eraseEntry_ne hother s.pool)⟩

theorem withdrawBag_of_entry {p : Payload} {e : BagEntry} (hp : tagAt p 0 = some tag) (he : s.entryIn sl tag = some e) :
    withdrawBag sl p s = .ok (returnEntry sl tag (if e.status.isOnLoop then withdrawOnLoop tag s else s), .ok) := by
  unfold withdrawBag
  rw [hp]
  dsimp only
  rw [he]

theorem withdrawBag_notFound {p : Payload} (hp : tagAt p 0 = some tag) (he : s.entryIn sl tag = none) :
    withdrawBag sl p s = .error .notFound := by
  unfold withdrawBag
  rw [hp]
  dsimp only
  rw [he]

/-- Settles O46. -/
theorem withdrawBagReturnsTheEntry : Obligations.withdrawBagReturnsTheEntry := by
  intro l p s sl tag hl h hp
  subst hl
  have hslot := onOwnSlot_slotLink sl (fun sl => withdrawBag sl p) s
  refine ⟨fun hnone => exec_refusedWith h (hslot.trans (withdrawBag_notFound hp hnone)), fun e he => ?_⟩
  have hown := hslot.trans (withdrawBag_of_entry hp he)
  by_cases hon : e.status.isOnLoop = true
  · rw [if_pos hon] at hown
    obtain ⟨hself, hothers⟩ := returnEntry_entry sl tag (withdrawOnLoop tag s)
    have hkeeps := returnEntry_eq sl tag (withdrawOnLoop tag s)
    have htray : ∀ j, (returnEntry sl tag (withdrawOnLoop tag s)).tray j = (withdrawOnLoop tag s).tray j :=
      tray_of_loop (by rw [hkeeps])
    have hchute : ∀ c, (returnEntry sl tag (withdrawOnLoop tag s)).chute c = (withdrawOnLoop tag s).chute c :=
      fun c => by rw [hkeeps]; rfl
    have hqueue : (returnEntry sl tag (withdrawOnLoop tag s)).fireQueue = (withdrawOnLoop tag s).fireQueue := by
      rw [hkeeps]
    refine ⟨_, exec_answeredOk h hown, hself, fun other hother => ?_, fun hoff => ?_,
      fun k b _ hk hb hlink honly => ?_⟩
    · rw [hothers other hother, State.entry, withdrawOnLoop_pool]
      rfl
    · rw [hoff] at hon
      cases hon
    have ht := trayOfEntry_only hk hb hlink honly
    simp only [htray, hchute, hqueue]
    refine ⟨s.withdrawnBag b, rfl, fun hx => ?_, fun c a d hx => ?_, fun c hx => ?_, fun c g hx => ?_,
      fun c g hx => ?_, fun j hj => withdrawOnLoop_tray_ne ht hb hj⟩
    · rcases hx with hx | ⟨c, a, d, hx⟩ | ⟨c, hx⟩
      · exact withdrawOnLoop_loaded ht hx
      · exact (withdrawOnLoop_selected ht (.inr ⟨a, d, hx⟩)).1
      · exact (withdrawOnLoop_selected ht (.inl hx)).1
    · exact (withdrawOnLoop_selected ht (.inr ⟨a, d, hx⟩)).2.1
    · obtain ⟨-, hcommitted, hfires⟩ := withdrawOnLoop_selected ht (.inl hx)
      exact ⟨hfires hx, hcommitted⟩
    · rw [withdrawOnLoop_fired ht (.inl ⟨c, g, hx⟩), hx]
      rfl
    · rw [withdrawOnLoop_fired ht (.inr ⟨c, g, hx⟩), hx]
      rfl
  · rw [if_neg hon] at hown
    obtain ⟨hself, hothers⟩ := returnEntry_entry sl tag s
    exact ⟨_, exec_answeredOk h hown, hself, hothers, fun _ => returnEntry_eq sl tag s,
      fun k b hon' => absurd hon' hon⟩

end Sys2Proof.Machine
end

section
/-! PROOF. ADD BAG (O45). -/

namespace Sys2Proof.Machine

variable {s : State} {k : Nat} {b : BagRecord} {tag : Tag} {sl : Slot} {cabin : Nat}

/-! ### The entry taken (R62) -/

theorem addEntry_eq (sl : Slot) (tag : Tag) (cabin : Nat) (s : State) :
    addEntry sl tag cabin s = { s with
      pool := insertEntry (s.newEntry sl tag cabin) s.pool
      slots := (addEntry sl tag cabin s).slots, notices := (addEntry sl tag cabin s).notices } := by
  unfold addEntry raiseIf
  rw [judgeQuota_eq]
  split <;> rfl

theorem addEntry_slots (sl : Slot) (tag : Tag) (cabin : Nat) (s : State) :
    (addEntry sl tag cabin s).slots =
      (judgeQuota sl { s with pool := insertEntry (s.newEntry sl tag cabin) s.pool }).slots :=
  (congrArg State.slots (raiseIf_frame ..) :)

theorem addEntry_slot (sl j : Slot) (tag : Tag) (cabin : Nat) (s : State) :
    ((addEntry sl tag cabin s).slot j).state = (s.slot j).state ∧
      ((addEntry sl tag cabin s).slot j).call = (s.slot j).call := by
  rw [State.slot, addEntry_slots]
  exact ⟨judgeQuota_state .., judgeQuota_call ..⟩

theorem addEntry_entry (hnone : s.entry tag = none) (sl : Slot) (cabin : Nat) (x : Tag) :
    (addEntry sl tag cabin s).entry x = if x = tag then some (s.newEntry sl tag cabin) else s.entry x := by
  rw [addEntry_eq]
  exact insertEntry_entry (e := s.newEntry sl tag cabin) hnone x

/-- R161: the stray an add matches is the one recorded before it. -/
theorem addEntry_matchable (sl : Slot) (tag : Tag) (cabin : Nat) (s : State) :
    (addEntry sl tag cabin s).matchable sl tag = s.matchable sl tag := by
  have hof : (addEntry sl tag cabin s).strayOfTag tag = s.strayOfTag tag := by rw [addEntry_eq]; rfl
  have hrecorded : ∀ e, (addEntry sl tag cabin s).recordedFor sl e = s.recordedFor sl e := fun e => by
    rw [State.recordedFor, (addEntry_slot sl sl tag cabin s).2]
    rfl
  simp only [State.matchable, hof, hrecorded]

/-! ### The stray matched (R161) -/

theorem matchStray_none (h : s.matchable sl tag = none) : matchStray sl tag s = s := by
  unfold matchStray
  rw [h]

theorem matchStray_some {x : StrayEntry} (h : s.matchable sl tag = some x) :
    matchStray sl tag s = raise .strayMatched (.slot sl)
      (modEntry tag (fun b => { b with status := .strayed, strayLink := some x.id })
        (modStray x.id (fun e => { e with state := .matched }) s)) := by
  unfold matchStray
  rw [h]

theorem matchStray_eq (sl : Slot) (tag : Tag) (s : State) :
    matchStray sl tag s = { s with
      pool := (matchStray sl tag s).pool, strays := (matchStray sl tag s).strays
      notices := (matchStray sl tag s).notices } := by
  unfold matchStray
  split <;> rfl

/-! ### The add as a whole, before it wakes (R62, R161) -/

/-- R62, R161: the state after an add, before the trays waiting for the tag are woken. -/
def State.added (s : State) (sl : Slot) (tag : Tag) (cabin : Nat) : State :=
  matchStray sl tag (addEntry sl tag cabin s)

theorem added_eq (sl : Slot) (tag : Tag) (cabin : Nat) (s : State) :
    s.added sl tag cabin = { s with
      pool := (s.added sl tag cabin).pool, slots := (s.added sl tag cabin).slots
      strays := (s.added sl tag cabin).strays, notices := (s.added sl tag cabin).notices } := by
  rw [State.added, matchStray_eq, addEntry_eq]

theorem added_tray (sl : Slot) (tag : Tag) (cabin : Nat) (s : State) (j : Nat) :
    (s.added sl tag cabin).tray j = s.tray j :=
  tray_of_loop (s := s) (u := s.added sl tag cabin) (by rw [added_eq]) j

theorem added_state (sl j : Slot) (tag : Tag) (cabin : Nat) (s : State) :
    ((s.added sl tag cabin).slot j).state = (s.slot j).state := by
  rw [State.added, matchStray_eq]
  exact (addEntry_slot sl j tag cabin s).1

theorem added_count (sl : Slot) (tag : Tag) (cabin : Nat) (s : State) :
    (s.added sl tag cabin).entryCount sl = s.entryCount sl + 1 := by
  have hledger : (s.added sl tag cabin).ledger =
      ({ s with pool := insertEntry (s.newEntry sl tag cabin) s.pool } : State).ledger :=
    (matchStray_ledger ..).trans ((raiseIf_ledger ..).trans (judgeQuota_ledger ..))
  rw [← ledger_count, hledger, ledger_count, entryCount_insertEntry]
  exact congrArg _ (if_pos rfl)

theorem added_late (h : (s.slot sl).state = .final) (tag : Tag) (cabin : Nat) :
    (s.added sl tag cabin).flagged (slotLink sl) .lateAdd = true := by
  refine (matchStray_moves ..).flags _ _ ?_
  unfold addEntry
  rw [decide_eq_true h]
  exact flagged_raise .lateAdd (Scope.names_slotLink sl) _

theorem added_entry_ne {other : Tag} (hnone : s.entry tag = none) (hother : other ≠ tag) (sl : Slot) (cabin : Nat) :
    (s.added sl tag cabin).entry other = s.entry other := by
  have hadd : (addEntry sl tag cabin s).entry other = s.entry other :=
    (addEntry_entry hnone sl cabin other).trans (if_neg hother)
  cases hx : (addEntry sl tag cabin s).matchable sl tag with
  | none => rw [State.added, matchStray_none hx, hadd]
  | some x =>
    rw [State.added, matchStray_some hx]
    exact (modEntry_entry_ne hother _ (modStray x.id _ (addEntry sl tag cabin s))).trans hadd

/-- R62: no stray matches. -/
theorem added_unmatched (hnone : s.entry tag = none) (hx : s.matchable sl tag = none) (cabin : Nat) :
    (s.added sl tag cabin).strays = s.strays ∧
      (s.added sl tag cabin).entry tag = some (s.newEntry sl tag cabin) := by
  rw [State.added, matchStray_none ((addEntry_matchable ..).trans hx)]
  exact ⟨by rw [addEntry_eq], (addEntry_entry hnone sl cabin tag).trans (if_pos rfl)⟩

/-- R161: a stray matches. -/
theorem added_matched {x : StrayEntry} (hnone : s.entry tag = none) (hx : s.matchable sl tag = some x) (cabin : Nat) :
    (s.added sl tag cabin).entry tag =
        some { s.newEntry sl tag cabin with status := .strayed, strayLink := some x.id } ∧
      (s.added sl tag cabin).strays =
        (s.strays.map fun y => if y.id = x.id then { y with state := .matched } else y) ∧
      (s.added sl tag cabin).flagged (slotLink sl) .strayMatched = true := by
  have hadd : (addEntry sl tag cabin s).entry tag = some (s.newEntry sl tag cabin) :=
    (addEntry_entry hnone sl cabin tag).trans (if_pos rfl)
  rw [State.added, matchStray_some ((addEntry_matchable ..).trans hx)]
  refine ⟨modEntry_entry_some (s := modStray x.id _ (addEntry sl tag cabin s)) hadd rfl, ?_,
    flagged_raise .strayMatched (Scope.names_slotLink sl) _⟩
  rw [addEntry_eq]
  rfl

/-- R62, R161: the tag's entry lets a bag be routed. -/
theorem added_entry (hnone : s.entry tag = none) (sl : Slot) (cabin : Nat) :
    ∃ e, (s.added sl tag cabin).entryIn sl tag = some e ∧ e.cabin = cabin ∧ e.status.code ≠ 1 ∧
      e.status.code ≠ 2 := by
  have hin : ∀ e, (s.added sl tag cabin).entry tag = some e → e.slot = sl →
      (s.added sl tag cabin).entryIn sl tag = some e := fun e he hsl => by
    rw [State.entryIn, he]
    exact Option.filter_some_pos (decide_eq_true hsl)
  cases hx : s.matchable sl tag with
  | none => exact ⟨_, hin _ (added_unmatched hnone hx cabin).2 rfl, rfl, nofun, nofun⟩
  | some x => exact ⟨_, hin _ (added_matched hnone hx cabin).1 rfl, rfl, nofun, nofun⟩

/-! ### The trays woken (R63) -/

/-- The trays an add wakes: those waiting with its tag for an entry. -/
def awaitsEntry (tag : Tag) (b : BagRecord) : Bool := b.cls = .waiting .unknownTag && b.tag = some tag

theorem awaitsEntry_eq_false (h : b.tag = some tag → b.cls ≠ .waiting .unknownTag) : awaitsEntry tag b = false :=
  Bool.eq_false_of_not_eq_true fun hwant => by
    obtain ⟨hcls, htag⟩ := Bool.and_eq_true_iff.mp hwant
    exact h (of_decide_eq_true htag) (of_decide_eq_true hcls)

theorem addBag_checked {p : Payload} (hp : tagAt p 0 = some tag) (hcabin : u16 p 5 ≠ 0)
    (hst : (s.slot sl).state = .loading ∨ (s.slot sl).state = .final) (hdec : s.decodeSlot tag = some sl) :
    addBag sl p s =
      if (s.entry tag).isSome = true then .error .exists_
      else if (s.slot sl).quota ≤ s.entryCount sl then .error .quotaFull
      else .ok (wakeWhere sl (awaitsEntry tag) (s.added sl tag (u16 p 5)), .ok) := by
  have hstate : ¬ ((s.slot sl).state ≠ .loading ∧ (s.slot sl).state ≠ .final) := by tauto
  have hsame : ¬ sl ≠ sl := fun h => h rfl
  unfold addBag
  rw [hp]
  dsimp only
  rw [if_neg hcabin, if_neg hstate, hdec]
  dsimp only
  rw [if_neg hsame]
  rfl

/-- R63: an add's wake leaves the entries of the other tags. -/
theorem wakeWhere_awaitsEntry_entry {other : Tag} (hother : other ≠ tag) (sl : Slot) (s : State) :
    (wakeWhere sl (awaitsEntry tag) s).entry other = s.entry other := by
  rw [wakeWhere_def]
  refine (foldl_wakeTray_entries fun t ht b hb => ?_).2 other hother
  obtain ⟨-, b', hb', -, -, hwant⟩ := mem_wakeSet.mp ht
  obtain rfl := Option.some.inj (hb.symm.trans hb')
  exact of_decide_eq_true (Bool.and_eq_true_iff.mp hwant).2

/-- R63: the one tray that waits for the tag is classified again, and routed where its cabin is mapped. -/
theorem addBag_routes (hnone : s.entry tag = none)
    (hst : (s.slot sl).state = .loading ∨ (s.slot sl).state = .final) (hdec : s.decodeSlot tag = some sl)
    (hk : k < s.T) (hb : s.tray k = .loaded b) (hcls : b.cls = .waiting .unknownTag) (hbag : BagOf tag sl b)
    (honly : ∀ j b', j ≠ k → (s.tray j).bag = some b' → b'.slot = some sl → b'.tag = some tag →
      b'.cls ≠ .waiting .unknownTag) (hmapped : (s.lookup sl cabin).isSome = true) :
    ∃ b', ((wakeWhere sl (awaitsEntry tag) (s.added sl tag cabin)).tray k).bag = some b' ∧ b'.cls = .routed ∧
      b'.entryLink = some tag ∧
      ((wakeWhere sl (awaitsEntry tag) (s.added sl tag cabin)).entry tag).map (·.status) = some (.onLoop false) := by
  obtain ⟨e, he, hcabin, hon, hsorted⟩ := added_entry hnone sl cabin
  obtain ⟨g, hg⟩ := Option.isSome_iff_exists.mp hmapped
  have hv := added_eq sl tag cabin s
  have hbk : (s.added sl tag cabin).tray k = .loaded b := (added_tray ..).trans hb
  have hw : b.isWaiting = true := by rw [BagRecord.isWaiting, hcls]
  have hwant : awaitsEntry tag b = true :=
    Bool.and_eq_true_iff.mpr ⟨decide_eq_true hcls, decide_eq_true hbag.tag⟩
  have hwake : wakeWhere sl (awaitsEntry tag) (s.added sl tag cabin) = wakeTray k (s.added sl tag cabin) :=
    wakeWhere_single (by rw [hv]; exact hk) (by rw [hbk]; rfl) hw hbag.slot hwant fun j b' hj hb' hsl' =>
      awaitsEntry_eq_false fun htag' => honly j b' hj (added_tray sl tag cabin s j ▸ hb') hsl' htag'
  have hstv : ((s.added sl tag cabin).slot sl).state = .loading ∨
      ((s.added sl tag cabin).slot sl).state = .final := by
    rw [added_state]
    exact hst
  have hdecv : (s.added sl tag cabin).decodeSlot tag = some sl := by rw [hv]; exact hdec
  have hgv : (s.added sl tag cabin).lookup sl e.cabin = some g := by rw [hv, hcabin]; exact hg
  obtain ⟨hentry, b', hrouted, hlink, htray'⟩ := wakeTray_routed hbk hw hbag hdecv hstv he hon hsorted hgv
  rw [hwake]
  refine ⟨b', ?_, hrouted, hlink, by rw [hentry]; rfl⟩
  rcases htray' with ht | ⟨c, a, d, ht, -⟩ <;> rw [ht] <;> rfl

/-- Settles O45. -/
theorem addBagTakesAnEntry : Obligations.addBagTakesAnEntry := by
  intro l p s sl tag hl h hp hcabin hst hdec
  subst hl
  have hown := (onOwnSlot_slotLink sl (fun sl => addBag sl p) s).trans (addBag_checked hp hcabin hst hdec)
  refine ⟨fun e he => ?_, fun hnone hfull => ?_, fun hnone hroom => ?_⟩
  · exact exec_refusedWith h (hown.trans (if_pos (by rw [he]; rfl)))
  · exact exec_refusedWith h (hown.trans ((if_neg (by rw [hnone]; nofun)).trans (if_pos hfull)))
  have hok := hown.trans ((if_neg (by rw [hnone]; nofun)).trans (if_neg (not_le.mpr hroom)))
  refine ⟨_, exec_answeredOk h hok, ?_, fun other hother => ?_, fun hfinal => ?_, fun hwaiters => ?_,
    fun k b hk hb hcls hsl htag htag2 honly hmapped => ?_⟩
  · rw [← ledger_count, wakeWhere_ledger, ledger_count, added_count]
  · rw [wakeWhere_awaitsEntry_entry hother, added_entry_ne hnone hother]
  · exact (wakeWhere_moves ..).flags _ _ (added_late hfinal tag _)
  · have hwake : wakeWhere sl (awaitsEntry tag) (s.added sl tag (u16 p 5)) = s.added sl tag (u16 p 5) :=
      wakeWhere_none fun k b hb _ hbsl => awaitsEntry_eq_false fun hbtag =>
        hwaiters k b (added_tray sl tag (u16 p 5) s k ▸ hb) hbsl hbtag
    rw [hwake]
    exact ⟨added_eq .., fun other hother => added_entry_ne hnone hother sl _, fun hx => added_unmatched hnone hx _,
      fun x hx => added_matched hnone hx _⟩
  · exact addBag_routes hnone hst hdec hk hb hcls ⟨htag, htag2, hsl⟩ honly hmapped

end Sys2Proof.Machine
end

section
/-! SUPPORT. What the sort of a bag does to the entries, the stray list and the trays (R58, R160, R163). -/

namespace Sys2Proof.Machine

variable {s : State} {b : BagRecord} {tag : Tag} {id : BitVec 16} {x : StrayEntry}

theorem sortEntry_strays (tag : Tag) (c : ChuteId) (unconfirmed : Bool) (s : State) :
    (sortEntry tag c unconfirmed s).strays = s.strays := by
  unfold sortEntry
  split
  · split
    · exact (congrArg State.strays (raiseIf_frame ..) :)
    all_goals rfl
  · rfl

theorem sortEntry_loop (tag : Tag) (c : ChuteId) (unconfirmed : Bool) (s : State) :
    (sortEntry tag c unconfirmed s).loop = s.loop := by
  unfold sortEntry
  split
  · split
    · exact (congrArg State.loop (raiseIf_frame ..) :)
    all_goals rfl
  · rfl

/-- The lookup by id reads the stray list alone. -/
theorem strayOfId_of_strays {u : State} (h : u.strays = s.strays) (id : BitVec 16) :
    u.strayOfId id = s.strayOfId id := by
  rw [State.strayOfId, h]
  rfl

/-- R166: no bag entry links a removed stray entry. -/
theorem removeStray_strayLink (id : BitVec 16) (s : State) :
    ∀ e ∈ (removeStray id s).pool, e.strayLink ≠ some id := by
  intro e he
  obtain ⟨e', -, rfl⟩ := List.mem_map.mp he
  split
  · nofun
  · next h => exact h

/-- R166: no bag record carries a removed stray entry's id. -/
theorem removeStray_strayId {k : Nat} (h : ((removeStray id s).tray k).bag = some b) : b.strayId ≠ some id := by
  rw [removeStray_tray] at h
  have hbag : ((s.tray k).bag.map fun b => if b.strayId = some id then { b with strayId := none } else b) = some b := by
    rw [← h]
    cases s.tray k <;> rfl
  obtain ⟨b', -, rfl⟩ := Option.map_eq_some_iff.mp hbag
  split
  · nofun
  · next hid => exact hid

theorem removeStray_strays (id : BitVec 16) (s : State) :
    (removeStray id s).strays = s.strays.filter fun y => y.id ≠ id :=
  List.filter_congr fun y _ => by rw [bne, beq_eq_decide, decide_not]

/-- R163: a REINDUCTED stray entry is removed at its bag's sort. -/
theorem straySorted_reinducted (hx : s.strayOfId id = some x) (hst : x.state = .reinducted) :
    straySorted (some id) s = removeStray id s := by
  unfold straySorted
  rw [Option.bind_some, hx]
  dsimp only
  rw [if_pos hst, strayOfId_id hx]

/-- R163: a stray entry in any other state stays. -/
theorem straySorted_stays (hx : s.strayOfId id = some x) (hst : x.state ≠ .reinducted) :
    straySorted (some id) s = s := by
  unfold straySorted
  rw [Option.bind_some, hx]
  exact if_neg hst

theorem straySorted_tray_empty {k : Nat} (h : s.tray k = .empty) (id : Option (BitVec 16)) :
    (straySorted id s).tray k = .empty := by
  unfold straySorted
  split
  · split
    · rw [removeStray_tray, h]
      rfl
    · exact h
  · exact h

/-! ### The sort of a bag (R148) -/

theorem sortBag_linked (hl : b.entryLink = some tag) (c : ChuteId) (unconfirmed : Bool) (s : State) :
    sortBag b c unconfirmed s =
      straySorted (b.strayId.or ((s.entry tag).bind (·.strayLink))) (sortEntry tag c unconfirmed s) := by
  rw [sortBag, hl]

/-- R160: a stray's bag has arrived. -/
theorem sortBag_stray (hl : b.entryLink = none) (hstray : b.isStray = true) (hid : b.strayId = some id) (c : ChuteId)
    (unconfirmed : Bool) (s : State) : sortBag b c unconfirmed s = strayArrival id c s := by
  rw [sortBag, hl, hid]
  exact if_pos hstray

theorem sortBag_untold (hl : b.entryLink = none) (hid : b.strayId = none) (c : ChuteId) (unconfirmed : Bool)
    (s : State) : sortBag b c unconfirmed s = s := by
  rw [sortBag, hl, hid]

/-- R58: the linked entry is SORTED. -/
theorem sortBag_entry {e : BagEntry} (hl : b.entryLink = some tag) (he : s.entry tag = some e)
    (hon : e.status.isOnLoop = true) (c : ChuteId) (unconfirmed : Bool) :
    ((sortBag b c unconfirmed s).entry tag).map (·.status) = some (.sorted c s.clock.seconds unconfirmed) := by
  rw [sortBag_linked hl]
  exact (straySorted_entry_status ..).trans (sortEntry_status he hon c unconfirmed)

theorem sortBag_tray_empty {k : Nat} (h : s.tray k = .empty) (b : BagRecord) (c : ChuteId) (unconfirmed : Bool) :
    (sortBag b c unconfirmed s).tray k = .empty := by
  unfold sortBag
  split
  · exact straySorted_tray_empty ((tray_of_loop (sortEntry_loop ..) k).trans h) _
  · split
    · split
      · exact h
      · exact h
    · exact h

/-- R163: the stray entry of a linked bag goes when it is REINDUCTED, with its id dropped everywhere. -/
theorem sortBag_reinducted (hl : b.entryLink = some tag)
    (hid : b.strayId.or ((s.entry tag).bind (·.strayLink)) = some id) (hx : s.strayOfId id = some x) (c : ChuteId)
    (unconfirmed : Bool) :
    (x.state = .reinducted →
      (sortBag b c unconfirmed s).strays = s.strays.filter (fun y => y.id ≠ id) ∧
      (∀ e ∈ (sortBag b c unconfirmed s).pool, e.strayLink ≠ some id) ∧
      ∀ k b', ((sortBag b c unconfirmed s).tray k).bag = some b' → b'.strayId ≠ some id) ∧
    (x.state ≠ .reinducted → (sortBag b c unconfirmed s).strays = s.strays) := by
  have hstrays := sortEntry_strays tag c unconfirmed s
  have hfound := (strayOfId_of_strays hstrays id).trans hx
  rw [sortBag_linked hl, hid]
  refine ⟨fun hst => ?_, fun hst => ?_⟩
  · rw [straySorted_reinducted hfound hst, removeStray_strays, hstrays]
    exact ⟨rfl, removeStray_strayLink id _, fun k b' hb' => removeStray_strayId hb'⟩
  · rw [straySorted_stays hfound hst, hstrays]

end Sys2Proof.Machine
end

section
/-! PROOF. Confirm windows (O36). -/

namespace Sys2Proof.Machine

variable {s : State} {c : ChuteId} {w : ConfirmWindow} {later rest : List ConfirmWindow} {b : BagRecord}
  {g : BitVec 8}

/-! ### A confirmation (R148, R149) -/

theorem confirmTray_fired (h : s.tray w.tray = .fired b c g) (hlater : ∀ v ∈ later, v.tray ≠ w.tray) :
    confirmTray c w later s = sortBag b c false (emptyTray w.tray s) := by
  unfold confirmTray
  rw [h]
  exact if_pos ⟨rfl, List.all_eq_true.mpr fun v hv => bne_iff_ne.mpr (hlater v hv)⟩

theorem confirmTray_other (h : ∀ b g, s.tray w.tray ≠ .fired b c g) : confirmTray c w later s = s := by
  unfold confirmTray
  split
  · next b c' g hx =>
    refine if_neg ?_
    rintro ⟨rfl, -⟩
    exact h b g hx
  all_goals rfl

theorem confirmTray_keeps (c : ChuteId) (w : ConfirmWindow) (later : List ConfirmWindow) (s : State) :
    (confirmTray c w later s).chutes = s.chutes ∧ (confirmTray c w later s).fireQueue = s.fireQueue := by
  unfold confirmTray
  split
  · next b c' g _ =>
    split
    · have hf := sortBag_frame b c false (emptyTray w.tray s)
      exact ⟨(congrArg State.chutes hf :).trans (emptyTray_chutes ..),
        (congrArg State.fireQueue hf :).trans (emptyTray_fireQueue ..)⟩
    · exact ⟨rfl, rfl⟩
  all_goals exact ⟨rfl, rfl⟩

/-- R148, R149: the chute's record after a detection that takes its oldest window. -/
def State.windowTaken (s : State) (c : ChuteId) (rest : List ConfirmWindow) : State :=
  putChute c { s.chute c with
    eye := true, windows := rest, failures := 0
    occludedFrom := if (s.chute c).cfg.offset = 0 then none else some s.clock.tick } s

theorem confirmOldest_eq (h : (s.chute c).windows = w :: rest) :
    confirmOldest c (startOcclusion c s) = confirmTray c w rest (s.windowTaken c rest) := by
  have hc : (startOcclusion c s).chute c = { s.chute c with
      eye := true
      occludedFrom := if (s.chute c).cfg.offset = 0 then none else some s.clock.tick } := putChute_chute ..
  unfold confirmOldest
  rw [hc]
  dsimp only
  rw [h]
  dsimp only
  rw [State.windowTaken, putChute, putChute, startOcclusion, putChute]
  dsimp only
  rw [Vector.set_set]

theorem confirmOldest_none (h : (s.chute c).windows = []) :
    confirmOldest c (startOcclusion c s) = startOcclusion c s := by
  have hw : ((startOcclusion c s).chute c).windows = [] := (congrArg Chute.windows (putChute_chute ..)).trans h
  unfold confirmOldest
  rw [hw]

theorem exec_chuteEyeDetection (h : (s.chute c).eye = false) :
    exec (.chuteEyeDetection c) s = .next (settleHolds s (confirmOldest c (startOcclusion c s))) :=
  congrArg Host.Outcome.next (if_neg (ne_true_of_eq_false h))

theorem settleHolds_strays (v u : State) : (settleHolds v u).strays = u.strays := by rw [settleHolds_eq]

theorem settleHolds_chute (v u : State) (k : ChuteId) : (settleHolds v u).chute k = u.chute k := by
  rw [settleHolds_eq]
  rfl

/-! ### A window's end (R150) -/

theorem endedWindow_append {tick : Nat} {pre post : List ConfirmWindow} (hpre : ∀ v ∈ pre, tick < v.endTick)
    (hw : w.endTick ≤ tick) : endedWindow tick (pre ++ w :: post) = some (pre, w, post) := by
  have hp : ∀ v ∈ pre, decide (tick < v.endTick) = true := fun v hv => decide_eq_true (hpre v hv)
  have hn : ¬ decide (tick < w.endTick) = true := by simpa using hw
  have hdrop : (pre ++ w :: post).dropWhile (fun v => tick < v.endTick) = w :: post :=
    (List.dropWhile_append_of_pos hp).trans (List.dropWhile_cons_of_neg hn)
  have htake : (pre ++ w :: post).takeWhile (fun v => tick < v.endTick) = pre :=
    (List.takeWhile_append_of_pos hp).trans
      ((congrArg (pre ++ ·) (List.takeWhile_cons_of_neg hn)).trans (List.append_nil pre))
  rw [endedWindow, hdrop, htake]

theorem closeUnconfirmed_fired (h : s.tray w.tray = .fired b c g) (hlater : ∀ v ∈ later, v.tray ≠ w.tray) :
    closeUnconfirmed c w later s = putTray w.tray (.unconfirmed b c g) s := by
  unfold closeUnconfirmed
  rw [h]
  exact if_pos ⟨rfl, List.all_eq_true.mpr fun v hv => bne_iff_ne.mpr (hlater v hv)⟩

theorem closeUnconfirmed_other (h : ∀ b g, s.tray w.tray ≠ .fired b c g) : closeUnconfirmed c w later s = s := by
  unfold closeUnconfirmed
  split
  · next b c' g hx =>
    refine if_neg ?_
    rintro ⟨rfl, -⟩
    exact h b g hx
  all_goals rfl

theorem exec_confirmWindowEnd {pre post : List ConfirmWindow} (h : (s.chute c).windows = pre ++ w :: post)
    (hpre : ∀ v ∈ pre, s.clock.tick < v.endTick) (hw : w.endTick ≤ s.clock.tick) :
    exec (.confirmWindowEnd c) s = .next (closeUnconfirmed c w post (setWindows c (pre ++ post) s)) := by
  have harm : exec (.confirmWindowEnd c) s = execConfirmWindowEnd c s := rfl
  rw [harm, execConfirmWindowEnd, h, endedWindow_append hpre hw]

/-- Settles O36. -/
theorem confirmWindowsSettleTheirTrays : Obligations.confirmWindowsSettleTheirTrays := by
  intro c s
  refine ⟨fun heye hnone => ?_, fun w rest heye hws => ?_, fun pre w post hws hpre hw => ⟨fun b g hx hlater => ?_,
    fun hx => ?_⟩⟩
  · rw [exec_chuteEyeDetection heye, confirmOldest_none hnone,
      settleHolds_of_held (v := s) (u := startOcclusion c s) fun i => rfl]
    rfl
  · rw [exec_chuteEyeDetection heye, confirmOldest_eq hws]
    obtain ⟨hchutes, hqueue⟩ := confirmTray_keeps c w rest (s.windowTaken c rest)
    have hchute : ∀ k, (settleHolds s (confirmTray c w rest (s.windowTaken c rest))).chute k =
        (s.windowTaken c rest).chute k := fun k => by
      rw [settleHolds_chute, State.chute, hchutes]
      rfl
    refine ⟨_, rfl, ?_, fun k hk => ?_, ?_, fun b g hx hlater => ?_, fun hx => ?_⟩
    · rw [hchute]
      exact putChute_chute ..
    · rw [hchute]
      exact putChute_chute_ne _ _ _ _ hk
    · rw [settleHolds_fireQueue, hqueue]
      rfl
    · have hframe := emptyTray_frame w.tray (s.windowTaken c rest)
      have hpool : (emptyTray w.tray (s.windowTaken c rest)).pool = s.pool := (congrArg State.pool hframe :)
      have hstrays : (emptyTray w.tray (s.windowTaken c rest)).strays = s.strays := (congrArg State.strays hframe :)
      have hseconds : (emptyTray w.tray (s.windowTaken c rest)).clock.seconds = s.clock.seconds :=
        (congrArg (fun u : State => u.clock.seconds) hframe :)
      have hentry : ∀ tag, (emptyTray w.tray (s.windowTaken c rest)).entry tag = s.entry tag := fun tag =>
        congrArg (findEntry tag) hpool
      have hlt : w.tray < (s.windowTaken c rest).T := by
        by_contra hle
        rw [tray_of_le (s := s) (not_lt.mp hle)] at hx
        cases hx
      rw [confirmTray_fired (s := s.windowTaken c rest) hx hlater]
      simp only [settleHolds_tray, settleHolds_strays, settleHolds_pool, State.entry]
      refine ⟨sortBag_tray_empty (emptyTray_tray hlt) b c false, fun tag e hl he hon => ?_,
        fun tag id x hl hid hst => ?_, fun id hl hstray hid => ?_, fun hl hid => ?_⟩
      · exact hseconds ▸ sortBag_entry hl ((hentry tag).trans he) hon c false
      · exact hstrays ▸ sortBag_reinducted hl ((hentry tag) ▸ hid)
          ((strayOfId_of_strays hstrays id).trans hst) c false
      · rw [sortBag_stray hl hstray hid]
        exact ⟨hpool, congrArg _ hstrays⟩
      · rw [sortBag_untold hl hid]
        exact ⟨hpool, hstrays⟩
    · rw [confirmTray_other (s := s.windowTaken c rest) hx, settleHolds_loop, settleHolds_pool, settleHolds_strays]
      exact ⟨rfl, rfl, rfl⟩
  · rw [exec_confirmWindowEnd hws hpre hw,
      closeUnconfirmed_fired (s := setWindows c (pre ++ post) s) hx hlater]
    rfl
  · rw [exec_confirmWindowEnd hws hpre hw, closeUnconfirmed_other (s := setWindows c (pre ++ post) s) hx]
    rfl

end Sys2Proof.Machine
end

section
/-! PROOF. What both resets clear (O7). -/

namespace Sys2Proof.Machine

/-- Settles O7: both resets leave `resetBlocks`, whose lists are empty and whose inputs stand. -/
theorem resetsEndTransactionsAndClearLists : Obligations.resetsEndTransactionsAndClearLists := by
  intro s c hc
  obtain ⟨cause, low, hexec⟩ : ∃ cause low, exec c s = .next (resetBlocks cause low s) := by
    rcases hc with rfl | rfl
    · exact ⟨_, _, rfl⟩
    · exact ⟨_, _, rfl⟩
  refine ⟨_, hexec, rfl, fun k => ?_, rfl, rfl, rfl, rfl, rfl, fun sl => ?_, fun l => ?_, rfl⟩
  · have hk := resetBlocks_chute cause low s k
    exact ⟨congrArg (·.pulseEnd.isSome) hk, congrArg (·.eye) hk⟩
  · rw [resetBlocks_slot]
    exact ⟨rfl, rfl, rfl⟩
  · cases l <;> exact ⟨rfl, rfl, rfl⟩

end Sys2Proof.Machine
end

/-! ## Proofs: berth slots and loading cut-off (chapter 4) -/

section
/-! PROOF. MANIFEST FINAL and MANIFEST REOPEN (O51). -/

namespace Sys2Proof.Machine

variable {s : State} {sl : Slot} {k : Command}

/-- The link's checks of a manifest request, where its port heard it without payload: R76's alone is left. -/
theorem linkRefusal_manifest (hk : k = .manifestFinal ∨ k = .manifestReopen) :
    s.linkRefusal k (slotLink sl) [] = if (s.slot sl).state = .vacant then some .notBerthed else none := by
  have hlen : Command.length k (slotLink sl) = 0 := by rcases hk with rfl | rfl <;> cases sl <;> rfl
  have hperm : permitted k (slotLink sl) = true := by rcases hk with rfl | rfl <;> cases sl <;> rfl
  have hberthed : takenVacant k = false := by rcases hk with rfl | rfl <;> rfl
  have hvacant : s.unberthed (slotLink sl) = decide ((s.slot sl).state = .vacant) := by
    rw [State.unberthed, linkSlot_slotLink]
    rfl
  simp [State.linkRefusal, hlen, hperm, hberthed, hvacant]

/-- R76: a manifest request is refused while the link's slot is VACANT. -/
theorem exec_manifest_vacant (hk : k = .manifestFinal ∨ k = .manifestReopen)
    (h : s.hears (slotLink sl) (frameBytes k.code []) = true) (hst : (s.slot sl).state = .vacant) :
    exec (Instr.ofRequest (slotLink sl) k []) s = .next (refusedWith k (slotLink sl) [] .notBerthed s) := by
  rw [exec_ofRequest, takeRequest_link_refused _ h ((linkRefusal_manifest hk).trans (if_pos hst))]
  rfl

/-- A manifest request reaches its own rule while the link's slot is berthed. -/
theorem admits_manifest (hk : k = .manifestFinal ∨ k = .manifestReopen)
    (h : s.hears (slotLink sl) (frameBytes k.code []) = true) (hst : (s.slot sl).state ≠ .vacant) :
    s.admits k (slotLink sl) [] = true := by
  rw [State.admits, h, linkRefusal_manifest hk, if_neg hst]
  rfl

/-- Settles O51: R76's check refuses a VACANT slot, and the request's own rule says the other states. -/
theorem manifestFinalAndReopen : Obligations.manifestFinalAndReopen := by
  rintro l p s sl rfl rfl
  have hfinal := onOwnSlot_slotLink sl manifestFinal s
  have hreopen := onOwnSlot_slotLink sl manifestReopen s
  refine ⟨fun h => ⟨fun hst => ?_, fun hst => ?_, fun hst => ?_, fun hst => ?_⟩,
    fun h => ⟨fun hst => ?_, fun hst => ?_, fun hst => ?_, fun hst => ?_⟩⟩
  · exact exec_manifest_vacant (.inl rfl) h hst
  · have hadm := admits_manifest (.inl rfl) h (by rcases hst with e | e <;> rw [e] <;> nofun)
    exact exec_refusedWith hadm (hfinal.trans (by unfold manifestFinal; rcases hst with e | e <;> rw [e]))
  · have hadm := admits_manifest (.inl rfl) h (by rw [hst]; nofun)
    exact exec_answeredOk hadm (hfinal.trans (by unfold manifestFinal; rw [hst]; rfl))
  · have hadm := admits_manifest (.inl rfl) h (by rw [hst]; nofun)
    exact exec_answeredOk hadm (hfinal.trans (by unfold manifestFinal; rw [hst]))
  · exact exec_manifest_vacant (.inr rfl) h hst
  · have hadm := admits_manifest (.inr rfl) h (by rcases hst with e | e <;> rw [e] <;> nofun)
    exact exec_refusedWith hadm (hreopen.trans (by unfold manifestReopen; rcases hst with e | e <;> rw [e]))
  · have hadm := admits_manifest (.inr rfl) h (by rw [hst]; nofun)
    exact exec_answeredOk hadm (hreopen.trans (by unfold manifestReopen; rw [hst]))
  · have hadm := admits_manifest (.inr rfl) h (by rw [hst]; nofun)
    exact exec_answeredOk hadm (hreopen.trans (by unfold manifestReopen; rw [hst]; rfl))

end Sys2Proof.Machine
end

section
/-! PROOF. BERTH and SET QUOTA (O50). -/

namespace Sys2Proof.Machine

variable {s : State} {sl : Slot}

/-- R81: the warning level, 0.9 times the quota rounded up, is reached. -/
theorem warningLevel_le {quota count : Nat} : warningLevel quota ≤ count ↔ 9 * quota ≤ 10 * count := by
  unfold warningLevel
  omega

/-- R81: an armed QUOTA_LOW flag whose warning level is reached is raised and disarmed. -/
theorem judgeQuota_reached (harmed : (s.slot sl).quotaArmed = true) (hquota : 0 < (s.slot sl).quota)
    (hcount : 9 * (s.slot sl).quota ≤ 10 * s.entryCount sl) :
    judgeQuota sl s = raise .quotaLow (.slot sl) (modSlot sl (fun r => { r with quotaArmed := false }) s) :=
  if_pos ⟨harmed, hquota, warningLevel_le.mpr hcount⟩

/-- R81: an armed QUOTA_LOW flag stands below the warning level, and where the quota is 0. -/
theorem judgeQuota_below (harmed : (s.slot sl).quotaArmed = true)
    (h : (s.slot sl).quota = 0 ∨ 10 * s.entryCount sl < 9 * (s.slot sl).quota) : judgeQuota sl s = s := by
  have hreached : ¬ (0 < (s.slot sl).quota ∧ warningLevel (s.slot sl).quota ≤ s.entryCount sl) := by
    rw [warningLevel_le]
    omega
  unfold judgeQuota
  dsimp only
  rw [if_neg (mt And.right hreached), if_neg (fun hr => Bool.noConfusion (harmed.symm.trans hr.1))]

/-- R81: the armed flag judged afresh, and QUOTA_LOW flagged where it is disarmed. -/
theorem judgeQuota_armed (harmed : (s.slot sl).quotaArmed = true) :
    (judgeQuota sl s).slot sl = { s.slot sl with
      quotaArmed := !(decide (0 < (s.slot sl).quota) && decide (9 * (s.slot sl).quota ≤ 10 * s.entryCount sl)) } ∧
    (((judgeQuota sl s).slot sl).quotaArmed = false → (judgeQuota sl s).flagged (slotLink sl) .quotaLow = true) := by
  by_cases h : 0 < (s.slot sl).quota ∧ 9 * (s.slot sl).quota ≤ 10 * s.entryCount sl
  · rw [judgeQuota_reached harmed h.1 h.2, decide_eq_true h.1, decide_eq_true h.2]
    exact ⟨modSlot_slot sl (fun r => { r with quotaArmed := false }) s, fun _ =>
      flagged_raise .quotaLow (Scope.names_slotLink sl) _⟩
  · have hbelow : (s.slot sl).quota = 0 ∨ 10 * s.entryCount sl < 9 * (s.slot sl).quota := by omega
    have hjudged :
        (decide (0 < (s.slot sl).quota) && decide (9 * (s.slot sl).quota ≤ 10 * s.entryCount sl)) = false := by
      rw [← Bool.decide_and]
      exact decide_eq_false h
    rw [judgeQuota_below harmed hbelow, hjudged]
    refine ⟨?_, fun hdis => absurd (harmed.symm.trans hdis) nofun⟩
    rw [Bool.not_false, ← harmed]

theorem Slot.other_ne (sl : Slot) : sl.other ≠ sl := by cases sl <;> decide

/-- R81: the other slot stands. -/
theorem judgeQuota_other (sl : Slot) (s : State) : (judgeQuota sl s).slot sl.other = s.slot sl.other := by
  unfold judgeQuota
  dsimp only
  split
  · exact modSlot_slot_ne sl sl.other (fun r => { r with quotaArmed := false }) s sl.other_ne
  · split
    · exact modSlot_slot_ne sl sl.other _ s sl.other_ne
    · rfl

/-- R77: a slot opened without entries has its QUOTA_LOW flag armed. -/
theorem openSlot_empty (quota : Nat) (h : s.entryCount sl = 0) :
    openSlot sl quota s =
      { s with slots := s.slots.set sl ⟨.loading, quota, true, 0, (s.slot sl).call + 1⟩ } := by
  unfold openSlot
  generalize hf : (fun r : SlotRecord => (⟨.loading, quota, true, 0, r.call + 1⟩ : SlotRecord)) = f
  have hslot : (modSlot sl f s).slot sl = ⟨.loading, quota, true, 0, (s.slot sl).call + 1⟩ := by
    rw [modSlot_slot, ← hf]
  have hcount : (modSlot sl f s).entryCount sl = 0 := h
  rw [judgeQuota_below (by rw [hslot]) (by rw [hslot, hcount]; dsimp only; omega), ← hf]
  rfl

/-- R77 for a slot and a quota in their ranges. -/
theorem berth_checked {p : Payload} (hsl : slotOf (u8 p 0) = some sl) (hq : u16 p 1 ≤ 8192) :
    berth p s =
      if (s.slot sl).state ≠ .vacant then .error .state
      else if 8192 < u16 p 1 + (s.slot sl.other).quota then .error .quotaFull
      else .ok (openSlot sl (u16 p 1) s, .ok) := by
  unfold berth
  rw [hsl]
  dsimp only
  rw [if_neg (not_lt.mpr hq)]

/-- A slot's quota set, with its QUOTA_LOW flag armed to be judged (R80). -/
def State.withQuota (s : State) (sl : Slot) (quota : Nat) : State :=
  modSlot sl (fun r => { r with quota := quota, quotaArmed := true }) s

/-- R80 for a slot and a quota in their ranges. -/
theorem setQuota_checked {p : Payload} (hsl : slotOf (u8 p 0) = some sl) (hq : u16 p 1 ≤ 8192) :
    setQuota p s =
      if (s.slot sl).state = .vacant then .error .state
      else if 8192 < u16 p 1 + (s.slot sl.other).quota then .error .quotaFull
      else if u16 p 1 < s.entryCount sl then .error .belowUse
      else .ok (judgeQuota sl (s.withQuota sl (u16 p 1)), .ok) := by
  unfold setQuota
  rw [hsl]
  dsimp only
  rw [if_neg (not_lt.mpr hq)]
  rfl

/-- Settles O50. -/
theorem berthAndSetQuota : Obligations.berthAndSetQuota := by
  intro l p s sl hsl hq
  have hberth := berth_checked (s := s) hsl hq
  have hset := setQuota_checked (s := s) hsl hq
  refine ⟨fun h => ⟨fun hst => ?_, fun hst hfull => ?_, fun hst hfits hnone => ?_⟩,
    fun h => ⟨fun hst => ?_, fun hst hfits huse => ?_, fun hst hfits huse => ?_⟩⟩
  · exact exec_refusedWith h (hberth.trans (if_pos hst))
  · rw [if_neg (not_not.mpr hst), if_pos hfull] at hberth
    exact exec_refusedWith h hberth
  · rw [if_neg (not_not.mpr hst), if_neg (not_lt.mpr hfits), openSlot_empty _ hnone] at hberth
    exact exec_answeredOk h hberth
  · exact exec_refusedWith h (hset.trans (if_pos hst))
  · rw [if_neg hst, if_neg (not_lt.mpr hfits), if_pos huse] at hset
    exact exec_refusedWith h hset
  · rw [if_neg hst, if_neg (not_lt.mpr hfits), if_neg (not_lt.mpr huse)] at hset
    have hslot : (s.withQuota sl (u16 p 1)).slot sl = { s.slot sl with quota := u16 p 1, quotaArmed := true } :=
      modSlot_slot sl _ s
    obtain ⟨hjudged, hflag⟩ := judgeQuota_armed (s := s.withQuota sl (u16 p 1)) (by rw [hslot])
    refine ⟨_, exec_answeredOk h hset, ?_, ?_, ?_, hflag⟩
    · exact eq_of_sansSlots (judgeQuota_frame sl (s.withQuota sl (u16 p 1)))
    · exact (judgeQuota_other ..).trans (modSlot_slot_ne sl sl.other _ s sl.other_ne)
    · rw [hjudged, hslot]
      rfl

end Sys2Proof.Machine
end

section
/-! SUPPORT. The drain of a slot (R83): a WAITING bag of a slot in CLOSING, woken, is a stray, and no count of the
slot moves but its waiting count and its stray count. -/

namespace Sys2Proof.Machine

variable {s u : State} {sl : Slot} {t : Nat} {b : BagRecord}

/-! ### The counts of a slot by its trays (R15) -/

/-- The on-loop count follows the slots that the trays carry. -/
theorem onLoop_congr (hT : u.T = s.T) (h : ∀ k, (u.tray k).slot = (s.tray k).slot) (sl : Slot) :
    u.onLoop sl = s.onLoop sl := by
  have hslots : u.loop.trays.map Tray.slot = s.loop.trays.map Tray.slot := by
    refine List.ext_getElem (by simpa [State.T] using hT) fun k hu hs => ?_
    have hku : k < u.loop.trays.length := by simpa using hu
    have hks : k < s.loop.trays.length := by simpa using hs
    simpa [State.tray, hku, hks] using h k
  have hmap : ∀ v : State, v.onLoop sl = (v.loop.trays.map Tray.slot).countP fun x => x = some sl := fun v => by
    rw [List.countP_map]
    rfl
  rw [hmap, hmap, hslots]

theorem tray_of_mem {x : Tray} (h : x ∈ s.loop.trays) : ∃ k, s.tray k = x := by
  obtain ⟨k, hk, rfl⟩ := List.getElem_of_mem h
  exact ⟨k, by simp [State.tray, hk]⟩

theorem onLoop_eq_zero (h : s.onLoop sl = 0) (hb : (s.tray t).bag = some b) : b.slot ≠ some sl := by
  have ht : t < s.T := by
    by_contra hle
    rw [tray_of_le (not_lt.mp hle)] at hb
    cases hb
  have hmem : s.tray t ∈ s.loop.trays := by
    have hget : s.loop.trays[t]? = some (s.loop.trays[t]'ht) := List.getElem?_eq_getElem ht
    rw [State.tray, List.getD, hget]
    exact List.getElem_mem ht
  have hnot := List.countP_eq_zero.mp h _ hmem
  simpa [Tray.slot, hb] using hnot

theorem waiting_eq_zero (h : ∀ k b, (s.tray k).bag = some b → b.slot = some sl → b.isWaiting = false) :
    s.waiting sl = 0 := by
  refine List.countP_eq_zero.mpr fun x hx => ?_
  obtain ⟨k, rfl⟩ := tray_of_mem hx
  cases hb : (s.tray k).bag with
  | none => simp [Tray.slot, hb]
  | some b =>
    by_cases hsl : b.slot = some sl
    · simp [h k b hb hsl]
    · simp [Tray.slot, hb, hsl]

/-! ### A stray recorded leaves the states of the slots (R90) -/

theorem countStray_state (x : Option Slot) (s : State) (k : Slot) :
    ((countStray x s).slot k).state = (s.slot k).state := by
  unfold countStray
  split
  · next j =>
    by_cases hk : k = j
    · subst hk
      rw [modSlot_slot]
    · rw [modSlot_slot_ne _ _ _ _ hk]
  · rfl

theorem makeStray_state (t : Nat) (q : StrayRequest) (s : State) (k : Slot) :
    ((makeStray t q s).state.slot k).state = (s.slot k).state := by
  refine Eq.trans ?_ (countStray_state q.slot s k)
  unfold makeStray recordStray
  dsimp only
  split
  · rfl
  · split <;> rfl

theorem wakeJudged_slots (t : Nat) (s : State) : (wakeJudged t s).slots = (classify t s).state.slots := by
  rw [wakeJudged_eq]

/-! ### A WAITING bag of a slot in CLOSING is woken (R95, R96, R104) -/

/-- A WAITING bag of a slot on its LOADED tray, as R103 has it. -/
structure State.WaitsFor (s : State) (sl : Slot) (t : Nat) (b : BagRecord) : Prop where
  loaded : s.tray t = .loaded b
  waiting : b.isWaiting = true
  slot : b.slot = some sl
  tag : ∃ tag, b.tag = some tag ∧ s.decodeSlot tag = some sl

/-- What a drain makes of a WAITING bag: a stray of its slot, by SHIP_CLOSED unless two tags were read. -/
structure BagRecord.Drained (b b' : BagRecord) : Prop where
  slot : b'.slot = b.slot
  stray : b'.isStray = true
  cause : b.tag2 = none → b'.cls = .stray .shipClosed

theorem BagRecord.isWaiting_of_isStray (h : b.isStray = true) : b.isWaiting = false := by
  cases hcls : b.cls <;> simp_all [BagRecord.isStray, BagRecord.isWaiting]

/-- R94 to R96: such a bag of a slot in CLOSING is classified as a stray. -/
theorem classify_drains (h : s.WaitsFor sl t b) (hst : (s.slot sl).state = .closing) :
    ∃ q f, classify t s = makeStray t q (modBag t f s) ∧ (f b).slot = b.slot ∧
      (b.tag2 = none → q.cause = .shipClosed) := by
  obtain ⟨tag, htag, hdec⟩ := h.tag
  have hb : (s.tray t).bag = some b := by rw [h.loaded]; rfl
  by_cases htwo : b.tag2.isSome = true ∧ b.tag2 ≠ some tag
  · refine ⟨⟨.multiRead, some tag, b.tag2, none, none⟩, id, ?_, rfl, fun hnone => ?_⟩
    · rw [modBag_self hb rfl, classify, hb]
      dsimp only
      rw [htag]
      exact if_pos htwo
    · rw [hnone] at htwo
      exact absurd htwo.1 nofun
  · generalize hf : (fun b : BagRecord => { b with tag2 := none }) = f
    have hslot : (f b).slot = b.slot := by rw [← hf]
    have hbag : ((modBag t f s).tray t).bag = some (f b) := by
      rw [modBag_tray, Tray.bag_mapBag, hb]
      rfl
    refine ⟨tagged .shipClosed tag (some sl) (((modBag t f s).entryIn sl tag).map (·.cabin)), f, ?_, hslot,
      fun _ => rfl⟩
    have hread : classify t s = classify t (modBag t f s) := by
      have hagain : modBag t f (modBag t f s) = modBag t f s := modBag_self hbag (by rw [← hf])
      have htag' : (f b).tag = some tag := by rw [← hf]; exact htag
      have hone : ¬ ((f b).tag2.isSome = true ∧ (f b).tag2 ≠ some tag) := by
        rw [← hf]
        exact fun h => nomatch h.1
      unfold classify
      rw [hb, hbag]
      dsimp only
      rw [htag, htag']
      dsimp only
      rw [if_neg htwo, if_neg hone, hf, hagain]
    rw [hread, classify_inSlot hbag ⟨by rw [← hf]; exact htag, by rw [← hf], hslot.trans h.slot⟩ hdec
      (.inr (.inr hst))]
    exact classifyInSlot_closing hst

/-- R83: a wake of such a bag leaves the pool and the states of the slots, and the bag drained on its tray. -/
theorem wakeTray_drains (h : s.WaitsFor sl t b) (hst : (s.slot sl).state = .closing) :
    (wakeTray t s).pool = s.pool ∧ (∀ k, ((wakeTray t s).slot k).state = (s.slot k).state) ∧
      ∃ b', ((wakeTray t s).tray t).bag = some b' ∧ b.Drained b' := by
  obtain ⟨q, f, hcls, hslot, hcause⟩ := classify_drains h hst
  rw [wakeTray_waiting h.loaded h.waiting]
  refine ⟨?_, fun k => ?_, ?_⟩
  · rw [(passToSelection_keeps t _).2.1, wakeJudged_pool, hcls, makeStray_pool]
    rfl
  · have hslots : (passToSelection t (wakeJudged t s)).slots = (classify t s).state.slots :=
      (congrArg State.slots (passToSelection_frame t _)).trans (wakeJudged_slots t s)
    rw [State.slot, hslots, hcls]
    exact makeStray_state t q (modBag t f s) k
  · have hbag : ((passToSelection t (wakeJudged t s)).tray t).bag = some { f b with
        cls := .stray q.cause, strayId := (recordStray q (modBag t f s)).id, entryLink := none } := by
      rw [passToSelection_bag, wakeJudged_tray, hcls, makeStray_tray, modBag_tray, h.loaded]
      rfl
    exact ⟨_, hbag, hslot, rfl, fun hnone => congrArg BagClass.stray (hcause hnone)⟩

/-- A wake of another tray leaves a WAITING bag as R103 has it. -/
theorem waitsFor_wakeTray {k : Nat} (h : s.WaitsFor sl k b) (hk : k ≠ t) : (wakeTray t s).WaitsFor sl k b where
  loaded := (wakeTray_tray_ne hk s).trans h.loaded
  waiting := h.waiting
  slot := h.slot
  tag := by
    obtain ⟨tag, htag, hdec⟩ := h.tag
    have hwindows : (wakeTray t s).tagWindows = s.tagWindows := (congrArg State.tagWindows (wakeTray_frame t s) :)
    have hsame : (wakeTray t s).decodeSlot tag = s.decodeSlot tag := by
      unfold State.decodeSlot State.decode
      rw [hwindows]
    exact ⟨tag, htag, hsame.trans hdec⟩

theorem foldl_wakeTray_drains {ts : List Nat} (hts : ts.Nodup) (hst : (s.slot sl).state = .closing)
    (h : ∀ t ∈ ts, ∃ b, s.WaitsFor sl t b) :
    (ts.foldl (fun s t => wakeTray t s) s).pool = s.pool ∧
      (∀ k, ((ts.foldl (fun s t => wakeTray t s) s).slot k).state = (s.slot k).state) ∧
      ∀ t ∈ ts, ∀ b, (s.tray t).bag = some b →
        ∃ b', ((ts.foldl (fun s t => wakeTray t s) s).tray t).bag = some b' ∧ b.Drained b' := by
  induction ts generalizing s with
  | nil => exact ⟨rfl, fun _ => rfl, nofun⟩
  | cons t r ih =>
    obtain ⟨hnot, hr⟩ := List.nodup_cons.mp hts
    obtain ⟨b, hb⟩ := h t (List.mem_cons_self ..)
    obtain ⟨hpool, hslots, b', hb', hdrained⟩ := wakeTray_drains hb hst
    have hne : ∀ k ∈ r, k ≠ t := fun k hk e => hnot (e ▸ hk)
    obtain ⟨hpoolr, hslotsr, hbagsr⟩ := ih hr ((hslots sl).trans hst) fun k hk => by
      obtain ⟨c, hc⟩ := h k (List.mem_cons_of_mem _ hk)
      exact ⟨c, waitsFor_wakeTray hc (hne k hk)⟩
    refine ⟨hpoolr.trans hpool, fun k => (hslotsr k).trans (hslots k), fun k hk c hc => ?_⟩
    rcases List.mem_cons.mp hk with rfl | hk
    · have hcb : some c = some b := hc.symm.trans (by rw [hb.loaded]; rfl)
      obtain rfl := Option.some.inj hcb
      exact ⟨b', by rw [List.foldl_cons, foldl_wakeTray_tray hnot]; exact hb', hdrained⟩
    · exact hbagsr k hk c (by rw [wakeTray_tray_ne (hne k hk)]; exact hc)

/-! ### The drain as a whole (R82, R83, R86) -/

/-- A slot in CLOSING with its WAITING trays woken, whatever they wait for (R83). -/
def State.drained (s : State) (sl : Slot) : State := wakeWhere sl (fun _ => true) (setSlotState sl .closing s)

theorem beginDrain_def (sl : Slot) (s : State) : beginDrain sl s = reportCount sl (s.drained sl) := rfl

/-- The report of the count moves no tray and no entry. -/
theorem beginDrain_keeps (sl : Slot) (s : State) :
    (beginDrain sl s).loop = (s.drained sl).loop ∧ (beginDrain sl s).pool = (s.drained sl).pool :=
  ⟨reportCount_loop .., (congrArg State.pool (reportCount_frame sl (s.drained sl)) :)⟩

theorem setSlotState_slot (sl : Slot) (x : SlotState) (s : State) :
    (setSlotState sl x s).slot sl = { s.slot sl with state := x } := modSlot_slot sl _ s

section Drain
variable (hlaw : s.waitingLaw)
include hlaw

theorem waitsFor_of_law (hb : (s.tray t).bag = some b) (hw : b.isWaiting = true) (hsl : b.slot = some sl)
    (x : SlotState) : (setSlotState sl x s).WaitsFor sl t b := by
  obtain ⟨hloaded, -, -, tag, sl', htag, hsl', hdec, -⟩ := hlaw t b hb hw
  obtain rfl := Option.some.inj (hsl'.symm.trans hsl)
  exact ⟨hloaded, hw, hsl, tag, htag, hdec⟩

/-- R83: what the wakes of a drain leave, and the bags they drain. -/
theorem drained_wakes :
    (s.drained sl).pool = s.pool ∧ ((s.drained sl).slot sl).state = .closing ∧
      ∀ k b, (s.tray k).bag = some b → b.isWaiting = true → b.slot = some sl →
        ∃ b', ((s.drained sl).tray k).bag = some b' ∧ b.Drained b' := by
  have hst : ((setSlotState sl .closing s).slot sl).state = .closing := by rw [setSlotState_slot]
  have hset : ∀ t ∈ (setSlotState sl .closing s).wakeSet sl (fun _ => true),
      ∃ b, (setSlotState sl .closing s).WaitsFor sl t b := fun t ht => by
    obtain ⟨-, b, hb, hw, hsl, -⟩ := mem_wakeSet.mp ht
    exact ⟨b, waitsFor_of_law hlaw hb hw hsl .closing⟩
  obtain ⟨hpool, hslots, hbags⟩ := foldl_wakeTray_drains (wakeSet_nodup ..) hst hset
  refine ⟨hpool, (hslots sl).trans hst, fun k b hb hw hsl => hbags k ?_ b hb⟩
  have hk : k < s.T := tray_loaded_lt (waitsFor_of_law hlaw hb hw hsl .closing).loaded
  exact mem_wakeSet.mpr ⟨hk, b, hb, hw, hsl, rfl⟩

/-- Every tray after a drain: its bag drained, or the tray as it was, with no WAITING bag of the slot. -/
theorem drained_tray (k : Nat) :
    (∃ b b', (s.tray k).bag = some b ∧ ((s.drained sl).tray k).bag = some b' ∧ b.Drained b') ∨
      ((s.drained sl).tray k = s.tray k ∧
        ∀ b, (s.tray k).bag = some b → b.slot = some sl → b.isWaiting = false) := by
  by_cases h : ∃ b, (s.tray k).bag = some b ∧ b.isWaiting = true ∧ b.slot = some sl
  · obtain ⟨b, hb, hw, hsl⟩ := h
    obtain ⟨-, -, hbags⟩ := drained_wakes (sl := sl) hlaw
    obtain ⟨b', hb', hdrained⟩ := hbags k b hb hw hsl
    exact .inl ⟨b, b', hb, hb', hdrained⟩
  · refine .inr ⟨foldl_wakeTray_tray (fun hk => ?_) (setSlotState sl .closing s), fun b hb hsl => ?_⟩
    · obtain ⟨-, b, hb, hw, hsl, -⟩ := mem_wakeSet.mp hk
      exact h ⟨b, hb, hw, hsl⟩
    · exact Bool.eq_false_of_not_eq_true fun hw => h ⟨b, hb, hw, hsl⟩

theorem drained_onLoop (j : Slot) : (s.drained sl).onLoop j = s.onLoop j := by
  have hT : (s.drained sl).T = s.T := (wakeWhere_moves sl _ (setSlotState sl .closing s)).trays
  refine onLoop_congr hT (fun k => ?_) j
  rcases drained_tray (sl := sl) hlaw k with ⟨b, b', hb, hb', hdrained⟩ | ⟨htray, -⟩
  · rw [Tray.slot, Tray.slot, hb, hb']
    exact hdrained.slot
  · rw [htray]

theorem drained_waiting : (s.drained sl).waiting sl = 0 := by
  refine waiting_eq_zero fun k c hc hsl => ?_
  rcases drained_tray (sl := sl) hlaw k with ⟨b, b', -, hb', hdrained⟩ | ⟨htray, hnone⟩
  · obtain rfl := Option.some.inj (hb'.symm.trans hc)
    exact BagRecord.isWaiting_of_isStray hdrained.stray
  · exact hnone c (htray ▸ hc) hsl

/-- R86: with nothing of the slot on the loop it is CLOSED at once, and CUTOFF_COMPLETE is raised. -/
theorem beginDrain_empty (h : s.onLoop sl = 0) :
    beginDrain sl s = raise .cutoffComplete (.slot sl)
      (modSlot sl (fun r => { r with state := .closed }) (setSlotState sl .closing s)) := by
  have hnone : s.drained sl = setSlotState sl .closing s := wakeWhere_none fun k b hb _ hsl =>
    absurd hsl (onLoop_eq_zero h hb)
  have hst : ((setSlotState sl .closing s).slot sl).state = .closing := by rw [setSlotState_slot]
  rw [beginDrain_def, reportCount, drained_onLoop hlaw, if_pos h, hnone, reportZero, if_pos hst]

/-- R83: with bags of the slot on the loop it stays CLOSING. -/
theorem beginDrain_occupied (h : 0 < s.onLoop sl) : beginDrain sl s = s.drained sl := by
  rw [beginDrain_def, reportCount, drained_onLoop hlaw, if_neg (Nat.ne_of_gt h)]

end Drain

/-! ### The request (R82) -/

theorem slotFor_eq {l : LinkId} {p : Payload} (h : l = slotLink sl ∨ (l = .shore ∧ slotOf (u8 p 0) = some sl)) :
    slotFor l p = some sl := by
  unfold slotFor
  rcases h with rfl | ⟨rfl, hsl⟩
  · rw [linkSlot_slotLink]
  · exact hsl

theorem cutOff_closed {l : LinkId} {p : Payload} (hsl : slotFor l p = some sl)
    (hst : (s.slot sl).state = .closing ∨ (s.slot sl).state = .closed) : cutOff l p s = .error .state := by
  unfold cutOff
  rw [hsl]
  rcases hst with h | h <;> dsimp only <;> rw [h]

theorem cutOff_open {l : LinkId} {p : Payload} (hsl : slotFor l p = some sl)
    (hst : (s.slot sl).state = .loading ∨ (s.slot sl).state = .final) :
    cutOff l p s = .ok (beginDrain sl s, { accepted := true, clamped := false, payload := [] }) := by
  unfold cutOff
  rw [hsl]
  rcases hst with h | h <;> dsimp only <;> rw [h]

/-- An admitted CUT OFF that is accepted is answered ACCEPTED (R82, R189). -/
theorem exec_cutOff_accepted {l : LinkId} {p : Payload} (h : s.admits .cutOff l p = true)
    (hsl : slotFor l p = some sl) (hst : (s.slot sl).state = .loading ∨ (s.slot sl).state = .final) :
    exec (.cutOff l p) s = .next (answering l (frameBytes 23 p) [2, 0, 0, 0] (beginDrain sl s)) := by
  have htaken := takeRequest_accepted (own := Command.own .cutOff l p) h (cutOff_open hsl hst)
  exact (exec_ofRequest l .cutOff p s).trans (congrArg _ htaken)

/-- R82, R83, R86: what an accepted CUT OFF leaves of the slot, the loop and the pool. -/
theorem beginDrain_drains (hlaw : s.waitingLaw) :
    (beginDrain sl s).waiting sl = 0 ∧ (beginDrain sl s).onLoop sl = s.onLoop sl ∧
      (beginDrain sl s).pool = s.pool ∧ (0 < s.onLoop sl → ((beginDrain sl s).slot sl).state = .closing) ∧
      (s.onLoop sl = 0 →
        beginDrain sl s = { s with slots := (beginDrain sl s).slots, notices := (beginDrain sl s).notices } ∧
        (beginDrain sl s).slot sl = { s.slot sl with state := .closed } ∧
        (beginDrain sl s).flagged (slotLink sl) .cutoffComplete = true) ∧
      ∀ k b, (s.tray k).bag = some b → b.isWaiting = true → b.slot = some sl →
        ∃ b', ((beginDrain sl s).tray k).bag = some b' ∧ b'.slot = some sl ∧
          (b.tag2 = none → b'.cls = .stray .shipClosed) := by
  obtain ⟨hloop, hkept⟩ := beginDrain_keeps sl s
  obtain ⟨hpool, hclosing, hbags⟩ := drained_wakes (sl := sl) hlaw
  have hcount : ∀ u : State, u.loop = (s.drained sl).loop →
      u.onLoop sl = (s.drained sl).onLoop sl ∧ u.waiting sl = (s.drained sl).waiting sl := fun u hu => by
    rw [State.onLoop, State.waiting, hu]
    exact ⟨rfl, rfl⟩
  obtain ⟨honLoop, hwaiting⟩ := hcount _ hloop
  refine ⟨hwaiting.trans (drained_waiting hlaw), honLoop.trans (drained_onLoop hlaw sl), hkept.trans hpool,
    fun hpos => ?_, fun hzero => ?_, fun k b hb hw hsl => ?_⟩
  · rw [beginDrain_occupied hlaw hpos]
    exact hclosing
  · rw [beginDrain_empty hlaw hzero]
    refine ⟨rfl, ?_, flagged_raise .cutoffComplete (Scope.names_slotLink sl) _⟩
    refine (modSlot_slot sl (fun r => { r with state := .closed }) (setSlotState sl .closing s)).trans ?_
    rw [setSlotState_slot]
  · obtain ⟨b', hb', hdrained⟩ := hbags k b hb hw hsl
    exact ⟨b', by rw [tray_of_loop hloop]; exact hb', hdrained.slot.trans hsl, hdrained.cause⟩

end Sys2Proof.Machine
end

section
/-! SUPPORT. A standby judged for takeover (R123, R124): the chute it takes over, and what stands. -/

namespace Sys2Proof.Machine

variable {s u : State} {c j k : ChuteId} {x : Chute}

/-! ### The chute a standby takes over (R123) -/

/-- The chute that a standby's judgement looks for. -/
theorem coversFull_iff : ((s.chute c).cfg.cover.contains k && (s.chute k).servesUnreleased &&
    decide ((s.chute k).state = .full)) = true ↔ k ∈ (s.chute c).cfg.cover ∧ s.fullGroup k := by
  simp only [Chute.servesUnreleased, State.fullGroup, Bool.and_eq_true, List.contains_iff_mem, decide_eq_true_iff,
    Bool.not_eq_true']
  tauto

/-- R124: what a judgement does to a standby that can take over. -/
theorem judgeStandby_cases (h : (s.chute c).canTakeOver = true) :
    (∃ k, k ∈ (s.chute c).cfg.cover ∧ s.fullGroup k ∧
        (∀ j ∈ (s.chute c).cfg.cover, s.fullGroup j → k ≤ j) ∧ judgeStandby c s = takeOver c k s) ∨
      ((∀ k ∈ (s.chute c).cfg.cover, ¬ s.fullGroup k) ∧ judgeStandby c s = s) := by
  unfold judgeStandby
  rw [if_pos h]
  split
  · next k hk =>
    obtain ⟨hfull, hfirst⟩ := Fin.find?_eq_some_iff.mp (Fin.find?_eq_find?_finRange.trans hk)
    obtain ⟨hcover, hgroup⟩ := coversFull_iff.mp hfull
    refine .inl ⟨k, hcover, hgroup, fun j hj hjfull => not_lt.mp fun hlt => ?_, rfl⟩
    exact Bool.noConfusion ((hfirst j hlt).symm.trans (coversFull_iff.mpr ⟨hj, hjfull⟩))
  · next hnone =>
    exact .inr ⟨fun k hk hfull =>
      List.find?_eq_none.mp hnone k (List.mem_finRange k) (coversFull_iff.mpr ⟨hk, hfull⟩), rfl⟩

theorem judgeStandby_of_not (h : (s.chute c).canTakeOver = false) : judgeStandby c s = s :=
  if_neg (by rw [h]; nofun)

theorem takeOver_chute (c k j : ChuteId) (s : State) : (takeOver c k s).chute j =
    if j = c then (s.chute c).takesOver k (s.chute k).group else s.chute j := modChute_chute ..

theorem judgeStandby_chute_ne (h : j ≠ c) (s : State) : (judgeStandby c s).chute j = s.chute j := by
  unfold judgeStandby
  split
  · split
    · rw [takeOver_chute, if_neg h]
    · rfl
  · rfl

/-! ### What judgements of standbys leave -/

theorem eq_of_sansChutes {s t : State} (h : t.sansChutes = s.sansChutes) : t = { s with
    chutes := t.chutes, blocked := t.blocked, strayArmed := t.strayArmed, notices := t.notices } :=
  (congrArg (fun u : State => { u with
    chutes := t.chutes, blocked := t.blocked, strayArmed := t.strayArmed, notices := t.notices }) h :)

theorem setChute_blocked (c : ChuteId) (x : Chute) (s : State) : (setChute c x s).blocked ⊆ s.blocked := by
  unfold setChute judgeStrayArmed
  dsimp only
  split
  · exact fun _ h => h
  · split
    · split <;> exact List.filter_subset_self _
    · exact List.filter_subset_self _

theorem judgeStandby_blocked (c : ChuteId) (s : State) : (judgeStandby c s).blocked ⊆ s.blocked := by
  unfold judgeStandby
  split
  · split
    · exact setChute_blocked c _ s
    · exact fun _ h => h
  · exact fun _ h => h

/-- What judgements of standbys leave: the SORT chutes, every chute's configuration and every notice flag; of the
blocked records some may go. -/
structure State.StandbysJudged (s u : State) : Prop where
  sort : ∀ j, (s.chute j).cfg.role = .sort → u.chute j = s.chute j
  moves : s.Moves u
  blocked : u.blocked ⊆ s.blocked

theorem State.StandbysJudged.refl (s : State) : s.StandbysJudged s := ⟨fun _ _ => rfl, .refl s, fun _ h => h⟩

theorem State.StandbysJudged.trans {v : State} (h : s.StandbysJudged u) (k : u.StandbysJudged v) :
    s.StandbysJudged v where
  sort j hj := (k.sort j (by rw [h.sort j hj]; exact hj)).trans (h.sort j hj)
  moves := h.moves.trans k.moves
  blocked := List.Subset.trans k.blocked h.blocked

theorem judgeStandby_judges (c : ChuteId) (s : State) : s.StandbysJudged (judgeStandby c s) where
  sort j hj := by
    by_cases hjc : j = c
    · subst hjc
      rw [judgeStandby_of_not (by simp [Chute.canTakeOver, hj])]
    · exact judgeStandby_chute_ne hjc s
  moves := judgeStandby_moves c s
  blocked := judgeStandby_blocked c s

theorem foldl_judgeStandby_judges (cs : List ChuteId) (s : State) :
    s.StandbysJudged (cs.foldl (fun s c => judgeStandby c s) s) := by
  induction cs generalizing s with
  | nil => exact .refl s
  | cons c r ih => exact (judgeStandby_judges c s).trans (ih _)

theorem foldl_judgeStandby_chute {cs : List ChuteId} (h : c ∉ cs) (s : State) :
    (cs.foldl (fun s c => judgeStandby c s) s).chute c = s.chute c := by
  induction cs generalizing s with
  | nil => rfl
  | cons k r ih =>
    obtain ⟨hk, hr⟩ := not_or.mp (mt List.mem_cons.mpr h)
    exact (ih hr _).trans (judgeStandby_chute_ne hk s)

/-- R124: the FULL chutes with a group not released are the same after. -/
theorem State.StandbysJudged.fullGroup (h : s.StandbysJudged u) (k : ChuteId) : u.fullGroup k ↔ s.fullGroup k := by
  by_cases hrole : (s.chute k).cfg.role = .sort
  · rw [State.fullGroup, State.fullGroup, h.sort k hrole]
  · have hafter : (u.chute k).cfg.role ≠ .sort := by rw [(h.moves.chutes k).cfg]; exact hrole
    exact iff_of_false (fun hf => hafter hf.1) (fun hf => hrole hf.1)

/-- R124: a standby that has been judged stays so while other standbys are. -/
theorem State.standbyJudged.keep (hj : s.standbyJudged c x) (h : s.StandbysJudged u) (hc : u.chute c = s.chute c) :
    u.standbyJudged c x := by
  obtain ⟨htakes, hstands⟩ := hj
  refine ⟨fun k hk hjam hfault hfull hfirst => ?_, fun hno => hc.trans (hstands ?_)⟩
  · have hfull' := (h.fullGroup k).mp hfull
    obtain ⟨hchute, hflag⟩ := htakes k hk hjam hfault hfull' fun j hj hjf => hfirst j hj ((h.fullGroup j).mpr hjf)
    exact ⟨by rw [hc, h.sort k hfull'.1, hchute], h.moves.flags _ _ hflag⟩
  · simpa only [h.fullGroup] using hno

/-! ### The judgement (R124) -/

/-- R124: a standby in STANDBY_IDLE is judged. -/
theorem judgeStandby_judged (hrole : (s.chute c).cfg.role = .standby) (hst : (s.chute c).state = .standbyIdle) :
    (judgeStandby c s).standbyJudged c (s.chute c) := by
  have hmarks : (s.chute c).canTakeOver = true ↔ (s.chute c).jam = false ∧ (s.chute c).fault = false := by
    simp [Chute.canTakeOver, hrole, hst]
  have hsame : ∀ k, (judgeStandby c s).fullGroup k ↔ s.fullGroup k := (judgeStandby_judges c s).fullGroup
  by_cases hcan : (s.chute c).canTakeOver = true
  · obtain ⟨hjam, hfault⟩ := hmarks.mp hcan
    rcases judgeStandby_cases hcan with ⟨k, hk, hfull, hfirst, he⟩ | ⟨hnone, he⟩
    · refine ⟨fun m hm _ _ hmfull hmfirst => ?_, fun hno => ?_⟩
      · obtain rfl : m = k := le_antisymm (hmfirst k hk ((hsame k).mpr hfull)) (hfirst m hm ((hsame m).mp hmfull))
        rw [(judgeStandby_judges c s).sort m hfull.1, he, takeOver_chute, if_pos rfl]
        exact ⟨rfl, flagged_raise .standbyTakeover (Scope.names_shore _) _⟩
      · rcases hno with h | h | h
        · exact Bool.noConfusion (hjam.symm.trans h)
        · exact Bool.noConfusion (hfault.symm.trans h)
        · exact absurd ((hsame k).mpr hfull) (h k hk)
    · exact ⟨fun m hm _ _ hmfull _ => absurd ((hsame m).mp hmfull) (hnone m hm), fun _ => by rw [he]⟩
  · have hstands : judgeStandby c s = s := judgeStandby_of_not (Bool.eq_false_of_not_eq_true hcan)
    exact ⟨fun _ _ hjam hfault => absurd (hmarks.mpr ⟨hjam, hfault⟩) hcan, fun _ => by rw [hstands]⟩

/-- R124: each standby of a list, in STANDBY_IDLE before, is judged. -/
theorem foldl_judgeStandby_judged {cs : List ChuteId} (hcs : cs.Nodup) (hc : c ∈ cs)
    (hrole : (s.chute c).cfg.role = .standby) (hst : (s.chute c).state = .standbyIdle) :
    (cs.foldl (fun s c => judgeStandby c s) s).standbyJudged c (s.chute c) := by
  induction cs generalizing s with
  | nil => cases hc
  | cons k r ih =>
    obtain ⟨hnot, hr⟩ := List.nodup_cons.mp hcs
    by_cases hck : c = k
    · subst hck
      exact (judgeStandby_judged hrole hst).keep (foldl_judgeStandby_judges r _) (foldl_judgeStandby_chute hnot _)
    · have hsame : (judgeStandby k s).chute c = s.chute c := judgeStandby_chute_ne hck s
      have hrest := ih (s := judgeStandby k s) hr ((List.mem_cons.mp hc).resolve_left hck)
        (by rw [hsame]; exact hrole) (by rw [hsame]; exact hst)
      rw [hsame] at hrest
      exact hrest

end Sys2Proof.Machine
end

section
/-! PROOF. CUT OFF and UNBERTH (O52). -/

namespace Sys2Proof.Machine

variable {s : State} {sl : Slot} {c : ChuteId} {x : Chute} {g : Group}

/-! ### One chute (R88) -/

theorem Chute.unberth_other (h : ∀ g, x.group = some g → g.slot ≠ sl) : x.unberth sl = x := by
  unfold Chute.unberth
  split
  · next g hg => exact if_neg (h g hg)
  · rfl

theorem Chute.unberth_sort (hg : x.group = some g) (hsl : g.slot = sl) (hst : x.state ≠ .swapping)
    (hfill : x.fill = 0) (hrole : x.cfg.role = .sort) :
    x.unberth sl = { x with group := none, released := false, state := .unassigned } := by
  unfold Chute.unberth
  rw [hg]
  dsimp only
  rw [if_pos hsl, if_pos ⟨hst, hfill⟩, hrole]

theorem Chute.unberth_standby (hg : x.group = some g) (hsl : g.slot = sl) (hst : x.state ≠ .swapping)
    (hfill : x.fill = 0) (hrole : x.cfg.role = .standby) :
    x.unberth sl = { x with group := none, released := false, tookOver := none, state := .standbyIdle } := by
  unfold Chute.unberth
  rw [hg]
  dsimp only
  rw [if_pos hsl, if_pos ⟨hst, hfill⟩, hrole]

theorem Chute.unberth_held (hg : x.group = some g) (hsl : g.slot = sl) (h : x.state = .swapping ∨ 0 < x.fill) :
    x.unberth sl = { x with released := true } := by
  have hheld : ¬ (x.state ≠ .swapping ∧ x.fill = 0) := fun ⟨hst, hfill⟩ =>
    h.elim hst fun hpos => absurd hfill (Nat.ne_of_gt hpos)
  unfold Chute.unberth
  rw [hg]
  dsimp only
  rw [if_pos hsl, if_neg hheld]

/-! ### All the chutes of the slot (R88, R131) -/

/-- The chutes of a slot released and its blocked records removed, before the others are judged. -/
def State.chutesReleased (s : State) (sl : Slot) : State :=
  { s with chutes := s.chutes.map (·.unberth sl), blocked := s.blocked.filter fun r => r.group.slot != sl }

/-- The same with the other records judged where a chute record has changed (R131). -/
def State.chutesFreed (s : State) (sl : Slot) : State :=
  if s.chuteChanged (s.chutesReleased sl) then judgeBlocked (s.chutesReleased sl) else s.chutesReleased sl

/-- The standbys that have returned to STANDBY_IDLE. -/
def State.standbysFreed (s : State) (sl : Slot) : List ChuteId :=
  allChutes.filter fun c => ((s.chutesFreed sl).chute c).state = .standbyIdle && (s.chute c).state != .standbyIdle

theorem releaseChutes_def (sl : Slot) (s : State) : releaseChutes sl s =
    (s.standbysFreed sl).foldl (fun s c => judgeStandby c s) (s.chutesFreed sl) := rfl

theorem chutesReleased_chute (s : State) (sl : Slot) (c : ChuteId) :
    (s.chutesReleased sl).chute c = (s.chute c).unberth sl := Vector.get_map s.chutes _ c

theorem chutesFreed_eq (s : State) (sl : Slot) :
    s.chutesFreed sl = { s.chutesReleased sl with blocked := (s.chutesFreed sl).blocked } := by
  unfold State.chutesFreed
  split <;> rfl

theorem chutesFreed_chute (s : State) (sl : Slot) (c : ChuteId) :
    (s.chutesFreed sl).chute c = (s.chute c).unberth sl := by
  rw [chutesFreed_eq]
  exact chutesReleased_chute s sl c

theorem chutesFreed_blocked (s : State) (sl : Slot) : (s.chutesFreed sl).blocked ⊆ (s.chutesReleased sl).blocked := by
  unfold State.chutesFreed
  split
  · exact List.filter_subset_self _
  · exact fun _ h => h

theorem mem_standbysFreed : c ∈ s.standbysFreed sl ↔
    ((s.chute c).unberth sl).state = .standbyIdle ∧ (s.chute c).state ≠ .standbyIdle := by
  rw [State.standbysFreed, List.mem_filter, chutesFreed_chute]
  simp [allChutes]

theorem standbysFreed_nodup (s : State) (sl : Slot) : (s.standbysFreed sl).Nodup := (List.nodup_finRange 48).filter _

/-- A chute that has not returned to STANDBY_IDLE is left as UNBERTH of the slot leaves it. -/
theorem releaseChutes_chute
    (h : ((s.chute c).unberth sl).state = .standbyIdle → (s.chute c).state = .standbyIdle) :
    (releaseChutes sl s).chute c = (s.chute c).unberth sl := by
  have hnot : c ∉ s.standbysFreed sl := fun hc => by
    obtain ⟨hafter, hbefore⟩ := mem_standbysFreed.mp hc
    exact hbefore (h hafter)
  rw [releaseChutes_def, foldl_judgeStandby_chute hnot, chutesFreed_chute]

/-- R124: a standby that has returned to STANDBY_IDLE is judged. -/
theorem releaseChutes_standby (hafter : ((s.chute c).unberth sl).state = .standbyIdle)
    (hbefore : (s.chute c).state ≠ .standbyIdle) (hrole : ((s.chute c).unberth sl).cfg.role = .standby) :
    (releaseChutes sl s).standbyJudged c ((s.chute c).unberth sl) := by
  have hjudged := foldl_judgeStandby_judged (s := s.chutesFreed sl) (standbysFreed_nodup s sl)
    (mem_standbysFreed.mpr ⟨hafter, hbefore⟩) (by rw [chutesFreed_chute]; exact hrole)
    (by rw [chutesFreed_chute]; exact hafter)
  rw [chutesFreed_chute] at hjudged
  exact hjudged

theorem releaseChutes_blocked {r : BlockedGroup} (hr : r ∈ (releaseChutes sl s).blocked) : r.group.slot ≠ sl := by
  have hjudged := foldl_judgeStandby_judges (s.standbysFreed sl) (s.chutesFreed sl)
  have hreleased : r ∈ (s.chutesReleased sl).blocked := chutesFreed_blocked s sl (hjudged.blocked hr)
  simpa using (List.mem_filter.mp hreleased).2

/-- R131: where no chute has a group of the slot, no chute record changes and the other blocked records stand. -/
theorem releaseChutes_unchanged (h : ∀ c g, (s.chute c).group = some g → g.slot ≠ sl) :
    (releaseChutes sl s).blocked = s.blocked.filter fun r => r.group.slot != sl := by
  have hsame : ∀ c, (s.chute c).unberth sl = s.chute c := fun c => Chute.unberth_other (h c)
  have hfreed : s.chutesFreed sl = s.chutesReleased sl := if_neg (by
    simp [State.chuteChanged, chutesReleased_chute, hsame])
  have hnone : s.standbysFreed sl = [] := List.eq_nil_iff_forall_not_mem.mpr fun c hc => by
    obtain ⟨hafter, hbefore⟩ := mem_standbysFreed.mp hc
    exact hbefore (hsame c ▸ hafter)
  rw [releaseChutes_def, hnone, hfreed]
  rfl

theorem releaseChutes_eq (sl : Slot) (s : State) : releaseChutes sl s = { s with
    chutes := (releaseChutes sl s).chutes, blocked := (releaseChutes sl s).blocked
    strayArmed := (releaseChutes sl s).strayArmed, notices := (releaseChutes sl s).notices } := by
  have hframe : (releaseChutes sl s).sansChutes = s.sansChutes := by
    rw [releaseChutes_def, foldl_keeps State.sansChutes _ (fun u c => judgeStandby_frame c u), chutesFreed_eq]
    rfl
  exact eq_of_sansChutes hframe

/-- R87, R88: what an accepted UNBERTH leaves of one chute. -/
theorem releaseChutes_chutes (sl : Slot) (s : State) (c : ChuteId) :
    ((∀ g, (s.chute c).group = some g → g.slot ≠ sl) → (releaseChutes sl s).chute c = s.chute c) ∧
      ∀ g, (s.chute c).group = some g → g.slot = sl →
        ((s.chute c).cfg.role = .sort → (s.chute c).state ≠ .swapping → (s.chute c).fill = 0 →
          (releaseChutes sl s).chute c =
            { s.chute c with group := none, released := false, state := .unassigned }) ∧
        ((s.chute c).cfg.role = .standby → (s.chute c).state ≠ .swapping → (s.chute c).state ≠ .standbyIdle →
          (s.chute c).fill = 0 → (releaseChutes sl s).standbyJudged c { s.chute c with
            group := none, released := false, tookOver := none, state := .standbyIdle }) ∧
        ((s.chute c).state = .swapping ∨ 0 < (s.chute c).fill →
          (releaseChutes sl s).chute c = { s.chute c with released := true }) := by
  refine ⟨fun h => ?_, fun g hg hsl => ⟨fun hrole hst hfill => ?_, fun hrole hst hidle hfill => ?_, fun h => ?_⟩⟩
  · have hsame := Chute.unberth_other h
    exact (releaseChutes_chute fun hst => by rwa [hsame] at hst).trans hsame
  · have hfreed := Chute.unberth_sort hg hsl hst hfill hrole
    exact (releaseChutes_chute fun hst => by rw [hfreed] at hst; cases hst).trans hfreed
  · have hfreed := Chute.unberth_standby hg hsl hst hfill hrole
    have hjudged := releaseChutes_standby (s := s) (sl := sl) (c := c) (by rw [hfreed]) hidle
      (by rw [hfreed]; exact hrole)
    rw [hfreed] at hjudged
    exact hjudged
  · have hheld := Chute.unberth_held hg hsl h
    exact (releaseChutes_chute fun hst => by rwa [hheld] at hst).trans hheld

/-! ### The request (R87) -/

theorem filter_slot_bne {α : Type} (f : α → Slot) (sl : Slot) (xs : List α) :
    xs.filter (fun y => f y != sl) = xs.filter fun y => f y ≠ sl :=
  List.filter_congr fun _ _ => (decide_not ..).symm

theorem unberth_eq {p : Payload} (hsl : slotOf (u8 p 0) = some sl) : unberth p s =
    if (s.slot sl).state = .closed then .ok (releaseChutes sl (clearSlot sl s), .ok) else .error .state := by
  unfold unberth
  rw [hsl]

/-- Settles O52. -/
theorem cutOffDrainsAndUnberthClears : Obligations.cutOffDrainsAndUnberthClears := by
  intro l p s sl
  refine ⟨fun h hl => ⟨fun hst => ?_, fun hst hlaw => ?_⟩, fun h hsl => ⟨fun hst => ?_, fun hst => ?_⟩⟩
  · exact exec_refusedWith h (cutOff_closed (slotFor_eq hl) hst)
  · exact ⟨_, exec_cutOff_accepted h (slotFor_eq hl) hst, beginDrain_drains hlaw⟩
  · exact exec_refusedWith h ((unberth_eq hsl).trans (if_neg hst))
  · refine ⟨_, exec_answeredOk h ((unberth_eq hsl).trans (if_pos hst)), ?_, fun _ => releaseChutes_blocked,
      fun hnone => ?_, releaseChutes_chutes sl (clearSlot sl s)⟩
    · refine (releaseChutes_eq sl (clearSlot sl s)).trans ?_
      rw [clearSlot, filter_slot_bne]
      rfl
    · exact (releaseChutes_unchanged (s := clearSlot sl s) hnone).trans (filter_slot_bne _ sl s.blocked)

end Sys2Proof.Machine
end

/-! ## Proofs: the classification of bags (chapter 5) -/

section
/-! SUPPORT. The waiting law (R103) tray by tray, and what keeps it: a tray rewritten, a slot that stays LOADING or
FINAL, and whatever leaves the trays, the tag windows and the slots. -/

namespace Sys2Proof.Machine

-- Elaborated in turn, as the proof of O14 is, for the memory that the threads' stacks would take.
set_option Elab.async false

/-- A slot state in which a slot's bags may wait (R97, R99). -/
def SlotState.LetsWait (x : SlotState) : Prop := x = .loading ∨ x = .final

/-- A tag that decodes to a slot whose bags may wait. -/
def State.WaitSlot (s : State) (tag : Tag) (sl : Slot) : Prop :=
  s.decodeSlot tag = some sl ∧ (s.slot sl).state.LetsWait

/-- R103 for one tray: a WAITING bag is LOADED there, links no entry and no stray, and carries a tag and a slot of
which `fits` holds. -/
def Tray.Abides (fits : Tag → Slot → Prop) (x : Tray) : Prop :=
  ∀ b, x.bag = some b → b.isWaiting = true →
    x = .loaded b ∧ b.entryLink = none ∧ b.strayId = none ∧
    ∃ tag sl, b.tag = some tag ∧ b.slot = some sl ∧ fits tag sl

/-- The waiting law, read tray by tray. -/
theorem State.waitingLaw.tray {s : State} (h : s.waitingLaw) (k : Nat) : (s.tray k).Abides s.WaitSlot := h k

section Trays
variable {fits : Tag → Slot → Prop} {x : Tray} {b : BagRecord}

theorem Tray.Abides.mono {fits' : Tag → Slot → Prop} (h : x.Abides fits)
    (hf : ∀ tag sl, fits tag sl → fits' tag sl) : x.Abides fits' := fun b hb hw => by
  obtain ⟨hx, hlink, hid, tag, sl, htag, hsl, hfits⟩ := h b hb hw
  exact ⟨hx, hlink, hid, tag, sl, htag, hsl, hf tag sl hfits⟩

/-- Where no bag waits there is nothing to hold. -/
theorem Tray.abides_of_still (h : ∀ b, x.bag = some b → b.isWaiting = false) : x.Abides fits := fun b hb hw => by
  rw [h b hb] at hw
  cases hw

theorem Tray.abides_of_no_bag (h : x.bag = none) : x.Abides fits := fun b hb => by
  rw [h] at hb
  cases hb

/-- R103: a bag on a tray that is not LOADED does not wait. -/
theorem Tray.Abides.still (h : x.Abides fits) (hb : x.bag = some b) (hx : x ≠ .loaded b) : b.isWaiting = false :=
  Bool.eq_false_of_not_eq_true fun hw => hx (h b hb hw).1

theorem Tray.Abides.unselected (h : x.Abides fits) : x.unselected.Abides fits := by
  cases x with
  | selected b | armed b =>
    refine abides_of_still fun b' hb' => ?_
    obtain rfl := Option.some.inj hb'
    exact h.still rfl nofun
  | empty | reserved | loaded | fired | unconfirmed | suspect => exact h

/-- A bag record rewritten in nothing that R103 speaks of, but for a stray id dropped. -/
structure BagRecord.WaitsAs (b b' : BagRecord) : Prop where
  cls : b'.cls = b.cls
  tag : b'.tag = b.tag
  slot : b'.slot = b.slot
  entryLink : b'.entryLink = b.entryLink
  strayId : b.strayId = none → b'.strayId = none

theorem BagRecord.WaitsAs.isWaiting {b b' : BagRecord} (h : b.WaitsAs b') : b'.isWaiting = b.isWaiting := by
  unfold BagRecord.isWaiting
  rw [h.cls]

/-- A rewrite that changes nothing R103 speaks of where the tray's bag waits as it should. -/
theorem Tray.Abides.mapBag {f : BagRecord → BagRecord} (h : x.Abides fits)
    (hf : ∀ b, x.bag = some b → (f b).isWaiting = true → b.WaitsAs (f b)) : (x.mapBag f).Abides fits := by
  intro b' hb' hw
  rw [Tray.bag_mapBag] at hb'
  obtain ⟨b, hb, rfl⟩ := Option.map_eq_some_iff.mp hb'
  have hsame := hf b hb hw
  obtain ⟨rfl, hlink, hid, tag, sl, htag, hsl, hfits⟩ := h b hb (hsame.isWaiting.symm.trans hw)
  exact ⟨rfl, hsame.entryLink.trans hlink, hsame.strayId hid, tag, sl, hsame.tag.trans htag, hsame.slot.trans hsl,
    hfits⟩

/-- A rewrite after which no bag waits. -/
theorem Tray.abides_mapBag_still {f : BagRecord → BagRecord} (hf : ∀ b, (f b).isWaiting = false) :
    (x.mapBag f).Abides fits := abides_of_still fun b' hb' => by
  rw [Tray.bag_mapBag] at hb'
  obtain ⟨b, -, rfl⟩ := Option.map_eq_some_iff.mp hb'
  exact hf b

end Trays

/-! ### States -/

/-- `t` is under the waiting law where `s` is. -/
structure State.Heeds (s t : State) : Prop where
  law : s.waitingLaw → t.waitingLaw

theorem State.Heeds.refl (s : State) : s.Heeds s := ⟨id⟩

theorem State.Heeds.trans {s t u : State} (h : s.Heeds t) (k : t.Heeds u) : s.Heeds u := ⟨k.law ∘ h.law⟩

/-- The law of `s` may be used on the way to `t`. -/
theorem State.Heeds.given {s t : State} (h : s.waitingLaw → s.Heeds t) : s.Heeds t := ⟨fun hs => (h hs).law hs⟩

theorem foldl_heeds {α : Type} {f : State → α → State} (h : ∀ (s : State) (a : α), s.Heeds (f s a)) (xs : List α)
    (s : State) : s.Heeds (xs.foldl f s) := by
  induction xs generalizing s with
  | nil => exact .refl s
  | cons x r ih => exact (h s x).trans (ih _)

theorem ite_heeds {p : Prop} [Decidable p] {s a b : State} (ha : p → s.Heeds a) (hb : ¬p → s.Heeds b) :
    s.Heeds (if p then a else b) := by
  split
  · next h => exact ha h
  · next h => exact hb h

theorem waitingLaw_of_no_bags {s : State} (h : ∀ k, (s.tray k).bag = none) : s.waitingLaw := fun k =>
  Tray.abides_of_no_bag (h k)

section Heeds
variable {s t : State}

theorem waitSlot_of (windows : t.tagWindows = s.tagWindows)
    (slots : ∀ sl, (s.slot sl).state.LetsWait → (t.slot sl).state.LetsWait) {tag : Tag} {sl : Slot}
    (h : s.WaitSlot tag sl) : t.WaitSlot tag sl := by
  obtain ⟨hdec, hst⟩ := h
  refine ⟨?_, slots sl hst⟩
  rw [← hdec, State.decodeSlot, State.decode, windows]
  rfl

theorem waitSlot_of_eq (windows : t.tagWindows = s.tagWindows) (slots : t.slots = s.slots) {tag : Tag} {sl : Slot}
    (h : s.WaitSlot tag sl) : t.WaitSlot tag sl :=
  waitSlot_of windows (fun k hk => by rw [State.slot, slots]; exact hk) h

/-- Trays that each abide as before, in slots that let their bags wait on. -/
theorem State.Heeds.of_trays (trays : ∀ k, (s.tray k).Abides s.WaitSlot → (t.tray k).Abides s.WaitSlot)
    (fits : ∀ tag sl, s.WaitSlot tag sl → t.WaitSlot tag sl) : s.Heeds t where
  law h k := (trays k (h.tray k)).mono fits

/-- What leaves the trays, the tag windows and the slots. -/
theorem State.Heeds.quiet (trays : t.loop.trays = s.loop.trays := by rfl)
    (windows : t.tagWindows = s.tagWindows := by rfl) (slots : t.slots = s.slots := by rfl) : s.Heeds t := by
  refine .of_trays (fun k hk => ?_) fun _ _ => waitSlot_of_eq windows slots
  rw [State.tray, trays]
  exact hk

theorem heeds_of_sansNotices (h : t.sansNotices = s.sansNotices) : s.Heeds t :=
  .quiet (congrArg (·.loop.trays) h :) (congrArg State.tagWindows h :) (congrArg State.slots h :)

theorem heeds_of_sansInds (h : t.sansInds = s.sansInds) : s.Heeds t :=
  .quiet (congrArg (·.loop.trays) h :) (congrArg State.tagWindows h :) (congrArg State.slots h :)

theorem heeds_of_sansChutes (h : t.sansChutes = s.sansChutes) : s.Heeds t :=
  .quiet (congrArg (·.loop.trays) h :) (congrArg State.tagWindows h :) (congrArg State.slots h :)

theorem heeds_of_sansSelection (h : t.sansSelection = s.sansSelection)
    (trays : ∀ k, (s.tray k).Abides s.WaitSlot → (t.tray k).Abides s.WaitSlot) : s.Heeds t :=
  .of_trays trays fun _ _ => waitSlot_of_eq (congrArg State.tagWindows h :) (congrArg State.slots h :)

/-- One tray rewritten with what abides by R103 there. -/
theorem putTray_heeds {k : Nat} {x : Tray} (h : (s.tray k).Abides s.WaitSlot → x.Abides s.WaitSlot) :
    s.Heeds (putTray k x s) := .of_trays (fun j hj => by
  rw [tray_of_set (s := s) (u := putTray k x s) (t := k) (x := x) rfl]
  split
  · next e => exact h (e.1 ▸ hj)
  · exact hj) fun _ _ => id

theorem modBag_heeds {k : Nat} {f : BagRecord → BagRecord}
    (h : ∀ b, (s.tray k).bag = some b → (f b).isWaiting = true → b.WaitsAs (f b)) : s.Heeds (modBag k f s) :=
  putTray_heeds fun hk => hk.mapBag h

theorem modBag_still_heeds {k : Nat} {f : BagRecord → BagRecord} (h : ∀ b, (f b).isWaiting = false) :
    s.Heeds (modBag k f s) := putTray_heeds fun _ => Tray.abides_mapBag_still h

theorem modSlot_heeds {sl : Slot} {f : SlotRecord → SlotRecord}
    (h : (s.slot sl).state.LetsWait → (f (s.slot sl)).state.LetsWait) : s.Heeds (modSlot sl f s) :=
  .of_trays (fun _ => id) fun tag k => waitSlot_of (s := s) (t := modSlot sl f s) rfl fun j hj => by
    by_cases e : j = sl
    · subst e
      rw [modSlot_slot]
      exact h hj
    · rw [modSlot_slot_ne _ _ _ _ e]
      exact hj

end Heeds

/-! ### Notices, slots, trays, the loop hold -/

theorem modInd_heeds (i : IndId) (f : Induction → Induction) (s : State) : s.Heeds (modInd i f s) := .quiet

theorem raise_heeds (n : Notice) (sc : Scope) (s : State) : s.Heeds (raise n sc s) := .quiet

theorem raiseIf_heeds (b : Bool) (n : Notice) (sc : Scope) (s : State) : s.Heeds (raiseIf b n sc s) :=
  heeds_of_sansNotices (raiseIf_frame ..)

/-- R86: a report closes a slot in CLOSING, none whose bags may wait. -/
theorem reportZero_heeds (sl : Slot) (s : State) : s.Heeds (reportZero sl s) :=
  ite_heeds (fun h => .trans (modSlot_heeds fun hw => by rcases hw with hw | hw <;> rw [h] at hw <;> cases hw)
    (raise_heeds ..)) fun _ => .refl s

theorem reportCount_heeds (sl : Slot) (s : State) : s.Heeds (reportCount sl s) :=
  ite_heeds (fun _ => reportZero_heeds sl s) fun _ => .refl s

theorem judgeQuota_heeds (sl : Slot) (s : State) : s.Heeds (judgeQuota sl s) :=
  ite_heeds (fun _ => .trans (modSlot_heeds id) (raise_heeds ..)) fun _ =>
    ite_heeds (fun _ => modSlot_heeds id) fun _ => .refl s

theorem judgeLoopHold_heeds (s : State) : s.Heeds (judgeLoopHold s) :=
  ite_heeds (fun _ => .quiet) fun _ => ite_heeds (fun _ => .quiet) fun _ => .refl s

/-- A tray rewritten without a bag. -/
theorem putTray_no_bag_heeds {t : Nat} {x : Tray} {s : State} (hx : x.bag = none) : s.Heeds (putTray t x s) :=
  putTray_heeds fun _ => Tray.abides_of_no_bag hx

/-- A tray rewritten with a bag that does not wait. -/
theorem putTray_still_heeds {t : Nat} {x : Tray} {b : BagRecord} {s : State} (hx : x.bag = some b)
    (hb : b.isWaiting = false) : s.Heeds (putTray t x s) :=
  putTray_heeds fun _ => Tray.abides_of_still fun b' hb' => by
    obtain rfl := Option.some.inj (hx.symm.trans hb')
    exact hb

theorem emptyTray_heeds (t : Nat) (s : State) : s.Heeds (emptyTray t s) := by
  refine (putTray_no_bag_heeds (t := t) (x := .empty) rfl).trans (.trans ?_ (judgeLoopHold_heeds _))
  split
  · exact reportCount_heeds ..
  · exact .refl _

theorem loadTray_heeds {t : Nat} {b : BagRecord} {s : State} (h : b.isWaiting = false) : s.Heeds (loadTray t b s) :=
  (putTray_still_heeds rfl h).trans (judgeLoopHold_heeds _)

/-! ### Selections and fires -/

theorem cancelSelection_heeds (t : Nat) (s : State) : s.Heeds (cancelSelection t s) :=
  heeds_of_sansSelection (cancelSelection_frame t s) fun k hk => by
    rw [cancelSelection_tray]
    split
    · exact hk.unselected
    · exact hk

/-- R103: a bag that waits is not selected. -/
theorem passToSelection_heeds (t : Nat) (s : State) : s.Heeds (passToSelection t s) := by
  by_cases h : ∃ b, s.tray t = .loaded b ∧ b.isWaiting = true
  · obtain ⟨b, hb, hw⟩ := h
    rw [passToSelection_waiting hb hw]
    exact .refl s
  refine heeds_of_sansSelection (passToSelection_frame t s) fun k hk => ?_
  rcases passToSelection_trays t s with ht | ⟨b, c, a, d, hb, ht⟩
  · rw [State.tray, ht]
    exact hk
  · rw [tray_of_set ht]
    split
    · refine Tray.abides_of_still fun b' hb' => ?_
      obtain rfl := Option.some.inj hb'
      exact Bool.eq_false_of_not_eq_true fun hw => h ⟨_, hb, hw⟩
    · exact hk

theorem cancelAll_heeds (want : Tray → Bool) (s : State) : s.Heeds (cancelAll want s) :=
  foldl_heeds (fun s t => cancelSelection_heeds t s) _ s

theorem returnCommitted_heeds (c : ChuteId) (u : Nat) (s : State) : s.Heeds (returnCommitted c u s) :=
  heeds_of_sansChutes (returnCommitted_frame ..)

theorem armTray_heeds (t : Nat) (s : State) : s.Heeds (armTray t s) := by
  unfold armTray
  split
  case h_1 b c a d hb =>
    refine .given fun hs => ?_
    have hstill : b.isWaiting = false := (hs.tray t).still (by rw [hb]; rfl) (by rw [hb]; nofun)
    refine ite_heeds (fun _ => ite_heeds (fun _ => ?_) fun _ => ?_) fun _ => .refl s
    · exact ((returnCommitted_heeds ..).trans (putTray_still_heeds rfl hstill)).trans (raise_heeds ..)
    · exact .trans (.trans .quiet (putTray_still_heeds rfl hstill)) (raiseIf_heeds ..)
  all_goals exact .refl s

theorem closeUnconfirmed_heeds (c : ChuteId) (w : ConfirmWindow) (later : List ConfirmWindow) (s : State) :
    s.Heeds (closeUnconfirmed c w later s) := by
  unfold closeUnconfirmed
  split
  case h_1 b c' g hb =>
    refine .given fun hs => ite_heeds (fun _ => putTray_still_heeds rfl ?_) fun _ => .refl s
    exact (hs.tray w.tray).still (by rw [hb]; rfl) (by rw [hb]; nofun)
  all_goals exact .refl s

theorem openWindow_heeds (c : ChuteId) (t : Nat) (s : State) : s.Heeds (openWindow c t s) := by
  unfold openWindow
  dsimp only
  split
  · exact ite_heeds (fun _ => .trans .quiet (closeUnconfirmed_heeds ..)) fun _ => .quiet
  · exact .quiet

theorem fireRecord_heeds (r : FireRecord) (s : State) : s.Heeds (fireRecord r s) := by
  unfold fireRecord
  split
  case h_1 b c hb =>
    refine .given fun hs => ite_heeds (fun _ => ?_) fun _ => .refl s
    have hstill : b.isWaiting = false := (hs.tray r.tray).still (by rw [hb]; rfl) (by rw [hb]; nofun)
    refine .trans (.trans (heeds_of_sansChutes ?_) (putTray_still_heeds rfl hstill)) (openWindow_heeds ..)
    rw [judgeFill_frame, modChute_frame]
    rfl
  all_goals exact .refl s

theorem fireHead_heeds (s : State) : s.Heeds (fireHead s) := by
  unfold fireHead
  split
  · exact ite_heeds (fun _ => .trans .quiet (fireRecord_heeds ..)) fun _ => .refl s
  · exact .refl s

end Sys2Proof.Machine
end

section
/-! SUPPORT. What the bags on the loop bring about keeps the waiting law: strays, classifications, wakes, the check
eye, claims and the acts of a pitch event (R12 to R23, R40, R94 to R105). -/

namespace Sys2Proof.Machine

-- Elaborated in turn, as the proof of O14 is, for the memory that the threads' stacks would take.
set_option Elab.async false

/-! ### Bags, entries and strays -/

theorem modEntry_heeds (tag : Tag) (f : BagEntry → BagEntry) (s : State) : s.Heeds (modEntry tag f s) := .quiet

theorem modStray_heeds (id : BitVec 16) (f : StrayEntry → StrayEntry) (s : State) : s.Heeds (modStray id f s) :=
  .quiet

theorem sortEntry_heeds (tag : Tag) (c : ChuteId) (u : Bool) (s : State) : s.Heeds (sortEntry tag c u s) := by
  unfold sortEntry
  split
  · split
    case h_1 => exact (modEntry_heeds ..).trans (raiseIf_heeds ..)
    all_goals exact .refl s
  · exact .refl s

theorem countStray_heeds (sl : Option Slot) (s : State) : s.Heeds (countStray sl s) := by
  unfold countStray
  split
  · exact modSlot_heeds id
  · exact .refl s

theorem recordStray_heeds (q : StrayRequest) (s : State) : s.Heeds (recordStray q s).state := by
  refine (countStray_heeds q.slot s).trans ?_
  unfold recordStray
  dsimp only
  split
  · exact modStray_heeds ..
  · split
    · exact .quiet
    · exact .quiet

theorem reinductStray_heeds (tag : Tag) (sl : Slot) (s : State) : s.Heeds (reinductStray tag sl s).state := by
  unfold reinductStray
  split
  · exact modStray_heeds ..
  · exact .refl s

/-- R166: a bag record that loses its stray id waits as before. -/
theorem removeStray_heeds (id : BitVec 16) (s : State) : s.Heeds (removeStray id s) := by
  refine .of_trays (fun k hk => ?_) fun _ _ => waitSlot_of_eq rfl rfl
  have htray : (removeStray id s).tray k =
      (s.tray k).mapBag fun b => if b.strayId = some id then { b with strayId := none } else b := by
    simp only [removeStray, State.tray, List.getD_eq_getElem?_getD, List.getElem?_map]
    cases s.loop.trays[k]? <;> rfl
  rw [htray]
  refine hk.mapBag fun b _ _ => ?_
  split
  · exact ⟨rfl, rfl, rfl, rfl, fun _ => rfl⟩
  · exact ⟨rfl, rfl, rfl, rfl, fun h => h⟩

theorem straySorted_heeds (id : Option (BitVec 16)) (s : State) : s.Heeds (straySorted id s) := by
  unfold straySorted
  split
  · exact ite_heeds (fun _ => removeStray_heeds ..) fun _ => .refl s
  · exact .refl s

theorem undoStray_heeds (u : UndoStray) (s : State) : s.Heeds (undoStray u s) := by
  unfold undoStray
  split
  · split
    · exact ite_heeds (fun _ => removeStray_heeds ..) fun _ =>
        ite_heeds (fun _ => modStray_heeds ..) fun _ => .refl s
    · exact .refl s
  · split
    · exact ite_heeds (fun _ => modStray_heeds ..) fun _ => .refl s
    · exact .refl s

theorem undoNote_heeds (linked : Option Tag) (n : UndoNote) (s : State) : s.Heeds (undoNote linked n s) := by
  have hrestored : s.Heeds (restoreLinked linked n s) := by
    rw [restoreLinked_eq]
    exact .quiet
  rw [undoNote_def]
  split
  · exact hrestored.trans (undoStray_heeds ..)
  · exact hrestored

theorem sortBag_heeds (b : BagRecord) (c : ChuteId) (u : Bool) (s : State) : s.Heeds (sortBag b c u s) := by
  unfold sortBag
  split
  · exact (sortEntry_heeds ..).trans (straySorted_heeds ..)
  · split
    · exact ite_heeds (fun _ => modStray_heeds ..) fun _ => .refl s
    · exact .refl s

theorem loseBag_heeds (b : BagRecord) (s : State) : s.Heeds (loseBag b s) := by
  rw [loseBag_eq]
  exact .quiet

/-! ### Classification -/

theorem makeStray_heeds (t : Nat) (q : StrayRequest) (s : State) : s.Heeds (makeStray t q s).state :=
  (recordStray_heeds q s).trans (modBag_still_heeds fun _ => rfl)

theorem routeBag_heeds (t : Nat) (sl : Slot) (e : BagEntry) (s : State) : s.Heeds (routeBag t sl e s).state :=
  .trans (.trans (modEntry_heeds ..) (reinductStray_heeds ..)) (modBag_still_heeds fun _ => rfl)

/-- A bag that a classification within a slot is about: LOADED, with the tag and the slot. -/
structure State.LoadedWith (s : State) (t : Nat) (tag : Tag) (sl : Slot) (b : BagRecord) : Prop where
  loaded : s.tray t = .loaded b
  tag : b.tag = some tag
  slot : b.slot = some sl

section Waits
variable {s : State} {t : Nat} {tag : Tag} {sl : Slot} {b : BagRecord}

/-- R97, R99, R103: a LOADED bag that comes to wait for its slot. -/
theorem makeWaiting_heeds (h : s.LoadedWith t tag sl b) (hw : s.WaitSlot tag sl) (reason : WaitReason) :
    s.Heeds (makeWaiting t reason s).state := by
  refine putTray_heeds fun _ b' hb' _ => ?_
  rw [Tray.bag_mapBag, h.loaded] at hb'
  obtain rfl := Option.some.inj hb'
  rw [h.loaded]
  exact ⟨rfl, rfl, rfl, tag, sl, h.tag, h.slot, hw⟩

theorem classifyEntry_heeds (h : s.LoadedWith t tag sl b) (hdec : s.decodeSlot tag = some sl) (e : BagEntry) :
    s.Heeds (classifyEntry t tag sl e s).state := by
  unfold classifyEntry
  split
  case h_1 | h_2 => exact (raise_heeds ..).trans (makeStray_heeds ..)
  all_goals
    split
    · exact routeBag_heeds ..
    · split
      · next hst => exact makeWaiting_heeds h ⟨hdec, .inl hst⟩ _
      · exact makeStray_heeds ..

theorem classifyInSlot_heeds (h : s.LoadedWith t tag sl b) (hdec : s.decodeSlot tag = some sl) :
    s.Heeds (classifyInSlot t tag sl s).state := by
  unfold classifyInSlot
  split
  · exact makeStray_heeds ..
  · split
    · exact classifyEntry_heeds h hdec _
    · split
      · next hst => exact makeWaiting_heeds h ⟨hdec, .inl hst⟩ _
      · exact makeStray_heeds ..

/-- What a classification asks of its tray: the bag is LOADED, and a slot it carries is the one its tag decodes to. -/
structure State.Classifiable (s : State) (t : Nat) (b : BagRecord) : Prop where
  loaded : s.tray t = .loaded b
  slot : ∀ tag sl, b.tag = some tag → s.decodeSlot tag = some sl → b.slot.or (some sl) = some sl

/-- A bag on its way to its first classification. -/
theorem classifiable_of_no_slot (hb : s.tray t = .loaded b) (hslot : b.slot = none) : s.Classifiable t b :=
  ⟨hb, fun _ _ _ _ => by rw [hslot]; rfl⟩

/-- R103: a bag that waits may be classified again. -/
theorem State.waitingLaw.classifiable (h : s.waitingLaw) (hb : (s.tray t).bag = some b) (hw : b.isWaiting = true) :
    s.Classifiable t b := by
  obtain ⟨hloaded, -, -, tag, sl, htag, hsl, hdec, -⟩ := h.tray t b hb hw
  refine ⟨hloaded, fun tag' sl' htag' hdec' => ?_⟩
  obtain rfl := Option.some.inj (htag.symm.trans htag')
  obtain rfl := Option.some.inj (hdec.symm.trans hdec')
  rw [hsl]
  rfl

theorem classifyTag_heeds (h : s.Classifiable t b) (htag : b.tag = some tag) :
    s.Heeds (classifyTag t tag s).state := by
  unfold classifyTag
  split
  · exact makeStray_heeds ..
  · next sl hdec =>
    -- A bag that waits carries its slot already, so taking the slot keeps the law.
    have htaken : s.Heeds (modBag t (fun b => { b with slot := b.slot.or (some sl) }) s) := by
      refine putTray_heeds fun hk => ?_
      cases hw : b.isWaiting with
      | false =>
        refine Tray.abides_of_still fun b' hb' => ?_
        rw [Tray.bag_mapBag, h.loaded] at hb'
        obtain rfl := Option.some.inj hb'
        exact hw
      | true =>
        obtain ⟨-, -, -, _, sl', -, hsl', -⟩ := hk b (by rw [h.loaded]; rfl) hw
        refine hk.mapBag fun b' hb' _ => ?_
        rw [h.loaded] at hb'
        obtain rfl := Option.some.inj hb'
        exact ⟨rfl, rfl, by rw [hsl']; rfl, rfl, id⟩
    have hloaded : (modBag t (fun b => { b with slot := b.slot.or (some sl) }) s).LoadedWith t tag sl
        { b with slot := b.slot.or (some sl) } :=
      ⟨by rw [modBag_tray, h.loaded]; rfl, htag, h.slot tag sl htag hdec⟩
    split
    case h_1 | h_2 => exact makeStray_heeds ..
    all_goals exact htaken.trans (classifyInSlot_heeds hloaded hdec)

/-- R94 to R100: a bag that a classification lets wait is LOADED and carries the slot its tag decodes to. -/
theorem classify_heeds (h : ∀ b, (s.tray t).bag = some b → s.Classifiable t b) : s.Heeds (classify t s).state := by
  unfold classify
  split
  · exact .refl s
  · next b hb =>
    split
    · exact makeStray_heeds ..
    · next tag htag =>
      split
      · exact makeStray_heeds ..
      · have hread : (modBag t (fun b => { b with tag2 := none }) s).tray t = .loaded { b with tag2 := none } := by
          rw [modBag_tray, (h b hb).loaded]
          rfl
        have hone : s.Heeds (modBag t (fun b => { b with tag2 := none }) s) :=
          modBag_heeds fun _ _ _ => ⟨rfl, rfl, rfl, rfl, id⟩
        exact hone.trans (classifyTag_heeds ⟨hread, (h b hb).slot⟩ htag)

end Waits

/-! ### Wakes and the check eye -/

theorem raiseExpired_heeds (t : Nat) (s : State) : s.Heeds (raiseExpired t s) :=
  heeds_of_sansNotices (raiseExpired_frame ..)

theorem wakeTray_heeds (t : Nat) (s : State) : s.Heeds (wakeTray t s) := by
  rcases wakeTray_cases t s with ⟨b, hb, hw, e⟩ | e
  · refine .given fun hs => ?_
    have hclass : s.Heeds (classify t s).state := classify_heeds fun b' hb' => by
      rw [hb] at hb'
      obtain rfl := Option.some.inj hb'
      exact hs.classifiable (by rw [hb]; rfl) hw
    rw [e]
    refine (hclass.trans ?_).trans (passToSelection_heeds ..)
    rw [wakeJudged_eq]
    exact .quiet
  · rw [e]
    exact .refl s

theorem wakeWhere_heeds (sl : Slot) (want : BagRecord → Bool) (s : State) : s.Heeds (wakeWhere sl want s) :=
  foldl_heeds (fun s t => wakeTray_heeds t s) _ s

theorem judgeWait_heeds {t : Nat} {s : State} {b : BagRecord} (hb : (s.tray t).bag = some b)
    (hw : b.isWaiting = true) : s.Heeds (judgeWait t s) := by
  refine .given fun hs => .trans (classify_heeds (t := t) fun b' hb' => ?_) ?_
  · obtain rfl := Option.some.inj (hb.symm.trans hb')
    exact hs.classifiable hb hw
  · unfold judgeWait
    dsimp only
    split
    · split
      · exact ite_heeds (fun _ => (makeStray_heeds ..).trans (raise_heeds ..)) fun _ => .refl _
      · exact .refl _
      · exact raiseExpired_heeds ..
    · exact .refl _

theorem judgeLimit_heeds (t : Nat) (s : State) : s.Heeds (judgeLimit t s) := by
  unfold judgeLimit
  split
  · refine ite_heeds (fun _ => ?_) fun _ => .refl s
    dsimp only
    split
    · exact (makeStray_heeds ..).trans (modEntry_heeds ..)
    · exact makeStray_heeds ..
  · exact .refl s

theorem newPass_heeds (t : Nat) (s : State) : s.Heeds (newPass t s) := by
  rw [newPass_eq]
  refine .trans (.trans ?_ (judgeLimit_heeds ..)) (passToSelection_heeds ..)
  have hpass : s.Heeds (modBag t (fun b => { b with passes := min 8 (b.passes + 1) }) s) :=
    modBag_heeds fun _ _ _ => ⟨rfl, rfl, rfl, rfl, id⟩
  unfold passJudged
  dsimp only
  split
  · next b hb => exact ite_heeds (fun hw => hpass.trans (judgeWait_heeds hb hw)) fun _ => hpass
  · exact hpass

theorem loadOrphan_heeds (t : Nat) (s : State) : s.Heeds (loadOrphan t s) :=
  .trans (.trans (loadTray_heeds rfl) (makeStray_heeds ..)) (passToSelection_heeds ..)

theorem orphanFound_heeds (t : Nat) (s : State) : s.Heeds (orphanFound t s) := by
  refine .trans ?_ ((raise_heeds ..).trans (loadOrphan_heeds ..))
  split
  case h_1 => exact heeds_of_sansInds (loseReservation_frame ..)
  all_goals exact .refl s

theorem settleLoaded_heeds (t : Nat) (b : BagRecord) (eye : Bool) (s : State) : s.Heeds (settleLoaded t b eye s) :=
  ite_heeds (fun _ => newPass_heeds ..) fun _ =>
    ((raise_heeds ..).trans (loseBag_heeds ..)).trans (emptyTray_heeds ..)

theorem settleUnconfirmed_heeds {b : BagRecord} (hb : b.isWaiting = false) (t : Nat) (c : ChuteId) (g : BitVec 8)
    (eye : Bool) (s : State) : s.Heeds (settleUnconfirmed t b c g eye s) := by
  refine ite_heeds (fun _ => ?_) fun _ => ((sortBag_heeds ..).trans (raise_heeds ..)).trans (emptyTray_heeds ..)
  exact .trans (.trans (heeds_of_sansChutes ((tiltFailed_frame ..).trans (returnFill_frame ..)))
    (putTray_still_heeds rfl hb)) (newPass_heeds ..)

theorem settleRow_heeds (t : Nat) (eye : Bool) (s : State) : s.Heeds (settleRow t eye s) := by
  have hstill : ∀ b, (s.tray t).bag = some b → s.tray t ≠ .loaded b → s.waitingLaw → b.isWaiting = false :=
    fun b hb hne hs => (hs.tray t).still hb hne
  unfold settleRow
  split
  case h_1 | h_2 => exact ite_heeds (fun _ => orphanFound_heeds ..) fun _ => .refl s
  case h_3 => exact settleLoaded_heeds ..
  case h_4 b c g hb =>
    exact .given fun hs => settleUnconfirmed_heeds (hstill b (by rw [hb]; rfl) (by rw [hb]; nofun) hs) ..
  case h_5 => exact ((cancelSelection_heeds ..).trans (raise_heeds ..)).trans (settleLoaded_heeds ..)
  case h_6 b c g hb =>
    refine .given fun hs => ?_
    have hw := hstill b (by rw [hb]; rfl) (by rw [hb]; nofun) hs
    exact .trans (.trans .quiet (putTray_still_heeds rfl hw)) (settleUnconfirmed_heeds hw ..)
  case h_7 => exact ite_heeds (fun _ => loadOrphan_heeds ..) fun _ => emptyTray_heeds ..
  case h_8 => exact .refl s

theorem confirmLaunch_heeds (t : Nat) (s : State) : s.Heeds (confirmLaunch t s) :=
  modBag_heeds fun _ _ _ => ⟨rfl, rfl, rfl, rfl, id⟩

theorem closeLaunch_heeds (t : Nat) (s : State) : s.Heeds (closeLaunch t s) :=
  ite_heeds
    (fun _ => (foldl_heeds (f := fun s i =>
        modInd i (fun r => { r with windows := r.windows.filter fun w => w.tray != t }) s)
      (fun _ _ => .quiet) _ s).trans (confirmLaunch_heeds ..))
    fun _ => .refl s

theorem reconcile_heeds (t : Nat) (eye : Bool) (s : State) : s.Heeds (reconcile t eye s) :=
  (closeLaunch_heeds ..).trans (settleRow_heeds ..)

/-! ### Claims, grants and the acts of a pitch event -/

theorem settleHolds_heeds (v u : State) : u.Heeds (settleHolds v u) := heeds_of_sansInds (settleHolds_frame v u)

theorem requestReservation_heeds (i : IndId) (s : State) : s.Heeds (requestReservation i s) :=
  heeds_of_sansInds (requestReservation_frame ..)

theorem grantReservation_heeds (s : State) : s.Heeds (grantReservation s) := by
  refine ite_heeds (fun _ => ?_) fun _ => .refl s
  split
  · exact .trans (putTray_no_bag_heeds rfl) .quiet
  · exact .refl s

theorem freeReserved_heeds (i : IndId) (t : Nat) (s : State) : s.Heeds (freeReserved i t s) :=
  ite_heeds (fun _ => putTray_no_bag_heeds rfl) fun _ => .refl s

/-- R14, R40: the new bag carries no slot until its classification. -/
theorem claimTray_heeds (i : IndId) (t : Nat) (s : State) : s.Heeds (claimTray i t s) := by
  unfold claimTray
  split
  next r q _ =>
    refine (modInd_heeds i (fun x => { x with queue := q, waitCount := 0 }.judgeQueue) s).trans ?_
    generalize modInd i (fun x => { x with queue := q, waitCount := 0 }.judgeQueue) s = u
    refine .trans (.trans (.trans (loadTray_heeds (b := newBag i r) (t := t) rfl) (classify_heeds fun b hb => ?_))
      (passToSelection_heeds ..)) .quiet
    have hloaded : (loadTray t (newBag i r) u).tray t = .loaded (newBag i r) := by
      rw [tray_of_set (loadTray_trays t (newBag i r) u)] at hb ⊢
      split
      · rfl
      · next hnot =>
        rw [if_neg hnot, tray_of_le (not_lt.mp fun ht => hnot ⟨rfl, ht⟩)] at hb
        cases hb
    rw [hloaded] at hb
    obtain rfl := Option.some.inj hb
    exact classifiable_of_no_slot hloaded rfl
  next => exact .refl s

theorem releaseGranted_heeds (i : IndId) (t : Nat) (s : State) : s.Heeds (releaseGranted i t s) :=
  ite_heeds (fun _ => .trans (freeReserved_heeds ..) .quiet) fun _ => .refl s

theorem claimCheck_heeds (hold : Bool) (i : IndId) (s : State) : s.Heeds (claimCheck hold i s) := by
  unfold claimCheck
  dsimp only
  split
  · exact (claimTray_heeds ..).trans (requestReservation_heeds ..)
  · refine .trans ?_ ((modInd_heeds ..).trans (requestReservation_heeds ..))
    exact ite_heeds (fun _ => releaseGranted_heeds ..) fun _ => .refl s

theorem doAct_heeds (hold eye : Bool) (s : State) (a : PitchAct) : s.Heeds (doAct hold eye s a) := by
  refine .trans ?_ (settleHolds_heeds s _)
  cases a with
  | claim i => exact claimCheck_heeds ..
  | grant => exact grantReservation_heeds _
  | reconcile => exact reconcile_heeds ..
  | arm t => exact armTray_heeds ..
  | reselect t => exact passToSelection_heeds ..

theorem expireWindows_heeds (i : IndId) (s : State) : s.Heeds (expireWindows i s) :=
  .trans (foldl_heeds (fun s (w : LaunchWindow) => confirmLaunch_heeds w.tray s) _ s) .quiet

theorem pitchActs_heeds (hold first : Bool) (order : List Nat) (eye : Bool) (s : State) :
    s.Heeds (pitchActs hold first order eye s) :=
  (foldl_heeds (f := fun s i => expireWindows i (countWindows i s))
    (fun _ _ => .trans .quiet (expireWindows_heeds ..)) _ s).trans (foldl_heeds (doAct_heeds hold eye) _ _)

/-- R12: no tray has a bag after a track slip. -/
theorem slipTrays_waitingLaw (s : State) : (slipTrays s).waitingLaw := waitingLaw_of_no_bags fun k => by
  rw [slipTrays_tray]
  split
  · rfl
  · next h => exact Option.not_isSome_iff_eq_none.mp h

theorem homeSample_heeds (home : Bool) (s : State) : s.Heeds (homeSample home s) := by
  rw [homeSample_eq]
  exact .quiet

theorem pitchEvent_heeds (order : List Nat) (home eye : Bool) (s : State) :
    s.Heeds (pitchEvent order home eye s) := by
  have hpitched : s.Heeds (settleHolds s (pitchLoop s)) := .trans (.quiet (pitchLoop_trays s)) (settleHolds_heeds ..)
  unfold pitchEvent
  dsimp only
  split
  · exact .refl s
  · split
    · exact .trans ⟨fun _ => slipTrays_waitingLaw _⟩ ((reconcile_heeds ..).trans (settleHolds_heeds ..))
    · exact (hpitched.trans (homeSample_heeds ..)).trans (pitchActs_heeds ..)

theorem enterStalled_heeds (s : State) : s.Heeds (enterStalled s) :=
  .trans (.trans (cancelAll_heeds ..) .quiet) (settleHolds_heeds ..)

/-! ### Launch answers and confirmations -/

theorem takeFailure_heeds {t : Nat} {s u : State} (h : takeFailure t s = some u) : s.Heeds u := by
  have hfill : ∀ (c : ChuteId) (g : BitVec 8) (n : Nat), s.Heeds (returnFill c g n s) :=
    fun _ _ _ => heeds_of_sansChutes (returnFill_frame ..)
  unfold takeFailure at h
  split at h
  all_goals cases h
  case h_1 => exact emptyTray_heeds ..
  case h_2 => exact (returnCommitted_heeds ..).trans (emptyTray_heeds ..)
  case h_3 => exact .trans (.trans .quiet (returnCommitted_heeds ..)) (emptyTray_heeds ..)
  case h_4 => exact .trans (.trans (hfill ..) .quiet) (emptyTray_heeds ..)
  case h_5 => exact (hfill ..).trans (emptyTray_heeds ..)

theorem returnRead_heeds (i : IndId) (rec : ReadRecord) (s : State) : s.Heeds (returnRead i rec s) := by
  rw [returnRead_eq]
  exact .quiet

theorem failLaunch_heeds (i : IndId) (w : LaunchWindow) (s : State) : s.Heeds (failLaunch i w s) := by
  unfold failLaunch
  split
  · next u hu =>
    exact ((takeFailure_heeds hu).trans (undoNote_heeds ..)).trans (returnRead_heeds ..)
  · exact .refl s

theorem takeAnswer_heeds (i : IndId) (kind : AnswerKind) (t : Nat) (s : State) : s.Heeds (takeAnswer i kind t s) := by
  unfold takeAnswer
  split
  · dsimp only
    split
    · exact .trans .quiet (confirmLaunch_heeds ..)
    · exact .trans (.trans .quiet (failLaunch_heeds ..)) (settleHolds_heeds ..)
  · exact .quiet

theorem confirmTray_heeds (c : ChuteId) (w : ConfirmWindow) (later : List ConfirmWindow) (s : State) :
    s.Heeds (confirmTray c w later s) := by
  unfold confirmTray
  split
  case h_1 => exact ite_heeds (fun _ => (emptyTray_heeds ..).trans (sortBag_heeds ..)) fun _ => .refl s
  all_goals exact .refl s

theorem confirmOldest_heeds (c : ChuteId) (s : State) : s.Heeds (confirmOldest c s) := by
  unfold confirmOldest
  split
  · exact .trans .quiet (confirmTray_heeds ..)
  · exact .refl s

end Sys2Proof.Machine
end

section
/-! PROOF. Every step keeps the waiting law (O17). -/

namespace Sys2Proof.Machine

-- Elaborated in turn, as the proof of O14 is, for the memory that the threads' stacks would take.
set_option Elab.async false

/-- Whatever state an answer goes with is under the waiting law where `s` is. -/
def Answer.Heeds (s : State) (a : Answer) : Prop := ∀ t reply, a = .ok (t, reply) → s.Heeds t

/-- Whatever state a command leaves is under the waiting law where `s` is. -/
def Out.Heeds (s : State) (o : Out) : Prop := ∀ t, o = .next t → s.Heeds t

theorem Answer.heeds_error {s : State} {r : Reason} : Answer.Heeds s (.error r) := fun _ _ e => by cases e

theorem Answer.heeds_ok {s t : State} {reply : Reply} (h : s.Heeds t) : Answer.Heeds s (.ok (t, reply)) :=
  fun _ _ e => (Prod.mk.inj (Except.ok.inj e)).1 ▸ h

theorem Out.heeds_next {s t : State} (h : s.Heeds t) : Out.Heeds s (.next t) :=
  fun _ e => Host.Outcome.next.inj e ▸ h

variable {s : State}

/-! ### The loop and the inductions (chapters 1 and 2) -/

theorem waitingLaw_of_empty_trays {n : Nat} (h : s.loop.trays = List.replicate n .empty) : s.waitingLaw :=
  waitingLaw_of_no_bags fun k => by
    rw [State.tray, h, List.getD_eq_getElem?_getD, List.getElem?_replicate]
    split <;> rfl

theorem rebuildTrays_waitingLaw (n : Nat) (s : State) : (rebuildTrays n s).waitingLaw := by
  have hempty : State.waitingLaw { s with
      loop := { s.loop with trays := List.replicate n .empty, pos := 0, homeMiss := 0 } } :=
    waitingLaw_of_empty_trays rfl
  exact (foldl_heeds (f := fun s i => modInd i (fun r => { r with reservation := r.reservation.rebuild }) s)
    (fun _ _ => .quiet) _ _).law ((heeds_of_sansInds (dropWindows_frame _)).law hempty)

theorem configureLoop_heeds (p : Payload) : Answer.Heeds s (configureLoop p s) := by
  unfold configureLoop
  dsimp only
  have hset : ∀ (u : State) (cfg : LoopConfig),
      u.Heeds (settleHolds s (judgeLoopHold { u with loop := { u.loop with cfg := cfg } })) := fun u cfg =>
    .trans (t := { u with loop := { u.loop with cfg := cfg } }) .quiet
      ((judgeLoopHold_heeds _).trans (settleHolds_heeds ..))
  repeat' split
  any_goals exact Answer.heeds_error
  · exact Answer.heeds_ok (.trans ⟨fun _ => rebuildTrays_waitingLaw _ s⟩ (hset ..))
  · exact Answer.heeds_ok (hset ..)

theorem startLoop_heeds : Answer.Heeds s (startLoop s) := by
  unfold startLoop
  split
  · exact Answer.heeds_ok (.trans .quiet (settleHolds_heeds ..))
  · exact Answer.heeds_error

theorem stopLoop_heeds : Answer.Heeds s (stopLoop s) := by
  unfold stopLoop
  split
  · exact Answer.heeds_ok (.refl s)
  · exact Answer.heeds_ok (.trans (.trans (cancelAll_heeds ..) .quiet) (settleHolds_heeds ..))

/-- R25: RESET LOOP leaves every tray EMPTY. -/
theorem resetLoop_heeds : Answer.Heeds s (resetLoop s) := by
  unfold resetLoop
  split
  · have hcleared : (resetMotion s).waitingLaw := waitingLaw_of_empty_trays (n := s.T) (by rw [resetMotion_eq]; rfl)
    exact Answer.heeds_ok (.trans ⟨fun _ => hcleared⟩ (settleHolds_heeds ..))
  · exact Answer.heeds_error

/-- R28: a GRANTED tray given up becomes EMPTY; the rest is the induction's. -/
theorem applyInduction_heeds (i : IndId) (offset n w : Nat) (enabled : Bool) (s : State) :
    s.Heeds (applyInduction i offset n w enabled s) := by
  have hended : ∀ u : State, u.Heeds (endGranted i u) := fun u => by
    unfold endGranted
    split
    · exact (freeReserved_heeds ..).trans (modInd_heeds ..)
    all_goals exact .refl u
  unfold applyInduction
  dsimp only
  refine .trans ?_ (settleHolds_heeds ..)
  have hset := (ite_heeds (p := offset ≠ (s.ind i).offset) (fun _ => hended s) fun _ => .refl s).trans
    (modInd_heeds i (fun x =>
      { x with
        offset := offset, n := n, w := w, enabled := enabled
        resendCount := if n ≠ (s.ind i).n then 0 else x.resendCount }) _)
  exact ite_heeds (fun _ => hset.trans (modInd_heeds ..)) fun _ => hset

theorem configureInduction_heeds (p : Payload) : Answer.Heeds s (configureInduction p s) := by
  unfold configureInduction
  dsimp only
  repeat' split
  any_goals exact Answer.heeds_error
  exact Answer.heeds_ok (applyInduction_heeds ..)

theorem inductionResume_heeds (p : Payload) : Answer.Heeds s (inductionResume p s) := by
  unfold inductionResume
  repeat' split
  any_goals exact Answer.heeds_error
  exact Answer.heeds_ok ((modInd_heeds ..).trans (settleHolds_heeds ..))

/-! ### Tag windows and the manifest (chapter 3) -/

/-- R53, R54: a window not in use, written with one that matches no tag of a window in use. -/
theorem putWindow_heeds {n : Fin 8} {w : TagWindow} (hold : s.windowInUse (s.tagWindows.get n) = false)
    (hnew : ∀ m tag, m ≠ n → s.windowServes (s.tagWindows.get m) = true →
      (s.tagWindows.get m).isMatch tag = true → w.isMatch tag = false) : s.Heeds (putWindow n w s) := by
  refine .of_trays (fun _ => id) fun tag sl hwait => ?_
  obtain ⟨hdec, hst⟩ := hwait
  have hslot : (s.slot sl).state ≠ .vacant := by
    rcases hst with h | h <;> rw [h] <;> nofun
  have holdm : (s.tagWindows.get n).isMatch tag = false := Bool.eq_false_of_not_eq_true fun hm => by
    rw [windowInUse_of_match hdec hslot hm] at hold
    cases hold
  have hnewm : w.isMatch tag = false := by
    obtain ⟨m, hm, hserves⟩ := serves_of_decodeSlot hdec hslot
    refine hnew m tag ?_ hserves hm
    rintro rfl
    rw [holdm] at hm
    cases hm
  exact ⟨(congrArg (·.bind Target.slot) (decode_putWindow holdm hnewm) :).trans hdec, hst⟩

theorem setWindow_heeds (p : Payload) : Answer.Heeds s (setWindow p s) := by
  unfold setWindow
  dsimp only
  repeat' split
  any_goals exact Answer.heeds_error
  next hunused =>
    rw [not_or, List.any_eq_true, not_exists] at hunused
    obtain ⟨hold, hother⟩ := hunused
    refine Answer.heeds_ok (putWindow_heeds (Bool.eq_false_of_not_eq_true hold) fun m tag hmn hserves hm => ?_)
    by_contra hw
    refine hother _ ⟨mem_otherWindows.mpr ⟨m, hmn, rfl⟩, Bool.and_eq_true_iff.mpr ⟨hserves, ?_⟩⟩
    exact prefixRelated_of_match (Bool.eq_true_of_not_eq_false hw) hm

theorem clearWindow_heeds (p : Payload) : Answer.Heeds s (clearWindow p s) := by
  unfold clearWindow
  dsimp only
  split
  · split
    · exact Answer.heeds_error
    · next hunused =>
      exact Answer.heeds_ok (putWindow_heeds (Bool.eq_false_of_not_eq_true hunused) fun _ _ _ _ _ => rfl)
  · exact Answer.heeds_error

theorem addBag_heeds (sl : Slot) (p : Payload) : Answer.Heeds s (addBag sl p s) := by
  have hmatch : ∀ (tag : Tag) (u : State), u.Heeds (matchStray sl tag u) := fun tag u => by
    unfold matchStray
    split
    · exact .quiet
    · exact .refl u
  unfold addBag
  dsimp only
  repeat' split
  any_goals exact Answer.heeds_error
  refine Answer.heeds_ok (.trans (.trans (.trans ?_ (raiseIf_heeds ..)) (hmatch ..)) (wakeWhere_heeds ..))
  exact .trans .quiet (judgeQuota_heeds ..)

theorem withdrawBag_heeds (sl : Slot) (p : Payload) : Answer.Heeds s (withdrawBag sl p s) := by
  have hloop : ∀ tag, s.Heeds (withdrawOnLoop tag s) := fun tag => by
    unfold withdrawOnLoop
    split
    · split
      · exact ((makeStray_heeds ..).trans (cancelSelection_heeds ..)).trans (passToSelection_heeds ..)
      · exact .refl s
    · exact .refl s
  unfold withdrawBag
  repeat' split
  any_goals exact Answer.heeds_error
  · exact Answer.heeds_ok (.trans (.trans (hloop _) .quiet) (judgeQuota_heeds ..))
  · exact Answer.heeds_ok (.trans .quiet (judgeQuota_heeds ..))

theorem applyCabin_heeds (sl : Slot) (e : BagEntry) (cabin : Nat) (s : State) : s.Heeds (applyCabin sl e cabin s) := by
  have hloop : ∀ (tag : Tag) (u : State), u.Heeds (changeOnLoop tag u) := fun tag u => by
    unfold changeOnLoop
    split
    · split
      case h_1 | h_2 => exact (cancelSelection_heeds ..).trans (passToSelection_heeds ..)
      case h_3 | h_4 => exact modEntry_heeds ..
      all_goals exact .refl u
    · exact .refl u
  unfold applyCabin
  refine .trans (modEntry_heeds e.tag (fun e => { e with cabin := cabin }) s) ?_
  dsimp only
  split
  case h_1 | h_2 | h_3 => exact wakeWhere_heeds ..
  case h_4 => exact hloop ..
  case h_5 => exact raise_heeds ..

theorem changeCabin_heeds (sl : Slot) (p : Payload) : Answer.Heeds s (changeCabin sl p s) := by
  unfold changeCabin
  dsimp only
  repeat' split
  any_goals exact Answer.heeds_error
  · exact Answer.heeds_ok (.refl s)
  · exact Answer.heeds_ok (applyCabin_heeds ..)

theorem changeMap_heeds (sl : Slot) (n : Fin 96) (r : CabinRange) (s : State) : s.Heeds (changeMap sl n r s) :=
  .trans .quiet (wakeWhere_heeds ..)

theorem setCabinRange_heeds (sl : Slot) (p : Payload) : Answer.Heeds s (setCabinRange sl p s) := by
  unfold setCabinRange
  dsimp only
  repeat' split
  any_goals exact Answer.heeds_error
  · exact Answer.heeds_ok (.refl s)
  · exact Answer.heeds_ok (changeMap_heeds ..)

theorem clearCabinRange_heeds (sl : Slot) (p : Payload) : Answer.Heeds s (clearCabinRange sl p s) := by
  unfold clearCabinRange
  dsimp only
  repeat' split
  · exact Answer.heeds_ok (changeMap_heeds ..)
  · exact Answer.heeds_ok (.refl s)
  · exact Answer.heeds_error

/-! ### The slots (chapter 4) -/

theorem berth_heeds (p : Payload) : Answer.Heeds s (berth p s) := by
  unfold berth
  dsimp only
  repeat' split
  any_goals exact Answer.heeds_error
  exact Answer.heeds_ok ((modSlot_heeds fun _ => .inl rfl).trans (judgeQuota_heeds ..))

theorem manifestFinal_heeds (sl : Slot) : Answer.Heeds s (manifestFinal sl s) := by
  unfold manifestFinal
  split
  any_goals exact Answer.heeds_error
  · exact Answer.heeds_ok (.refl s)
  · exact Answer.heeds_ok (modSlot_heeds fun _ => .inr rfl)

theorem manifestReopen_heeds (sl : Slot) : Answer.Heeds s (manifestReopen sl s) := by
  unfold manifestReopen
  split
  any_goals exact Answer.heeds_error
  · exact Answer.heeds_ok (.refl s)
  · exact Answer.heeds_ok (modSlot_heeds fun _ => .inl rfl)

theorem setQuota_heeds (p : Payload) : Answer.Heeds s (setQuota p s) := by
  unfold setQuota
  dsimp only
  repeat' split
  any_goals exact Answer.heeds_error
  exact Answer.heeds_ok ((modSlot_heeds id).trans (judgeQuota_heeds ..))

/-- R83: the wakes of a drain leave the states of the slots. -/
theorem drained_state {sl : Slot} (hs : s.waitingLaw) (j : Slot) :
    ((s.drained sl).slot j).state = ((setSlotState sl .closing s).slot j).state := by
  have hst : ((setSlotState sl .closing s).slot sl).state = .closing := by rw [setSlotState_slot]
  have hset : ∀ t ∈ (setSlotState sl .closing s).wakeSet sl (fun _ => true),
      ∃ b, (setSlotState sl .closing s).WaitsFor sl t b := fun t ht => by
    obtain ⟨-, b, hb, hw, hsl, -⟩ := mem_wakeSet.mp ht
    exact ⟨b, waitsFor_of_law hs hb hw hsl .closing⟩
  obtain ⟨-, hslots, -⟩ := foldl_wakeTray_drains (wakeSet_nodup ..) hst hset
  exact hslots j

/-- R83: a drain wakes every WAITING bag of its slot, and each becomes a stray; the bags that wait on are the other
slot's. -/
theorem drained_heeds (sl : Slot) (s : State) : s.Heeds (s.drained sl) := by
  refine ⟨fun hs => ?_⟩
  have hwindows : (s.drained sl).tagWindows = s.tagWindows :=
    (congrArg State.tagWindows (wakeWhere_frame sl _ (setSlotState sl .closing s)) :)
  intro k b hb hw
  rcases drained_tray (sl := sl) hs k with ⟨_, b', -, hb', hdrained⟩ | ⟨htray, hnone⟩
  · obtain rfl := Option.some.inj (hb'.symm.trans hb)
    rw [BagRecord.isWaiting_of_isStray hdrained.stray] at hw
    cases hw
  · rw [htray] at hb ⊢
    obtain ⟨hloaded, hlink, hid, tag, j, htag, hj, hdec, hst⟩ := hs.tray k b hb hw
    have hne : j ≠ sl := fun e => by
      rw [hnone b hb (e ▸ hj)] at hw
      cases hw
    have hstate : ((s.drained sl).slot j).state = (s.slot j).state :=
      (drained_state hs j).trans (congrArg SlotRecord.state (modSlot_slot_ne _ _ _ s hne))
    refine ⟨hloaded, hlink, hid, tag, j, htag, hj, ?_, hstate ▸ hst⟩
    rw [← hdec, State.decodeSlot, State.decode, hwindows]
    rfl

theorem cutOff_heeds (l : LinkId) (p : Payload) : Answer.Heeds s (cutOff l p s) := by
  unfold cutOff
  split
  · split
    case h_1 | h_2 | h_3 => exact Answer.heeds_error
    all_goals exact Answer.heeds_ok ((drained_heeds ..).trans (reportCount_heeds ..))
  · exact Answer.heeds_error

/-- R87: the slot cleared is CLOSED, and no bag waits for it. -/
theorem unberth_heeds (p : Payload) : Answer.Heeds s (unberth p s) := by
  unfold unberth
  split
  · next sl _ =>
    split
    · next hst =>
      have hcleared : s.Heeds (clearSlot sl s) := .trans .quiet (modSlot_heeds fun h => by
        change (s.slot sl).state.LetsWait at h
        rcases h with h | h <;> rw [hst] at h <;> cases h)
      refine Answer.heeds_ok (hcleared.trans ?_)
      rw [releaseChutes_eq]
      exact .quiet
    · exact Answer.heeds_error
  · exact Answer.heeds_error

/-! ### The chutes (chapter 6) -/

theorem modChute_heeds (c : ChuteId) (f : Chute → Chute) (s : State) : s.Heeds (modChute c f s) :=
  heeds_of_sansChutes (modChute_frame ..)

theorem judgeStandby_heeds (c : ChuteId) (s : State) : s.Heeds (judgeStandby c s) :=
  heeds_of_sansChutes (judgeStandby_frame ..)

theorem judgeStrayArmed_heeds (s : State) : s.Heeds (judgeStrayArmed s) :=
  heeds_of_sansChutes (judgeStrayArmed_frame s)

theorem configureChute_heeds (p : Payload) : Answer.Heeds s (configureChute p s) := by
  unfold configureChute
  dsimp only
  repeat' split
  any_goals exact Answer.heeds_error
  exact Answer.heeds_ok ((((heeds_of_sansChutes (setChute_frame ..)).trans (raiseIf_heeds ..)).trans
    (judgeStandby_heeds ..)).trans (judgeStrayArmed_heeds _))

theorem assignChute_heeds (p : Payload) : Answer.Heeds s (assignChute p s) := by
  unfold assignChute
  repeat' split
  any_goals exact Answer.heeds_error
  exact Answer.heeds_ok (modChute_heeds ..)

theorem releaseChute_heeds (p : Payload) : Answer.Heeds s (releaseChute p s) := by
  unfold releaseChute
  dsimp only
  repeat' split
  any_goals exact Answer.heeds_error
  refine Answer.heeds_ok ?_
  unfold dropGroup
  exact ite_heeds (fun _ => (modChute_heeds ..).trans (judgeStandby_heeds ..)) fun _ => modChute_heeds ..

theorem swapBegin_heeds (p : Payload) : Answer.Heeds s (swapBegin p s) := by
  unfold swapBegin
  repeat' split
  any_goals exact Answer.heeds_error
  exact Answer.heeds_ok ((modChute_heeds ..).trans ((foldl_heeds (fun u t => cancelSelection_heeds t u) _ _).trans
    (foldl_heeds (fun u t => passToSelection_heeds t u) _ _)))

theorem swapEnd_heeds (p : Payload) : Answer.Heeds s (swapEnd p s) := by
  unfold swapEnd
  repeat' split
  any_goals exact Answer.heeds_error
  exact Answer.heeds_ok (((modChute_heeds ..).trans (judgeStandby_heeds ..)).trans
    (.trans .quiet (judgeStrayArmed_heeds _)))

theorem setBlockedInterval_heeds (p : Payload) : Answer.Heeds s (setBlockedInterval p s) := by
  unfold setBlockedInterval
  dsimp only
  split
  · exact Answer.heeds_ok .quiet
  · exact Answer.heeds_error

/-! ### The strays and the notices (chapters 8 and 9) -/

theorem resolveTag_heeds (id : BitVec 16) (tag : Tag) (cabin : Nat) :
    Answer.Heeds s (resolveTag id tag cabin s) := by
  have hentry : ∀ {sl : Slot} {t : State}, resolveEntry tag sl cabin id s = .ok t → s.Heeds t := fun {sl t} ht => by
    unfold resolveEntry at ht
    split at ht
    · split at ht
      · cases ht
      · exact Except.ok.inj ht ▸ .trans .quiet (judgeQuota_heeds ..)
    · split at ht
      · cases ht
      all_goals exact Except.ok.inj ht ▸ modEntry_heeds ..
  unfold resolveTag
  repeat' split
  any_goals exact Answer.heeds_error
  next ht => exact Answer.heeds_ok ((hentry ht).trans .quiet)

theorem resolveStray_heeds (p : Payload) : Answer.Heeds s (resolveStray p s) := by
  unfold resolveStray
  dsimp only
  repeat' split
  any_goals exact Answer.heeds_error
  exact resolveTag_heeds _ _ _

theorem discardStray_heeds (p : Payload) : Answer.Heeds s (discardStray p s) := by
  unfold discardStray
  dsimp only
  repeat' split
  any_goals exact Answer.heeds_error
  exact Answer.heeds_ok (removeStray_heeds ..)

theorem ackGroup_heeds (l : LinkId) (p : Payload) : Answer.Heeds s (ackGroup l p s) := by
  unfold ackGroup
  split
  · exact Answer.heeds_ok .quiet
  · exact Answer.heeds_error

theorem clearNotice_heeds (l : LinkId) (p : Payload) : Answer.Heeds s (clearNotice l p s) := by
  unfold clearNotice
  repeat' split
  any_goals exact Answer.heeds_error
  exact Answer.heeds_ok .quiet

theorem setClearMode_heeds (l : LinkId) (p : Payload) : Answer.Heeds s (setClearMode l p s) := by
  unfold setClearMode
  split
  · exact Answer.heeds_ok .quiet
  · exact Answer.heeds_error

/-! ### Every request -/

theorem onOwnSlot_heeds {l : LinkId} {f : Slot → State → Answer} (hf : ∀ sl, Answer.Heeds s (f sl s)) :
    Answer.Heeds s (onOwnSlot l f s) := by
  unfold onOwnSlot
  split
  · exact hf _
  · exact Answer.heeds_error

/-- The rule of every owning block keeps the waiting law. The reads return the state as it is. -/
theorem own_heeds (k : Command) (l : LinkId) (p : Payload) (s : State) : Answer.Heeds s (Command.own k l p s) := by
  cases k with
  | configureLoop => exact configureLoop_heeds p
  | startLoop => exact startLoop_heeds
  | stopLoop => exact stopLoop_heeds
  | resetLoop => exact resetLoop_heeds
  | configureInduction => exact configureInduction_heeds p
  | inductionResume => exact inductionResume_heeds p
  | setWindow => exact setWindow_heeds p
  | clearWindow => exact clearWindow_heeds p
  | addBag => exact onOwnSlot_heeds fun sl => addBag_heeds sl p
  | withdrawBag => exact onOwnSlot_heeds fun sl => withdrawBag_heeds sl p
  | changeCabin => exact onOwnSlot_heeds fun sl => changeCabin_heeds sl p
  | setCabinRange => exact onOwnSlot_heeds fun sl => setCabinRange_heeds sl p
  | clearCabinRange => exact onOwnSlot_heeds fun sl => clearCabinRange_heeds sl p
  | berth => exact berth_heeds p
  | manifestFinal => exact onOwnSlot_heeds manifestFinal_heeds
  | manifestReopen => exact onOwnSlot_heeds manifestReopen_heeds
  | setQuota => exact setQuota_heeds p
  | cutOff => exact cutOff_heeds l p
  | unberth => exact unberth_heeds p
  | configureChute => exact configureChute_heeds p
  | assignChute => exact assignChute_heeds p
  | releaseChute => exact releaseChute_heeds p
  | swapBegin => exact swapBegin_heeds p
  | swapEnd => exact swapEnd_heeds p
  | setBlockedInterval => exact setBlockedInterval_heeds p
  | resolveStray => exact resolveStray_heeds p
  | discardStray => exact discardStray_heeds p
  | ackGroup => exact ackGroup_heeds l p
  | clearNotice => exact clearNotice_heeds l p
  | setClearMode => exact setClearMode_heeds l p
  | fetchNotice | setNoticeEnables | readResetCause | clearResetCause => exact Answer.heeds_ok .quiet
  | readTray | readInduction | readWindow | readBag | readCabinRange | shipStatus | readChute | readStrayList
    | readStray =>
    simp only [Command.own, readTray, readInduction, readWindow, readBag, readCabinRange, shipStatus, readChute,
      readStrayList, readStray]
    repeat' split
    any_goals exact Answer.heeds_error
    all_goals exact Answer.heeds_ok (.refl s)

theorem deliver_heeds (x : Port) (l : LinkId) (frame response : List Byte) (s : State) :
    s.Heeds (deliver x l frame response s) := ite_heeds (fun _ => .quiet) fun _ => .quiet

theorem takeRequest_heeds (k : Command) (l : LinkId) (p : Payload) (s : State) :
    s.Heeds (takeRequest k l p (Command.own k l p) s) := by
  unfold takeRequest
  dsimp only
  split
  · split
    · exact deliver_heeds ..
    · next t reply ha =>
      refine .trans ?_ (deliver_heeds ..)
      unfold State.answerTo at ha
      split at ha
      · cases ha
      · exact own_heeds k l p s t reply ha
  · exact .refl s

/-! ### The induction lines -/

theorem completeFrame_heeds {i : IndId} {k : FrameKind} {data : List Byte} {take : State → State} (s : State)
    (htake : ∀ u : State, u.Heeds (take u)) : s.Heeds (completeFrame i k data take s) :=
  ite_heeds (fun _ => (modInd_heeds ..).trans (htake _)) fun _ => .refl s

theorem takeRead_heeds (i : IndId) (rec : ReadRecord) (s : State) : s.Heeds (takeRead i rec s) := by
  obtain ⟨_, _, _, e⟩ := takeRead_lineOnly i rec s
  rw [e, queueRead_eq]
  exact .quiet

theorem receiveMark_heeds (i : IndId) (k : FrameKind) (s : State) : s.Heeds (receiveMark i k s) := by
  unfold receiveMark
  split <;> exact .quiet

theorem receiveFault_heeds (i : IndId) (bad : CharFault) (s : State) : s.Heeds (receiveFault i bad s) := by
  unfold receiveFault
  split
  · exact receiveMark_heeds ..
  · split <;> exact .quiet
  · split <;> exact .quiet

theorem receiveBadData_heeds (i : IndId) (field : DataField) (value : Byte) (s : State) :
    s.Heeds (receiveBadData i field value s) := by
  unfold receiveBadData
  split
  · split <;> exact .quiet
  all_goals exact .quiet

theorem takeFrame_heeds (i : IndId) (k : FrameKind) (data : List Byte) (s : State) :
    s.Heeds (takeFrame i k data s) := by
  have hsized : ∀ reading size, s.Heeds (takeSized i reading size s) := fun reading size => by
    unfold takeSized
    split
    · exact takeRead_heeds ..
    · exact .refl s
  unfold takeFrame
  split
  case h_1 | h_2 | h_3 => exact hsized ..
  all_goals exact takeAnswer_heeds ..

theorem receiveData_heeds (i : IndId) (v : Byte) (s : State) : s.Heeds (receiveData i v s) := by
  unfold receiveData
  split
  · exact ite_heeds (fun _ => .quiet) fun _ =>
      ite_heeds (fun _ => .trans .quiet (takeFrame_heeds ..)) fun _ => .quiet
  all_goals exact .refl s

theorem whenEnabled_heeds {i : IndId} {f : State → State} (hf : s.Heeds (f s)) : s.Heeds (whenEnabled i f s) :=
  ite_heeds (fun _ => hf) fun _ => .refl s

theorem receiveChar_heeds (i : IndId) (c : LineChar) (s : State) : s.Heeds (receiveChar i c s) := by
  refine whenEnabled_heeds (ite_heeds (fun _ => receiveFault_heeds ..) fun _ => ite_heeds (fun _ => ?_) fun _ =>
    receiveData_heeds ..)
  split
  · exact receiveMark_heeds ..
  · exact receiveFault_heeds ..

theorem receiveChars_heeds (s : State) : s.Heeds (receiveChars s) := by
  refine .trans (t := drawOrder s) .quiet (foldl_heeds (fun u i => ?_) _ _)
  unfold nextChar
  split
  · exact .trans .quiet (receiveChar_heeds ..)
  · exact .refl u

/-! ### Every command -/

/-- R152: both resets leave every tray EMPTY. -/
theorem resetBlocks_waitingLaw (cause : ResetCause) (low : Bool) (s : State) :
    (resetBlocks cause low s).waitingLaw := waitingLaw_of_empty_trays (n := 256) rfl

theorem exec_heeds (c : Instr) (s : State) : Out.Heeds s (exec c s) := by
  cases c with
  | powerOnReset | pinReset => exact Out.heeds_next ⟨fun _ => resetBlocks_waitingLaw _ _ s⟩
  | pitchEvent home check => exact Out.heeds_next (.trans .quiet (pitchEvent_heeds _ home check (drawOrder s)))
  | reservationRequest i => exact Out.heeds_next (requestReservation_heeds ..)
  | launchWindowExpiry i => exact Out.heeds_next (expireWindows_heeds ..)
  | stallTimeout => exact Out.heeds_next (ite_heeds (fun _ => enterStalled_heeds s) fun _ => .refl s)
  | fire => exact Out.heeds_next (fireHead_heeds s)
  | tiltPulseEnd c => exact Out.heeds_next (by (repeat' split) <;> exact .quiet)
  | confirmWindowEnd c =>
    refine Out.heeds_next ?_
    split
    · exact .trans .quiet (closeUnconfirmed_heeds ..)
    · exact .refl s
  | chuteEyeDetection c =>
    exact Out.heeds_next (ite_heeds (fun _ => .refl s) fun _ =>
      (State.Heeds.trans .quiet (confirmOldest_heeds ..)).trans (settleHolds_heeds ..))
  | chuteJam c =>
    exact Out.heeds_next (ite_heeds (fun _ => heeds_of_sansChutes (setJam_frame ..)) fun _ => .refl s)
  | chuteEyeClear c =>
    exact Out.heeds_next (ite_heeds (fun _ => heeds_of_sansChutes (clearEye_frame ..)) fun _ => .refl s)
  | hallClockSecond => exact Out.heeds_next (ite_heeds (fun _ => .quiet) fun _ => .refl s)
  | bagFrame i | multiFrame i | noreadFrame i => exact Out.heeds_next (completeFrame_heeds s (takeRead_heeds i _))
  | holdResend i => exact Out.heeds_next (heeds_of_sansInds (resendHold_frame ..))
  | doneFrame i | failFrame i | lateAnswer i =>
    exact Out.heeds_next (completeFrame_heeds s (takeAnswer_heeds i _ _))
  | inductionCharacterFault i bad => exact Out.heeds_next (whenEnabled_heeds (receiveFault_heeds i bad s))
  | badDataCharacter i field value =>
    exact Out.heeds_next (whenEnabled_heeds (receiveBadData_heeds i field value s))
  | inductionSilenceTimeout i => exact Out.heeds_next (by split <;> exact .quiet)
  | transmitFrameSent i => exact Out.heeds_next (by split <;> exact .quiet)
  | inductionFrameOpened i kind => exact Out.heeds_next (whenEnabled_heeds (receiveMark_heeds i kind s))
  | linkSelectAsserted l =>
    exact Out.heeds_next (ite_heeds (fun _ => .refl s) fun _ => ite_heeds (fun _ => .quiet) fun _ => .quiet)
  | linkSelectReleased l | linkSelectReleasedEarly l =>
    exact Out.heeds_next (ite_heeds (fun _ => .quiet) fun _ => .refl s)
  | linkResponseSent l => exact Out.heeds_next (by split <;> exact .quiet)
  | resetNReleased => exact Out.heeds_next .quiet
  | badCommand l code p => exact Out.heeds_next (ite_heeds (fun _ => deliver_heeds ..) fun _ => .refl s)
  | configureLoop l p | startLoop l p | stopLoop l p | resetLoop l p | readTray l p | configureInduction l p
    | inductionResume l p | readInduction l p | setWindow l p | clearWindow l p | readWindow l p | addBag l p
    | withdrawBag l p | changeCabin l p | readBag l p | setCabinRange l p | clearCabinRange l p
    | readCabinRange l p | berth l p | manifestFinal l p | manifestReopen l p | setQuota l p | cutOff l p
    | unberth l p | shipStatus l p | configureChute l p | assignChute l p | releaseChute l p | swapBegin l p
    | swapEnd l p | setBlockedInterval l p | readChute l p | resolveStray l p | discardStray l p
    | readStrayList l p | readStray l p | fetchNotice l p | ackGroup l p | clearNotice l p
    | setNoticeEnables l p | setClearMode l p | readResetCause l p | clearResetCause l p =>
    exact Out.heeds_next (takeRequest_heeds _ l p s)

theorem idle_heeds (s : State) : s.Heeds (idle s) := by
  unfold idle
  split
  · exact .refl s
  · split
    · exact .quiet
    · refine ite_heeds (fun _ => ?_) fun _ => ite_heeds (fun _ => .quiet) fun _ => receiveChars_heeds s
      rw [clockBytes_frame]
      exact .quiet

theorem step_heeds (s : State) : Out.Heeds s (step s) := by
  unfold step
  split
  · exact Out.heeds_next (idle_heeds s)
  · next c r _ => exact fun t ht => .trans (t := { s with pending := r }) .quiet (exec_heeds c _ t ht)

/-- Settles O17. -/
theorem everyStepKeepsTheWaitingLaw : Obligations.everyStepKeepsTheWaitingLaw := fun s t h ht =>
  (step_heeds s t ht).law h

end Sys2Proof.Machine
end

section
/-! SUPPORT. Recording a stray (R90, R154 to R158), said once in each of its three ways: an entry that carries one of
its tags re-strayed, an entry appended with the next free id, the bag counted unlisted. -/

namespace Sys2Proof.Machine

-- Elaborated in turn, as the proof of O14 is, for the memory that the threads' stacks would take.
set_option Elab.async false

/-! ### The next free id (R154) -/

/-- The ids passed over on the way to a fresh one are held, and the fresh one is held only where they are as many as
the tries. -/
theorem freshId_skips (held : List (BitVec 16)) (fuel : Nat) (n : BitVec 16) :
    ∃ k ≤ fuel, freshId held fuel n = n + BitVec.ofNat 16 k ∧ (∀ j < k, n + BitVec.ofNat 16 j ∈ held) ∧
      (k < fuel → n + BitVec.ofNat 16 k ∉ held) := by
  induction fuel generalizing n with
  | zero => exact ⟨0, le_rfl, by simp [freshId], by simp, by simp⟩
  | succ fuel ih =>
    unfold freshId
    split
    · next hn =>
      have hshift : ∀ j : Nat, n + 1 + BitVec.ofNat 16 j = n + BitVec.ofNat 16 (j + 1) := fun j => by
        rw [BitVec.ofNat_add, BitVec.add_assoc, BitVec.add_comm 1]
        rfl
      obtain ⟨k, hk, hid, hskip, hfree⟩ := ih (n + 1)
      refine ⟨k + 1, Nat.succ_le_succ hk, hid.trans (hshift k), fun j hj => ?_, fun h => ?_⟩
      · cases j with
        | zero => simpa using hn
        | succ j => exact hshift j ▸ hskip j (Nat.lt_of_succ_lt_succ hj)
      · exact hshift k ▸ hfree (Nat.lt_of_succ_lt_succ h)
    · next hn => exact ⟨0, Nat.zero_le _, by simp, by simp, fun _ => by simpa using hn⟩

/-- R154: with fewer ids held than there are, one more try than ids held finds a fresh one. -/
theorem freshId_fresh {held : List (BitVec 16)} (h : held.length < 65536) (n : BitVec 16) :
    ∃ k : Nat, freshId held (held.length + 1) n = n + BitVec.ofNat 16 k ∧ n + BitVec.ofNat 16 k ∉ held ∧
      ∀ j < k, n + BitVec.ofNat 16 j ∈ held := by
  obtain ⟨k, hk, hid, hskip, hfree⟩ := freshId_skips held (held.length + 1) n
  refine ⟨k, hid, hfree (lt_of_le_of_ne hk fun e => ?_), hskip⟩
  -- Otherwise the held ids include more than there are of them.
  have hnodup : ((List.range k).map fun j => n + BitVec.ofNat 16 j).Nodup := by
    refine List.Nodup.map_on (fun i hi j hj hij => ?_) List.nodup_range
    rw [List.mem_range] at hi hj
    have hnat := congrArg BitVec.toNat ((BitVec.add_right_inj n).mp hij)
    simp only [BitVec.toNat_ofNat] at hnat
    omega
  have hsub : ((List.range k).map fun j => n + BitVec.ofNat 16 j) ⊆ held := fun x hx => by
    obtain ⟨j, hj, rfl⟩ := List.mem_map.mp hx
    exact hskip j (List.mem_range.mp hj)
  have hle := (List.subperm_of_subset hnodup hsub).length_le
  rw [List.length_map, List.length_range, e] at hle
  omega

/-! ### The slot's count (R90) -/

variable {q : StrayRequest} {s u : State}

theorem countStray_eq (sl : Option Slot) (s : State) : countStray sl s = { s with slots := (countStray sl s).slots } := by
  unfold countStray
  split <;> rfl

theorem countStray_call (x : Option Slot) (s : State) (k : Slot) : ((countStray x s).slot k).call = (s.slot k).call := by
  unfold countStray
  split
  · next j =>
    by_cases hk : k = j
    · subst hk
      rw [modSlot_slot]
    · rw [modSlot_slot_ne _ _ _ _ hk]
  · rfl

theorem countStray_scope (x sl : Option Slot) (s : State) : (countStray x s).strayScope sl = s.strayScope sl := by
  cases sl with
  | none => rfl
  | some k => rw [State.strayScope, State.strayScope, countStray_state]

theorem countStray_newStray (x : Option Slot) (q : StrayRequest) (id : BitVec 16) (s : State) :
    (countStray x s).newStray q id = s.newStray q id := by
  have hclock : (countStray x s).clock = s.clock := by rw [countStray_eq]
  simp only [State.newStray, countStray_call, hclock]

theorem countStray_carrierOf (x : Option Slot) (q : StrayRequest) (s : State) :
    (countStray x s).carrierOf q = s.carrierOf q := by
  rw [countStray_eq]
  rfl

/-! ### The three ways -/

/-- R156: an entry carries a tag of the stray. -/
theorem recordStray_carried {e : StrayEntry} (h : s.carrierOf q = some e) :
    recordStray q s =
      { state := modStray e.id (·.restray q.cause) (countStray q.slot s)
        id := some e.id
        undo := some (.moved e.id e.state e.cause e.untracked e.times .routing (min 255 (e.times + 1))) } := by
  unfold recordStray
  dsimp only
  rw [countStray_carrierOf, h]

/-- R154: the id of the next entry appended. -/
def State.nextFreeId (s : State) : BitVec 16 := freshId (s.strays.map (·.id)) (s.strays.length + 1) s.nextStrayId

/-- R157: no entry carries a tag of the stray, and the list has room. -/
theorem recordStray_appended (h : s.carrierOf q = none) (hlen : s.strays.length < 128) :
    recordStray q s =
      { state := raise .newStray (s.strayScope q.slot) { s with
          slots := (countStray q.slot s).slots, strays := s.strays ++ [s.newStray q s.nextFreeId]
          nextStrayId := s.nextFreeId + 1 }
        id := some s.nextFreeId
        undo := some (.appended s.nextFreeId) } := by
  have hstrays : (countStray q.slot s).strays = s.strays := by rw [countStray_eq]
  have hnext : (countStray q.slot s).nextStrayId = s.nextStrayId := by rw [countStray_eq]
  unfold recordStray State.nextFreeId
  dsimp only
  rw [countStray_carrierOf, h, hstrays, hnext]
  dsimp only
  rw [if_pos hlen, countStray_scope, countStray_newStray]
  congr 2
  rw [countStray_eq]

/-- R158: no entry carries a tag of the stray, and the list is full. -/
theorem recordStray_unlisted (h : s.carrierOf q = none) (hlen : 128 ≤ s.strays.length) :
    recordStray q s =
      { state := raise .strayListFull (s.strayScope q.slot) { s with
          slots := (countStray q.slot s).slots, unlisted := min 65535 (s.unlisted + 1) }
        id := none
        undo := none } := by
  have hstrays : (countStray q.slot s).strays = s.strays := by rw [countStray_eq]
  have hunlisted : (countStray q.slot s).unlisted = s.unlisted := by rw [countStray_eq]
  unfold recordStray
  dsimp only
  rw [countStray_carrierOf, h, hstrays, hunlisted]
  dsimp only
  rw [if_neg (not_lt.mpr hlen), countStray_scope]
  congr 2
  rw [countStray_eq]

/-! ### What recording a stray leaves -/

theorem recordStray_slots (q : StrayRequest) (s : State) : (recordStray q s).state.slots = (countStray q.slot s).slots := by
  cases h : s.carrierOf q with
  | some e =>
    rw [recordStray_carried h]
    rfl
  | none =>
    rcases lt_or_ge s.strays.length 128 with hlen | hlen
    · rw [recordStray_appended h hlen]
      rfl
    · rw [recordStray_unlisted h hlen]
      rfl

/-- Recording a stray reaches its slot's count, the stray list and the notices alone. -/
theorem recordStray_eq (q : StrayRequest) (s : State) : (recordStray q s).state = { s with
    slots := (recordStray q s).state.slots, strays := (recordStray q s).state.strays
    unlisted := (recordStray q s).state.unlisted, nextStrayId := (recordStray q s).state.nextStrayId
    notices := (recordStray q s).state.notices } := by
  cases h : s.carrierOf q with
  | some e =>
    rw [recordStray_carried h]
    dsimp only
    rw [countStray_eq]
    rfl
  | none =>
    rcases lt_or_ge s.strays.length 128 with hlen | hlen
    · rw [recordStray_appended h hlen]
      rfl
    · rw [recordStray_unlisted h hlen]
      rfl

theorem countStray_slots_some (sl : Slot) (s : State) : (countStray (some sl) s).slots =
    s.slots.set sl { s.slot sl with strayCount := min 65535 ((s.slot sl).strayCount + 1) } := rfl

/-- What is recorded of a stray does not depend on the loop and the notices. -/
theorem recordStray_recordedAs (hu : u = { s with loop := u.loop, notices := u.notices }) (q : StrayRequest) :
    recordedAs q s (recordStray q u).state (recordStray q u).id := by
  have hcarrier : u.carrierOf q = s.carrierOf q := by rw [hu]; rfl
  have hstrays : u.strays = s.strays := by rw [hu]
  have hfree : u.nextFreeId = s.nextFreeId := by rw [hu]; rfl
  have hnew : ∀ id, u.newStray q id = s.newStray q id := fun id => by rw [hu]; rfl
  have hslots : (countStray q.slot u).slots = (countStray q.slot s).slots := by
    rw [hu]
    unfold countStray
    split <;> rfl
  have hunlisted : u.unlisted = s.unlisted := by rw [hu]
  have hnext : u.nextStrayId = s.nextStrayId := by rw [hu]
  cases h : s.carrierOf q with
  | some e =>
    have hcount : ∀ v : State, (countStray q.slot v).strays = v.strays ∧ (countStray q.slot v).unlisted = v.unlisted ∧
        (countStray q.slot v).nextStrayId = v.nextStrayId := fun v => by
      rw [countStray_eq]
      exact ⟨rfl, rfl, rfl⟩
    rw [recordedAs, recordStray_carried h, recordStray_carried (hcarrier.trans h)]
    simp [modStray, hcount, hstrays, hunlisted, hnext, hslots]
  | none =>
    rcases lt_or_ge s.strays.length 128 with hlen | hlen
    · rw [recordedAs, recordStray_appended h hlen, recordStray_appended (hcarrier.trans h) (hstrays ▸ hlen)]
      simp [hstrays, hfree, hnew, hslots, hunlisted]
    · rw [recordedAs, recordStray_unlisted h hlen, recordStray_unlisted (hcarrier.trans h) (hstrays ▸ hlen)]
      simp [hstrays, hslots, hunlisted, hnext]

/-- R155: the entry that carries the first tag, or else the second. -/
theorem carrierOf_eq_some {e : StrayEntry}
    (h : (∃ tag, q.tag = some tag ∧ s.strayOfTag tag = some e) ∨
      ((∀ tag, q.tag = some tag → s.strayOfTag tag = none) ∧
        ∃ tag2, q.tag2 = some tag2 ∧ s.strayOfTag tag2 = some e)) : s.carrierOf q = some e := by
  rcases h with ⟨tag, htag, he⟩ | ⟨hnone, tag2, htag2, he⟩
  · simp [State.carrierOf, htag, he]
  · have hfirst : q.tag.bind s.strayOfTag = none := Option.bind_eq_none_iff.mpr hnone
    simp [State.carrierOf, hfirst, htag2, he]

theorem carrierOf_eq_none (h : ∀ tag, q.tag = some tag ∨ q.tag2 = some tag → s.strayOfTag tag = none) :
    s.carrierOf q = none := by
  have hfirst : q.tag.bind s.strayOfTag = none := Option.bind_eq_none_iff.mpr fun tag ht => h tag (.inl ht)
  have hsecond : q.tag2.bind s.strayOfTag = none := Option.bind_eq_none_iff.mpr fun tag ht => h tag (.inr ht)
  rw [State.carrierOf, hfirst, hsecond]
  rfl

/-- R157, R158: the notice of a stray goes to the shore, and to its slot's vessel unless the slot is VACANT. -/
theorem flagged_raise_strayScope (n : Notice) (x : Option Slot) (s v : State) :
    (raise n (s.strayScope x) v).flagged .shore n = true ∧
      ∀ sl, x = some sl → (s.slot sl).state ≠ .vacant → (raise n (s.strayScope x) v).flagged (slotLink sl) n = true := by
  refine ⟨flagged_raise n (Scope.names_shore _) v, fun sl hx hst => flagged_raise n ?_ v⟩
  rw [hx, State.strayScope, if_neg hst]
  exact Scope.names_slotLink sl

/-- R154: the id an appended entry takes, and those passed over. -/
theorem nextFreeId_fresh (hlen : s.strays.length < 128) : ∃ k : Nat,
    s.nextFreeId = s.nextStrayId + BitVec.ofNat 16 k ∧ (∀ x ∈ s.strays, x.id ≠ s.nextStrayId + BitVec.ofNat 16 k) ∧
      ∀ j < k, ∃ x ∈ s.strays, x.id = s.nextStrayId + BitVec.ofNat 16 j := by
  have hheld : (s.strays.map (·.id)).length < 65536 := by rw [List.length_map]; omega
  obtain ⟨k, hid, hfree, hskip⟩ := freshId_fresh hheld s.nextStrayId
  rw [List.length_map] at hid
  exact ⟨k, hid, fun x hx e => hfree (e ▸ List.mem_map_of_mem hx), fun j hj => List.mem_map.mp (hskip j hj)⟩

end Sys2Proof.Machine
end

section
/-! SUPPORT. The seven steps of Table 5-1 (R94 to R100), one equation for each way a classification ends. -/

namespace Sys2Proof.Machine

-- Elaborated in turn, as the proof of O14 is, for the memory that the threads' stacks would take.
set_option Elab.async false

/-! ### A classification rewrites the bag on its tray -/

/-- The tray stands as it was but for its bag record. -/
def RewritesBag (t : Nat) (s u : State) : Prop := ∃ f, u.tray t = (s.tray t).mapBag f

theorem RewritesBag.of_loop {t : Nat} {s u : State} (h : u.loop = s.loop) : RewritesBag t s u :=
  ⟨id, (tray_of_loop h t).trans (by cases s.tray t <;> rfl)⟩

theorem RewritesBag.trans {t : Nat} {s u v : State} (h : RewritesBag t s u) (k : RewritesBag t u v) :
    RewritesBag t s v := by
  obtain ⟨f, hf⟩ := h
  obtain ⟨g, hg⟩ := k
  refine ⟨g ∘ f, hg.trans ?_⟩
  rw [hf]
  cases s.tray t <;> rfl

theorem RewritesBag.loaded {t : Nat} {s u : State} {b : BagRecord} (h : RewritesBag t s u)
    (hb : s.tray t = .loaded b) : ∃ b', u.tray t = .loaded b' := by
  obtain ⟨f, hf⟩ := h
  exact ⟨f b, by rw [hf, hb]; rfl⟩

theorem modBag_rewrites (t : Nat) (f : BagRecord → BagRecord) (s : State) : RewritesBag t s (modBag t f s) :=
  ⟨f, modBag_tray ..⟩

theorem makeStray_rewrites (t : Nat) (q : StrayRequest) (s : State) : RewritesBag t s (makeStray t q s).state :=
  ⟨_, makeStray_tray ..⟩

theorem routeBag_rewrites (t : Nat) (sl : Slot) (e : BagEntry) (s : State) :
    RewritesBag t s (routeBag t sl e s).state :=
  .trans (u := (reinductStray e.tag sl (linkEntry e.tag s)).state)
    (.of_loop (s := s) (reinductStray_loop e.tag sl (linkEntry e.tag s))) (modBag_rewrites ..)

theorem classifyInSlot_rewrites (t : Nat) (tag : Tag) (sl : Slot) (s : State) :
    RewritesBag t s (classifyInSlot t tag sl s).state := by
  unfold classifyInSlot
  split
  · exact makeStray_rewrites ..
  · split
    · unfold classifyEntry
      split
      case h_1 | h_2 => exact .trans (.of_loop (raise_loop ..)) (makeStray_rewrites ..)
      all_goals
        split
        · exact routeBag_rewrites ..
        · split
          · exact modBag_rewrites ..
          · exact makeStray_rewrites ..
    · split
      · exact modBag_rewrites ..
      · exact makeStray_rewrites ..

theorem classifyTag_rewrites (t : Nat) (tag : Tag) (s : State) : RewritesBag t s (classifyTag t tag s).state := by
  unfold classifyTag
  split
  · exact makeStray_rewrites ..
  · split
    case h_1 | h_2 => exact makeStray_rewrites ..
    all_goals exact (modBag_rewrites ..).trans (classifyInSlot_rewrites ..)

theorem classify_rewrites (t : Nat) (s : State) : RewritesBag t s (classify t s).state := by
  unfold classify
  split
  · exact .of_loop rfl
  · split
    · exact makeStray_rewrites ..
    · split
      · exact makeStray_rewrites ..
      · exact (modBag_rewrites ..).trans (classifyTag_rewrites ..)

/-! ### Steps 1 and 2: the read kind, the decode and the state of the slot (R94, R95) -/

variable {t : Nat} {s : State} {b : BagRecord} {tag : Tag} {sl : Slot}

/-- R94: one tag was read, and the bag keeps no second. -/
def State.singled (s : State) (t : Nat) : State := modBag t (fun b => { b with tag2 := none }) s

/-- R95: the bag has taken the slot its tag decodes to. -/
def State.slotted (s : State) (t : Nat) (sl : Slot) : State :=
  modBag t (fun b => { b with slot := b.slot.or (some sl) }) (s.singled t)

theorem singled_tray (hb : s.tray t = .loaded b) : (s.singled t).tray t = .loaded { b with tag2 := none } := by
  rw [State.singled, modBag_tray, hb]
  rfl

theorem slotted_tray (hb : s.tray t = .loaded b) (hslot : b.slot = none) (sl : Slot) :
    (s.slotted t sl).tray t = .loaded { b with tag2 := none, slot := some sl } := by
  rw [State.slotted, modBag_tray, singled_tray hb]
  simp [Tray.mapBag, hslot]

/-- R94: no tag was read. -/
theorem classify_noRead (hb : s.tray t = .loaded b) (htag : b.tag = none) :
    classify t s = makeStray t ⟨.noRead, none, none, none, none⟩ s := by
  rw [classify, hb]
  dsimp only [Tray.bag]
  rw [htag]

/-- R94: two tags were read. -/
theorem classify_multiRead {tag2 : Tag} (hb : s.tray t = .loaded b) (htag : b.tag = some tag)
    (htag2 : b.tag2 = some tag2) (hne : tag2 ≠ tag) :
    classify t s = makeStray t ⟨.multiRead, some tag, some tag2, none, none⟩ s := by
  rw [classify, hb]
  dsimp only [Tray.bag]
  rw [htag, htag2]
  exact if_pos ⟨rfl, fun e => hne (Option.some.inj e)⟩

/-- R94: one tag was read, once or twice. -/
theorem classify_oneTag (hb : s.tray t = .loaded b) (htag : b.tag = some tag)
    (htag2 : b.tag2 = none ∨ b.tag2 = some tag) : classify t s = classifyTag t tag (s.singled t) := by
  rw [classify, hb]
  dsimp only [Tray.bag]
  rw [htag]
  refine if_neg fun h => ?_
  rcases htag2 with h2 | h2
  · rw [h2] at h
    exact nomatch h.1
  · exact h.2 h2

theorem classifyTag_foreign (h : s.decodeSlot tag = none) :
    classifyTag t tag s = makeStray t (tagged .foreignTag tag none none) s := by
  rw [classifyTag, h]

theorem classifyTag_vacant (h : s.decodeSlot tag = some sl) (hst : (s.slot sl).state = .vacant) :
    classifyTag t tag s = makeStray t (tagged .noShip tag (some sl) none) s := by
  rw [classifyTag, h]
  dsimp only
  rw [hst]

theorem classifyTag_closed (h : s.decodeSlot tag = some sl) (hst : (s.slot sl).state = .closed) :
    classifyTag t tag s = makeStray t (tagged .shipClosed tag (some sl) ((s.entryIn sl tag).map (·.cabin))) s := by
  rw [classifyTag, h]
  dsimp only
  rw [hst]

/-- R95: a bag of a slot in LOADING, FINAL or CLOSING takes the slot. -/
theorem classify_slotted (hb : s.tray t = .loaded b) (htag : b.tag = some tag)
    (htag2 : b.tag2 = none ∨ b.tag2 = some tag) (hdec : s.decodeSlot tag = some sl)
    (hst : (s.slot sl).state = .loading ∨ (s.slot sl).state = .final ∨ (s.slot sl).state = .closing) :
    classify t s = classifyInSlot t tag sl (s.slotted t sl) := by
  have hdec' : (s.singled t).decodeSlot tag = some sl := hdec
  have hst' : ((s.singled t).slot sl).state = (s.slot sl).state := rfl
  rw [classify_oneTag hb htag htag2, classifyTag, hdec']
  dsimp only
  rw [hst']
  rcases hst with h | h | h <;> rw [h] <;> rfl

/-! ### Steps 3 to 7: the slot's state and the entry (R96 to R100) -/

/-- R97: the slot is LOADING and holds no entry for the tag. -/
theorem classifyInSlot_waits (h : (s.slot sl).state = .loading) (he : s.entryIn sl tag = none) :
    classifyInSlot t tag sl s = makeWaiting t .unknownTag s := by
  unfold classifyInSlot
  rw [h, he]
  rfl

section Entry
variable {e : BagEntry} (hst : (s.slot sl).state = .loading ∨ (s.slot sl).state = .final)
  (he : s.entryIn sl tag = some e)
include hst he

theorem classifyInSlot_entry : classifyInSlot t tag sl s = classifyEntry t tag sl e s := by
  have hclosing : (s.slot sl).state ≠ .closing := by
    rcases hst with h | h <;> rw [h] <;> nofun
  rw [classifyInSlot, if_neg hclosing, he]

/-- R98: the entry is ON_LOOP or SORTED. -/
theorem classifyInSlot_duplicate (hcode : e.status.code = 1 ∨ e.status.code = 2) :
    classifyInSlot t tag sl s =
      makeStray t (tagged .duplicateTag tag (some sl) none) (raise .duplicateTag (.slot sl) s) := by
  rw [classifyInSlot_entry hst he, classifyEntry]
  cases hs : e.status with
  | onLoop | sorted => rfl
  | expected | strayed | untracked =>
    rw [hs] at hcode
    exact absurd hcode (by decide)

/-- R99: the entry's cabin is UNMAPPED. -/
theorem classifyInSlot_unmapped (hon : e.status.code ≠ 1) (hsorted : e.status.code ≠ 2)
    (hmap : s.lookup sl e.cabin = none) :
    classifyInSlot t tag sl s =
      if (s.slot sl).state = .loading then makeWaiting t .cabinUnmapped s
      else makeStray t (tagged .cabinUnmapped tag (some sl) (some e.cabin)) s := by
  rw [classifyInSlot_entry hst he, classifyEntry, hmap]
  cases hs : e.status with
  | onLoop => exact absurd (by rw [hs]; rfl) hon
  | sorted => exact absurd (by rw [hs]; rfl) hsorted
  | expected | strayed | untracked => rfl

end Entry

/-! ### The stray entry of a routed bag (R162) -/

theorem reinductStray_found {x : StrayEntry} (hx : s.strayOfTag tag = some x)
    (hr : x.slot = some (sl, (s.slot sl).call)) :
    (reinductStray tag sl s).id = some x.id ∧ (reinductStray tag sl s).state.strays = s.strays.map fun y =>
      if y.id = x.id then { y with state := .reinducted, untracked := false } else y := by
  have hfilter : (s.strayOfTag tag).filter (s.recordedFor sl) = some x :=
    Option.filter_eq_some_iff.mpr ⟨hx, decide_eq_true hr⟩
  rw [reinductStray, hfilter]
  exact ⟨rfl, rfl⟩

theorem reinductStray_none (h : ∀ x, s.strayOfTag tag = some x → x.slot ≠ some (sl, (s.slot sl).call)) :
    (reinductStray tag sl s).id = none ∧ (reinductStray tag sl s).state.strays = s.strays := by
  have hfilter : (s.strayOfTag tag).filter (s.recordedFor sl) = none :=
    Option.filter_eq_none_iff.mpr fun x hx => by simpa [State.recordedFor] using h x hx
  rw [reinductStray, hfilter]
  exact ⟨rfl, rfl⟩

end Sys2Proof.Machine
end

section
/-! PROOF. Classification and the strays it records (O23). -/

namespace Sys2Proof.Machine

-- Elaborated in turn, as the proof of O14 is, for the memory that the threads' stacks would take.
set_option Elab.async false

variable {t : Nat} {s u : State} {b b' c : BagRecord} {q : StrayRequest} {tag : Tag} {sl : Slot} {e : BagEntry}

/-! ### The bag and the record of each row -/

/-- R101: a bag made a stray carries the cause and the id recorded, and links no entry; what is recorded is what
the state before the classification gives. -/
theorem makeStray_outcome (hcls : classify t s = makeStray t q u)
    (hu : u = { s with loop := u.loop, notices := u.notices }) (hc : u.tray t = .loaded c)
    (hb' : (classify t s).state.tray t = .loaded b') :
    b' = { c with cls := .stray q.cause, strayId := b'.strayId, entryLink := none } ∧
      recordedAs q s (classify t s).state b'.strayId := by
  have hbag : b' = { c with cls := .stray q.cause, strayId := (recordStray q u).id, entryLink := none } := by
    rw [hcls, makeStray_tray, hc] at hb'
    exact (Tray.loaded.inj hb').symm
  rw [hcls, hbag]
  exact ⟨rfl, recordStray_recordedAs hu q⟩

/-- R103: a bag that waits, by its classification, which changes nothing but its record. -/
theorem makeWaiting_outcome {reason : WaitReason} (hcls : classify t s = makeWaiting t reason u)
    (hu : u = { s with loop := u.loop }) (hc : u.tray t = .loaded c)
    (hb' : (classify t s).state.tray t = .loaded b') :
    b' = { c with cls := .waiting reason, strayId := none, entryLink := none } ∧
      (classify t s).state = { s with loop := (classify t s).state.loop } := by
  constructor
  · have htray : (makeWaiting t reason u).state.tray t =
        .loaded { c with cls := .waiting reason, strayId := none, entryLink := none } := by
      refine (modBag_tray ..).trans ?_
      rw [hc]
      rfl
    rw [hcls, htray] at hb'
    exact (Tray.loaded.inj hb').symm
  · rw [hcls, hu]
    rfl

/-- R100, R162: a bag routed links its entry, which is ON_LOOP, and carries the id of its earlier stray entry, which
is REINDUCTED. -/
theorem routeBag_outcome (hcls : classify t s = routeBag t sl e u) (hu : u = { s with loop := u.loop })
    (hc : u.tray t = .loaded c) (hb' : (classify t s).state.tray t = .loaded b') (he : s.entry tag = some e)
    (hon : e.status.code ≠ 1) (hsorted : e.status.code ≠ 2) :
    b' = { c with cls := .routed, strayId := b'.strayId, entryLink := some tag } ∧
      (classify t s).state.entry tag = some { e with status := .onLoop false } ∧
      (∀ x, s.strayOfTag tag = some x → x.slot = some (sl, (s.slot sl).call) →
        b'.strayId = some x.id ∧ (classify t s).state.strays = s.strays.map fun y =>
          if y.id = x.id then { y with state := .reinducted, untracked := false } else y) ∧
      ((∀ x, s.strayOfTag tag = some x → x.slot ≠ some (sl, (s.slot sl).call)) →
        b'.strayId = none ∧ (classify t s).state.strays = s.strays) := by
  obtain rfl : e.tag = tag := (findEntry_some he).1
  have hue : u.entry e.tag = some e := by rw [hu]; exact he
  have hfound : ∀ x, (linkEntry e.tag u).strayOfTag x = s.strayOfTag x := fun x => by rw [hu]; rfl
  have hcall : ((linkEntry e.tag u).slot sl).call = (s.slot sl).call := by rw [hu]; rfl
  have hstrays : (linkEntry e.tag u).strays = s.strays := by rw [hu]; rfl
  have hbag : b' = { c with
      cls := .routed, strayId := (reinductStray e.tag sl (linkEntry e.tag u)).id, entryLink := some e.tag } := by
    have htray : (routeBag t sl e u).state.tray t = .loaded { c with
        cls := .routed, strayId := (reinductStray e.tag sl (linkEntry e.tag u)).id, entryLink := some e.tag } := by
      refine (modBag_tray ..).trans ?_
      rw [tray_of_loop (s := u) (reinductStray_loop e.tag sl (linkEntry e.tag u)), hc]
      rfl
    rw [hcls, htray] at hb'
    exact (Tray.loaded.inj hb').symm
  rw [hcls, hbag]
  refine ⟨rfl, routeBag_entry hue hon hsorted t sl, fun x hx hr => ?_, fun hnone => ?_⟩
  · obtain ⟨hid, hlist⟩ := reinductStray_found ((hfound e.tag).trans hx) (hcall ▸ hr)
    exact ⟨hid, hlist.trans (by rw [hstrays])⟩
  · obtain ⟨hid, hlist⟩ := reinductStray_none (s := linkEntry e.tag u) (tag := e.tag) (sl := sl) fun x hx =>
      hcall ▸ hnone x ((hfound e.tag).symm.trans hx)
    exact ⟨hid, hlist.trans hstrays⟩

/-! ### The steps (Table 5-1) -/

section Steps
variable (hb : s.tray t = .loaded b) (hslot : b.slot = none) (hb' : (classify t s).state.tray t = .loaded b')
  (htag : b.tag = some tag) (htag2 : b.tag2 = none ∨ b.tag2 = some tag)
include hb hslot hb' htag htag2

omit hslot in
/-- Step 2 (R95): the slot takes no bags, and the record does not take the slot. -/
theorem classify_notTaken (hcls : classifyTag t tag (s.singled t) = makeStray t q (s.singled t)) :
    b' = { b with tag2 := none, cls := .stray q.cause, strayId := b'.strayId, entryLink := none } ∧
      recordedAs q s (classify t s).state b'.strayId :=
  makeStray_outcome ((classify_oneTag hb htag htag2).trans hcls) rfl (singled_tray hb) hb'

variable (hdec : s.decodeSlot tag = some sl)
include hdec

/-- Steps 3 to 7: a stray of the slot. -/
theorem classify_strayOfSlot
    (hst : (s.slot sl).state = .loading ∨ (s.slot sl).state = .final ∨ (s.slot sl).state = .closing)
    (hcls : classifyInSlot t tag sl (s.slotted t sl) = makeStray t q u)
    (hu : u = { s with loop := u.loop, notices := u.notices }) (hloop : u.loop = (s.slotted t sl).loop) :
    b' = { b with
      tag2 := none, slot := some sl, cls := .stray q.cause, strayId := b'.strayId, entryLink := none } ∧
      recordedAs q s (classify t s).state b'.strayId :=
  makeStray_outcome ((classify_slotted hb htag htag2 hdec hst).trans hcls) hu
    ((tray_of_loop hloop t).trans (slotted_tray hb hslot sl)) hb'

/-- Steps 4 and 6: a bag that waits for the slot. -/
theorem classify_waitsForSlot {reason : WaitReason} (hst : (s.slot sl).state = .loading)
    (hcls : classifyInSlot t tag sl (s.slotted t sl) = makeWaiting t reason (s.slotted t sl)) :
    b' = { b with tag2 := none, slot := some sl, cls := .waiting reason, strayId := none, entryLink := none } ∧
      (classify t s).state = { s with loop := (classify t s).state.loop } :=
  makeWaiting_outcome ((classify_slotted hb htag htag2 hdec (.inl hst)).trans hcls) rfl (slotted_tray hb hslot sl) hb'

section Entry
variable (hst : (s.slot sl).state = .loading ∨ (s.slot sl).state = .final) (he : s.entryIn sl tag = some e)
include hst he

/-- Step 5 (R98). -/
theorem classify_duplicate (hcode : e.status.code = 1 ∨ e.status.code = 2) :
    b' = { b with
      tag2 := none, slot := some sl, cls := .stray .duplicateTag, strayId := b'.strayId, entryLink := none } ∧
      recordedAs ⟨.duplicateTag, some tag, none, some sl, none⟩ s (classify t s).state b'.strayId ∧
      (classify t s).state.flagged .shore .duplicateTag = true := by
  have hopen := hst.imp_right (Or.inl (b := (s.slot sl).state = .closing))
  have hcls := classifyInSlot_duplicate (t := t) (s := s.slotted t sl) hst he hcode
  obtain ⟨hbag, hrecord⟩ := classify_strayOfSlot hb hslot hb' htag htag2 hdec hopen hcls rfl rfl
  refine ⟨hbag, hrecord, ?_⟩
  rw [classify_slotted hb htag htag2 hdec hopen, hcls]
  exact (makeStray_moves ..).flags _ _ (flagged_raise _ (Scope.names_shore _) _)

/-- Step 6 (R99). -/
theorem classify_unmapped (hon : e.status.code ≠ 1) (hsorted : e.status.code ≠ 2)
    (hmap : s.lookup sl e.cabin = none) :
    ((s.slot sl).state = .loading →
      b' = { b with
        tag2 := none, slot := some sl, cls := .waiting .cabinUnmapped, strayId := none, entryLink := none } ∧
        (classify t s).state = { s with loop := (classify t s).state.loop }) ∧
      ((s.slot sl).state = .final →
        b' = { b with
          tag2 := none, slot := some sl, cls := .stray .cabinUnmapped, strayId := b'.strayId, entryLink := none } ∧
          recordedAs ⟨.cabinUnmapped, some tag, none, some sl, some e.cabin⟩ s (classify t s).state b'.strayId) := by
  have hcls := classifyInSlot_unmapped (t := t) (s := s.slotted t sl) hst he hon hsorted hmap
  have hstate : ((s.slotted t sl).slot sl).state = (s.slot sl).state := rfl
  refine ⟨fun hload => ?_, fun hfinal => ?_⟩
  · rw [if_pos (hstate.trans hload)] at hcls
    exact classify_waitsForSlot hb hslot hb' htag htag2 hdec hload hcls
  · rw [if_neg (by rw [hstate, hfinal]; nofun)] at hcls
    exact classify_strayOfSlot hb hslot hb' htag htag2 hdec (.inr (.inl hfinal)) hcls rfl rfl

/-- Step 7 (R100). -/
theorem classify_routed (hon : e.status.code ≠ 1) (hsorted : e.status.code ≠ 2)
    (hmap : (s.lookup sl e.cabin).isSome = true) :
    b' = { b with
      tag2 := none, slot := some sl, cls := .routed, strayId := b'.strayId, entryLink := some tag } ∧
      (classify t s).state.entry tag = some { e with status := .onLoop false } ∧
      (∀ x, s.strayOfTag tag = some x → x.slot = some (sl, (s.slot sl).call) →
        b'.strayId = some x.id ∧ (classify t s).state.strays = s.strays.map fun y =>
          if y.id = x.id then { y with state := .reinducted, untracked := false } else y) ∧
      ((∀ x, s.strayOfTag tag = some x → x.slot ≠ some (sl, (s.slot sl).call)) →
        b'.strayId = none ∧ (classify t s).state.strays = s.strays) := by
  obtain ⟨g, hg⟩ := Option.isSome_iff_exists.mp hmap
  have hopen := hst.imp_right (Or.inl (b := (s.slot sl).state = .closing))
  have hcls := classifyInSlot_routed (t := t) (s := s.slotted t sl) hst he hon hsorted hg
  exact routeBag_outcome ((classify_slotted hb htag htag2 hdec hopen).trans hcls) rfl (slotted_tray hb hslot sl) hb'
    (entry_of_entryIn he).1 hon hsorted

end Entry

end Steps

/-- Settles O23. -/
theorem classificationFollowsTheSteps : Obligations.classificationFollowsTheSteps := by
  refine ⟨fun t b s hb hslot => ?_, fun q s u id hu hid => ?_⟩
  · obtain ⟨b', hb'⟩ := (classify_rewrites t s).loaded hb
    refine ⟨b', b'.strayId, hb', fun htag => makeStray_outcome (classify_noRead hb htag) rfl hb hb',
      fun tag tag2 htag htag2 hne => ?_, fun tag htag htag2 => ⟨fun hdec => ?_, fun sl hdec => ?_⟩⟩
    · exact makeStray_outcome (classify_multiRead hb htag htag2 hne) rfl hb hb'
    · exact classify_notTaken hb hb' htag htag2 (classifyTag_foreign (s := s.singled t) hdec)
    · refine ⟨fun hst => classify_notTaken hb hb' htag htag2 (classifyTag_vacant (s := s.singled t) hdec hst),
        fun hst => classify_notTaken hb hb' htag htag2 (classifyTag_closed (s := s.singled t) hdec hst),
        fun hst => classify_strayOfSlot hb hslot hb' htag htag2 hdec (.inr (.inr hst))
          (classifyInSlot_closing (s := s.slotted t sl) hst) rfl rfl,
        fun hst he => classify_waitsForSlot hb hslot hb' htag htag2 hdec hst
          (classifyInSlot_waits (s := s.slotted t sl) hst he),
        fun hst he => classify_strayOfSlot hb hslot hb' htag htag2 hdec (.inr (.inl hst))
          (classifyInSlot_unknown (s := s.slotted t sl) hst he) rfl rfl, fun e hst he => ?_⟩
      exact ⟨classify_duplicate hb hslot hb' htag htag2 hdec hst he,
        classify_unmapped hb hslot hb' htag htag2 hdec hst he, classify_routed hb hslot hb' htag htag2 hdec hst he⟩
  · subst hu hid
    refine ⟨recordStray_eq q s, fun hq => ?_, fun sl hq => ?_, fun e he => ?_,
      fun hnone => ⟨fun hlen => ?_, fun hlen => ?_⟩⟩
    · rw [recordStray_slots, hq]
      rfl
    · rw [recordStray_slots, hq, countStray_slots_some]
    · rw [recordStray_carried (carrierOf_eq_some he), countStray_eq]
      exact ⟨rfl, rfl, rfl, rfl, rfl⟩
    · obtain ⟨k, hk, hfree, hskip⟩ := nextFreeId_fresh hlen
      obtain ⟨hshore, hvessel⟩ := flagged_raise_strayScope .newStray q.slot s { s with
        slots := (countStray q.slot s).slots, strays := s.strays ++ [s.newStray q s.nextFreeId]
        nextStrayId := s.nextFreeId + 1 }
      rw [recordStray_appended (carrierOf_eq_none hnone) hlen]
      refine ⟨k, congrArg some hk, hfree, hskip, ?_, congrArg (· + 1) hk, rfl, hshore, hvessel⟩
      rw [← hk]
      rfl
    · obtain ⟨hshore, hvessel⟩ := flagged_raise_strayScope .strayListFull q.slot s { s with
        slots := (countStray q.slot s).slots, unlisted := min 65535 (s.unlisted + 1) }
      rw [recordStray_unlisted (carrierOf_eq_none hnone) hlen]
      exact ⟨rfl, rfl, rfl, rfl, hshore, hvessel⟩

end Sys2Proof.Machine
end

/-! ## Proofs: chutes and destination groups (chapter 6) -/

section
/-! SUPPORT. The committed law (R116) as a sum over the trays: what one tray rewritten does to it, and what keeps
it. -/

namespace Sys2Proof.Machine

-- Elaborated in turn, as the proof of O14 is, for the memory that the threads' stacks would take.
set_option Elab.async false

/-! ### The units a tray holds -/

/-- The units of the trays SELECTED or ARMED for a chute. -/
def State.heldFor (s : State) (c : ChuteId) : Nat := (s.loop.trays.map (·.heldFor c)).sum

theorem State.committedLaw.chute {s : State} (h : s.committedLaw) (c : ChuteId) :
    (s.chute c).committed = s.heldFor c := h c

/-- A tray that holds no units at any chute. -/
def Tray.Unheld (x : Tray) : Prop := ∀ c, x.heldFor c = 0

theorem Tray.unheld_of_noBag {x : Tray} (h : x.bag = none) : x.Unheld := by
  cases x with
  | empty | reserved | suspect => exact fun _ => rfl
  | loaded | selected | armed | fired | unconfirmed => cases h

theorem Tray.unheld_of_free {x : Tray} (h : x.occupied = false) : x.Unheld := by
  cases x with
  | empty | reserved => exact fun _ => rfl
  | loaded | selected | armed | fired | unconfirmed | suspect => cases h

theorem Tray.heldFor_mapBag {f : BagRecord → BagRecord} {x : Tray}
    (h : ∀ b, x.bag = some b → (f b).size = b.size) (c : ChuteId) : (x.mapBag f).heldFor c = x.heldFor c := by
  cases x with
  | selected b | armed b => simp only [Tray.mapBag, Tray.heldFor, h b rfl]
  | empty | reserved | loaded | fired | unconfirmed | suspect => rfl

theorem sum_map_set {f : Tray → Nat} {xs : List Tray} {t : Nat} (ht : t < xs.length) (x : Tray) :
    ((xs.set t x).map f).sum + f xs[t] = (xs.map f).sum + f x := by
  induction xs generalizing t with
  | nil => cases ht
  | cons y r ih =>
    cases t with
    | zero => simp; omega
    | succ t =>
      have hrest := ih (Nat.lt_of_succ_lt_succ ht)
      simp only [List.set_cons_succ, List.map_cons, List.sum_cons, List.getElem_cons_succ]
      omega

section Held
variable {s u : State} {t : Nat} {x : Tray} {c : ChuteId}

/-- One tray rewritten moves the units held by what it holds less what it held. -/
theorem heldFor_of_set (ht : t < s.T) (h : u.loop.trays = s.loop.trays.set t x) (c : ChuteId) :
    u.heldFor c + (s.tray t).heldFor c = s.heldFor c + x.heldFor c := by
  have htray : s.tray t = s.loop.trays[t] := by simp [State.tray, List.getElem?_eq_getElem ht]
  rw [State.heldFor, h, htray]
  exact sum_map_set ht x

/-- Trays that each hold what they held. -/
theorem heldFor_of_trays (hT : u.T = s.T) (h : ∀ k, (u.tray k).heldFor c = (s.tray k).heldFor c) :
    u.heldFor c = s.heldFor c := by
  refine congrArg List.sum (List.ext_getElem (by simpa [State.T] using hT) fun k hu hs => ?_)
  rw [List.length_map] at hu hs
  have hk := h k
  simp only [State.tray, List.getD_eq_getElem?_getD, List.getElem?_eq_getElem hu, List.getElem?_eq_getElem hs,
    Option.getD_some] at hk
  simpa using hk

theorem tray_heldFor_le (t : Nat) (c : ChuteId) (s : State) : (s.tray t).heldFor c ≤ s.heldFor c := by
  by_cases ht : t < s.T
  · have htray : s.tray t = s.loop.trays[t] := by simp [State.tray, List.getElem?_eq_getElem ht]
    rw [htray]
    exact List.single_le_sum (by simp) _ (List.mem_map_of_mem (List.getElem_mem ht))
  · rw [tray_of_le (not_lt.mp ht)]
    exact Nat.zero_le _

/-- A tray SELECTED or ARMED for a chute holds its bag's units there alone. -/
theorem heldFor_bound {b : BagRecord} (hx : (∃ a d, x = .selected b c a d) ∨ x = .armed b c) (k : ChuteId) :
    x.heldFor k = if c = k then unitsOf b.size else 0 := by
  rcases hx with ⟨a, d, rfl⟩ | rfl <;> rfl

end Held

/-! ### States -/

/-- `t` is under the committed law where `s` is. -/
structure State.Balances (s t : State) : Prop where
  law : s.committedLaw → t.committedLaw

theorem State.Balances.refl (s : State) : s.Balances s := ⟨id⟩

theorem State.Balances.trans {s t u : State} (h : s.Balances t) (k : t.Balances u) : s.Balances u :=
  ⟨k.law ∘ h.law⟩

theorem foldl_balances {α : Type} {f : State → α → State} (h : ∀ (s : State) (a : α), s.Balances (f s a))
    (xs : List α) (s : State) : s.Balances (xs.foldl f s) := by
  induction xs generalizing s with
  | nil => exact .refl s
  | cons x r ih => exact (h s x).trans (ih _)

theorem ite_balances {p : Prop} [Decidable p] {s a b : State} (ha : p → s.Balances a) (hb : ¬p → s.Balances b) :
    s.Balances (if p then a else b) := by
  split
  · next h => exact ha h
  · next h => exact hb h

section Balances
variable {s u : State} {t : Nat} {x : Tray} {c : ChuteId} {b : BagRecord}

/-- Trays that hold what they held, and chutes with as many units committed. -/
theorem State.Balances.of_held (hT : u.T = s.T) (held : ∀ k c, (u.tray k).heldFor c = (s.tray k).heldFor c)
    (committed : ∀ c, (u.chute c).committed = (s.chute c).committed) : s.Balances u where
  law h c := (committed c).trans ((h.chute c).trans (heldFor_of_trays hT fun k => held k c).symm)

/-- What leaves the trays and the committed units. -/
theorem State.Balances.of_committed (trays : u.loop.trays = s.loop.trays)
    (committed : ∀ c, (u.chute c).committed = (s.chute c).committed) : s.Balances u :=
  .of_held (congrArg List.length trays) (fun k c => by rw [State.tray, trays]; rfl) committed

/-- What leaves the trays and the chutes. -/
theorem State.Balances.quiet (trays : u.loop.trays = s.loop.trays := by rfl)
    (chutes : u.chutes = s.chutes := by rfl) : s.Balances u :=
  .of_committed trays fun c => by rw [State.chute, chutes]; rfl

theorem balances_of_sansNotices (h : u.sansNotices = s.sansNotices) : s.Balances u :=
  .quiet (congrArg (·.loop.trays) h :) (congrArg State.chutes h :)

theorem balances_of_sansSlots (h : u.sansSlots = s.sansSlots) : s.Balances u :=
  .quiet (congrArg (·.loop.trays) h :) (congrArg State.chutes h :)

theorem balances_of_sansInds (h : u.sansInds = s.sansInds) : s.Balances u :=
  .quiet (congrArg (·.loop.trays) h :) (congrArg State.chutes h :)

/-- One tray rewritten that holds what it held. -/
theorem State.Balances.of_tray (trays : u.loop.trays = s.loop.trays.set t x) (chutes : u.chutes = s.chutes)
    (hx : ∀ c, x.heldFor c = (s.tray t).heldFor c) : s.Balances u := by
  refine .of_held ((congrArg List.length trays).trans List.length_set) (fun k c => ?_) fun c => ?_
  · rw [tray_of_set trays]
    split
    · next hk => rw [hk.1, hx]
    · rfl
  · rw [State.chute, chutes]; rfl

/-- R116: one tray rewritten, the chutes' committed units changed by what it holds less what it held. -/
theorem State.Balances.of_exchange (ht : t < s.T) (trays : u.loop.trays = s.loop.trays.set t x)
    (committed : ∀ c, (s.tray t).heldFor c ≤ (s.chute c).committed →
      (u.chute c).committed + (s.tray t).heldFor c = (s.chute c).committed + x.heldFor c) : s.Balances u where
  law h c := by
    have hheld := heldFor_of_set ht trays c
    have hle := tray_heldFor_le t c s
    have hlaw := h.chute c
    have hnew := committed c (hlaw ▸ hle)
    change _ = u.heldFor c
    omega

theorem putTray_balances (hs : (s.tray t).Unheld) (hx : x.Unheld) : s.Balances (putTray t x s) :=
  .of_tray rfl rfl fun c => (hx c).trans (hs c).symm

theorem modBag_balances {f : BagRecord → BagRecord} (h : ∀ b, (f b).size = b.size := by exact fun _ => rfl) :
    s.Balances (modBag t f s) := .of_tray rfl rfl (Tray.heldFor_mapBag fun b _ => h b)

/-- The bag of one tray rewritten, its size class kept. -/
theorem State.Balances.of_rewrite (hT : u.T = s.T) (hbag : RewritesBag t s u) (hkeeps : KeepsBag t s u)
    (others : ∀ k, k ≠ t → u.tray k = s.tray k) (chutes : u.chutes = s.chutes) : s.Balances u := by
  refine .of_held hT (fun k c => ?_) fun c => by rw [State.chute, chutes]; rfl
  by_cases hk : k = t
  · subst hk
    obtain ⟨f, hf⟩ := hbag
    rw [hf]
    refine Tray.heldFor_mapBag (fun b hb => ?_) c
    obtain ⟨b', hb', hsame⟩ := hkeeps.bag b hb
    rw [hf, Tray.bag_mapBag, hb] at hb'
    obtain rfl := Option.some.inj hb'
    exact hsame.size
  · rw [others k hk]

/-- R116: a tray SELECTED or ARMED for a chute gives its units back to it. -/
theorem State.Balances.of_return (hx : (∃ a d, s.tray t = .selected b c a d) ∨ s.tray t = .armed b c)
    (trays : u.loop.trays = s.loop.trays.set t x) (hnew : x.Unheld)
    (chutes : u.chutes = s.chutes.set c { s.chute c with committed := (s.chute c).committed - unitsOf b.size }) :
    s.Balances u := by
  have ht : t < s.T := not_le.mp fun hle => by
    rw [tray_of_le hle] at hx
    rcases hx with ⟨_, _, h⟩ | h <;> cases h
  refine .of_exchange ht trays fun k hle => ?_
  rw [heldFor_bound hx] at hle ⊢
  rw [chute_set c k _ chutes, hnew]
  by_cases hk : c = k
  · subst hk
    simp only [if_pos] at hle ⊢
    omega
  · rw [if_neg hk, if_neg (Ne.symm hk)]

end Balances

end Sys2Proof.Machine
end

section
/-! SUPPORT. What the bags on the loop bring about keeps the committed law (R116): chutes judged, selections made,
lost and armed, fires, classifications, wakes, the check eye, claims and the acts of a pitch event. -/

namespace Sys2Proof.Machine

-- Elaborated in turn, as the proof of O14 is, for the memory that the threads' stacks would take.
set_option Elab.async false

/-! ### Notices, trays, inductions -/

theorem raise_balances (n : Notice) (sc : Scope) (s : State) : s.Balances (raise n sc s) := .quiet

theorem raiseIf_balances (b : Bool) (n : Notice) (sc : Scope) (s : State) : s.Balances (raiseIf b n sc s) :=
  balances_of_sansNotices (raiseIf_frame ..)

theorem modInd_balances (i : IndId) (f : Induction → Induction) (s : State) : s.Balances (modInd i f s) := .quiet

theorem settleHolds_balances (v u : State) : u.Balances (settleHolds v u) :=
  balances_of_sansInds (settleHolds_frame v u)

theorem requestReservation_balances (i : IndId) (s : State) : s.Balances (requestReservation i s) :=
  balances_of_sansInds (requestReservation_frame ..)

theorem judgeQuota_balances (sl : Slot) (s : State) : s.Balances (judgeQuota sl s) :=
  balances_of_sansSlots (judgeQuota_frame ..)

theorem judgeLoopHold_balances (s : State) : s.Balances (judgeLoopHold s) :=
  ite_balances (fun _ => .quiet) fun _ => ite_balances (fun _ => .quiet) fun _ => .refl s

theorem loadTray_balances {t : Nat} {b : BagRecord} {s : State} (h : (s.tray t).Unheld) :
    s.Balances (loadTray t b s) := (putTray_balances h fun _ => rfl).trans (judgeLoopHold_balances _)

theorem emptyTray_balances {t : Nat} {s : State} (h : (s.tray t).Unheld) : s.Balances (emptyTray t s) :=
  .of_tray (emptyTray_trays t s) (emptyTray_chutes t s) fun c => (h c).symm

/-! ### Chutes and what is judged after them -/

theorem putChute_balances {c : ChuteId} {x : Chute} {s : State} (h : x.committed = (s.chute c).committed) :
    s.Balances (putChute c x s) := .of_committed rfl fun k => by
  rw [chute_set c k x (s := s) (t := putChute c x s) rfl]
  split
  · next hk => exact hk ▸ h
  · rfl

/-- A chute record rewritten with its committed units kept. -/
theorem setChute_balances {c : ChuteId} {x : Chute} {s : State} (h : x.committed = (s.chute c).committed) :
    s.Balances (setChute c x s) := (putChute_balances h).trans
  (.quiet (congrArg (·.loop.trays) (setChute_frame c x s) :) (setChute_chutes c x s))

theorem modChute_balances {c : ChuteId} {f : Chute → Chute} {s : State}
    (h : (f (s.chute c)).committed = (s.chute c).committed := by rfl) : s.Balances (modChute c f s) :=
  setChute_balances h

theorem judgeStrayArmed_balances (s : State) : s.Balances (judgeStrayArmed s) :=
  ite_balances (fun _ => .quiet) fun _ => .refl s

theorem takeOver_balances (k c : ChuteId) (s : State) : s.Balances (takeOver k c s) :=
  .trans modChute_balances (raise_balances ..)

theorem coverFull_balances (c : ChuteId) (s : State) : s.Balances (coverFull c s) :=
  ite_balances (fun _ => foldl_balances (fun s k => takeOver_balances k c s) _ s) fun _ => .refl s

theorem judgeStandby_balances (c : ChuteId) (s : State) : s.Balances (judgeStandby c s) := by
  refine ite_balances (fun _ => ?_) fun _ => .refl s
  split
  · exact takeOver_balances ..
  · exact .refl s

theorem judgeFill_balances (c : ChuteId) (s : State) : s.Balances (judgeFill c s) :=
  ite_balances
    (fun _ => ite_balances
      (fun _ => .trans (.trans modChute_balances (raise_balances ..)) (coverFull_balances ..))
      fun _ => .trans modChute_balances (raiseIf_balances ..))
    fun _ => .refl s

theorem returnFill_balances (c : ChuteId) (g : BitVec 8) (n : Nat) (s : State) : s.Balances (returnFill c g n s) :=
  ite_balances (fun _ => .trans modChute_balances (judgeFill_balances ..)) fun _ => .refl s

theorem tiltFailed_balances (c : ChuteId) (s : State) : s.Balances (tiltFailed c s) :=
  ite_balances (fun _ => .refl s) fun _ => ite_balances
    (fun _ => .trans modChute_balances (raiseIf_balances ..)) fun _ => modChute_balances

theorem removeWindow_balances (c : ChuteId) (t : Nat) (s : State) : s.Balances (removeWindow c t s) :=
  putChute_balances rfl

theorem setWindows_balances (c : ChuteId) (ws : List ConfirmWindow) (s : State) : s.Balances (setWindows c ws s) :=
  putChute_balances rfl

/-! ### Selections and fires -/

/-- R13, R116: a selection lost gives its units back. -/
theorem cancelSelection_balances (t : Nat) (s : State) : s.Balances (cancelSelection t s) := by
  have htrays := cancelSelection_trays t s
  have hnew : (s.tray t).unselected.Unheld := by cases s.tray t <;> exact fun _ => rfl
  cases hx : s.tray t with
  | selected b c a d =>
    refine .of_return (.inl ⟨a, d, hx⟩) htrays hnew ?_
    rw [cancelSelection, hx]
    exact modChute_chutes ..
  | armed b c =>
    refine .of_return (.inr hx) htrays hnew ?_
    rw [cancelSelection, hx]
    exact modChute_chutes ..
  | empty | reserved | loaded | fired | unconfirmed | suspect =>
    rw [cancelSelection, hx]
    exact .refl s

/-- R116, R120: a selection made commits its units. -/
theorem passToSelection_balances (t : Nat) (s : State) : s.Balances (passToSelection t s) := by
  rcases passToSelection_cases t s with ⟨b, k, hb, h⟩ | h
  · rw [h]
    refine .of_exchange (tray_loaded_lt hb) (x := .selected b k.chute k.arm k.d) ?_ fun c _ => ?_
    · rw [modChute_loop]
      rfl
    · rw [modChute_chute, hb, heldFor_bound (.inl ⟨k.arm, k.d, rfl⟩)]
      by_cases hc : c = k.chute
      · subst hc
        rw [if_pos rfl, if_pos rfl]
        rfl
      · rw [if_neg hc, if_neg (Ne.symm hc)]
        rfl
  · exact .quiet (congrArg (·.loop.trays) h :) (congrArg State.chutes h :)

theorem cancelAll_balances (want : Tray → Bool) (s : State) : s.Balances (cancelAll want s) :=
  foldl_balances (fun s t => cancelSelection_balances t s) _ s

/-- R141, R144: an ARMED tray holds the units it held SELECTED; a dropped one gives them back. -/
theorem armTray_balances (t : Nat) (s : State) : s.Balances (armTray t s) := by
  unfold armTray
  split
  case h_1 b c a d hb =>
    refine ite_balances (fun _ => ite_balances (fun _ => ?_) fun _ => ?_) fun _ => .refl s
    · refine .trans (.of_return (.inl ⟨a, d, hb⟩) (x := .loaded b) ?_ (fun _ => rfl) (modChute_chutes ..))
        (raise_balances ..)
      rw [putTray, returnCommitted_loop]
    · refine State.Balances.trans ?_ (raiseIf_balances ..)
      exact .of_tray (t := t) (x := .armed b c) rfl rfl fun _ => by rw [hb]; rfl
  all_goals exact .refl s

theorem closeUnconfirmed_balances (c : ChuteId) (w : ConfirmWindow) (later : List ConfirmWindow) (s : State) :
    s.Balances (closeUnconfirmed c w later s) := by
  unfold closeUnconfirmed
  split
  case h_1 b c' g hb =>
    exact ite_balances (fun _ => putTray_balances (by rw [hb]; exact fun _ => rfl) fun _ => rfl) fun _ => .refl s
  all_goals exact .refl s

theorem openWindow_balances (c : ChuteId) (t : Nat) (s : State) : s.Balances (openWindow c t s) := by
  unfold openWindow
  dsimp only
  split
  · exact ite_balances (fun _ => (setWindows_balances ..).trans (closeUnconfirmed_balances ..)) fun _ =>
      setWindows_balances ..
  · exact setWindows_balances ..

/-- R146: the units of a fire that its tray takes leave committed. -/
theorem fireRecord_balances (r : FireRecord) (s : State) : s.Balances (fireRecord r s) := by
  unfold fireRecord
  split
  case h_1 b c hb =>
    refine ite_balances (fun _ => .trans ?_ (openWindow_balances ..)) fun _ => .refl s
    dsimp only
    generalize hv : modChute c _ _ = v
    have hvloop : v.loop = s.loop := by rw [← hv, modChute_loop]; rfl
    have hvchutes : ∀ k, (v.chute k).committed =
        if k = c then (s.chute c).committed - unitsOf b.size else (s.chute k).committed := fun k => by
      rw [← hv, modChute_chute, putChute_chute]
      split
      · rfl
      · next hk => rw [putChute_chute_ne _ _ _ _ hk]
    have hloop : (judgeFill c v).loop = s.loop := (congrArg State.loop (judgeFill_frame c v) :).trans hvloop
    have ht : r.tray < s.T := not_le.mp fun hle => by
      rw [tray_of_le hle] at hb
      cases hb
    refine .of_exchange (x := .fired b c ((judgeFill c v).chute c).gen) ht (by rw [putTray, hloop]) fun k hle => ?_
    have hk : ((putTray r.tray (.fired b c ((judgeFill c v).chute c).gen) (judgeFill c v)).chute k).committed =
        (v.chute k).committed := judgeFill_chute_keeps Chute.committed (fun _ _ _ _ _ => rfl) c k v
    rw [heldFor_bound (.inr hb)] at hle ⊢
    rw [hk, hvchutes]
    by_cases hkc : c = k
    · subst hkc
      simp only [if_pos] at hle ⊢
      exact Nat.sub_add_cancel hle
    · rw [if_neg hkc, if_neg (Ne.symm hkc)]
      rfl
  all_goals exact .refl s

theorem fireHead_balances (s : State) : s.Balances (fireHead s) := by
  unfold fireHead
  split
  · exact ite_balances (fun _ => .trans .quiet (fireRecord_balances ..)) fun _ => .refl s
  · exact .refl s

/-! ### Bags, entries and strays -/

/-- R166: a bag record that loses its stray id keeps its size class. -/
theorem removeStray_balances (id : BitVec 16) (s : State) : s.Balances (removeStray id s) := by
  refine .of_held (List.length_map _) (fun k c => ?_) fun _ => rfl
  rw [removeStray_tray]
  exact Tray.heldFor_mapBag (fun b _ => by split <;> rfl) c

theorem straySorted_balances (id : Option (BitVec 16)) (s : State) : s.Balances (straySorted id s) := by
  unfold straySorted
  split
  · exact ite_balances (fun _ => removeStray_balances ..) fun _ => .refl s
  · exact .refl s

theorem undoStray_balances (u : UndoStray) (s : State) : s.Balances (undoStray u s) := by
  unfold undoStray
  split
  · split
    · exact ite_balances (fun _ => removeStray_balances ..) fun _ =>
        ite_balances (fun _ => .quiet) fun _ => .refl s
    · exact .refl s
  · split
    · exact ite_balances (fun _ => .quiet) fun _ => .refl s
    · exact .refl s

theorem undoNote_balances (linked : Option Tag) (n : UndoNote) (s : State) :
    s.Balances (undoNote linked n s) := by
  have hrestored : s.Balances (restoreLinked linked n s) := by
    rw [restoreLinked_eq]
    exact .quiet
  rw [undoNote_def]
  split
  · exact hrestored.trans (undoStray_balances ..)
  · exact hrestored

theorem sortEntry_balances (tag : Tag) (c : ChuteId) (u : Bool) (s : State) : s.Balances (sortEntry tag c u s) := by
  unfold sortEntry
  split
  · split
    case h_1 => exact .trans .quiet (raiseIf_balances ..)
    all_goals exact .refl s
  · exact .refl s

theorem sortBag_balances (b : BagRecord) (c : ChuteId) (u : Bool) (s : State) : s.Balances (sortBag b c u s) := by
  unfold sortBag
  split
  · exact (sortEntry_balances ..).trans (straySorted_balances ..)
  · split
    · exact ite_balances (fun _ => .quiet) fun _ => .refl s
    · exact .refl s

theorem loseBag_balances (b : BagRecord) (s : State) : s.Balances (loseBag b s) := by
  rw [loseBag_eq]
  exact .quiet

theorem makeStray_balances (t : Nat) (q : StrayRequest) (s : State) : s.Balances (makeStray t q s).state :=
  .of_rewrite (makeStray_moves ..).trays (makeStray_rewrites ..) (makeStray_keepsBag ..)
    (fun _ hk => makeStray_tray_ne hk q s) (makeStray_chutes ..)

/-- R93 to R101: a classification keeps the bag's size class and its tray's state. -/
theorem classify_balances (t : Nat) (s : State) : s.Balances (classify t s).state :=
  .of_rewrite (classify_moves ..).trays (classify_rewrites ..) (classify_keepsBag ..)
    (fun _ hk => classify_tray_ne hk s) (congrArg State.chutes (classify_frame t s) :)

/-! ### Wakes and the check eye -/

theorem raiseExpired_balances (t : Nat) (s : State) : s.Balances (raiseExpired t s) :=
  balances_of_sansNotices (raiseExpired_frame ..)

theorem wakeTray_balances (t : Nat) (s : State) : s.Balances (wakeTray t s) := by
  rcases wakeTray_cases t s with ⟨b, -, -, e⟩ | e
  · rw [e, wakeJudged_eq]
    exact .trans (.trans (classify_balances t s) .quiet) (passToSelection_balances ..)
  · rw [e]
    exact .refl s

theorem wakeWhere_balances (sl : Slot) (want : BagRecord → Bool) (s : State) : s.Balances (wakeWhere sl want s) :=
  foldl_balances (fun s t => wakeTray_balances t s) _ s

theorem judgeWait_balances (t : Nat) (s : State) : s.Balances (judgeWait t s) := by
  refine (classify_balances t s).trans ?_
  unfold judgeWait
  dsimp only
  split
  · split
    · exact ite_balances (fun _ => (makeStray_balances ..).trans (raise_balances ..)) fun _ => .refl _
    · exact .refl _
    · exact raiseExpired_balances ..
  · exact .refl _

theorem judgeLimit_balances (t : Nat) (s : State) : s.Balances (judgeLimit t s) := by
  unfold judgeLimit
  split
  · refine ite_balances (fun _ => ?_) fun _ => .refl s
    dsimp only
    split
    · exact (makeStray_balances ..).trans .quiet
    · exact makeStray_balances ..
  · exact .refl s

theorem newPass_balances (t : Nat) (s : State) : s.Balances (newPass t s) := by
  rw [newPass_eq]
  refine .trans (.trans ?_ (judgeLimit_balances ..)) (passToSelection_balances ..)
  unfold passJudged
  dsimp only
  split
  · exact ite_balances (fun _ => .trans modBag_balances (judgeWait_balances ..)) fun _ => modBag_balances
  · exact modBag_balances

section Eye
variable {t : Nat} {b : BagRecord} {s : State}

theorem loadOrphan_balances (h : (s.tray t).Unheld) : s.Balances (loadOrphan t s) :=
  .trans (.trans (loadTray_balances h) (makeStray_balances ..)) (passToSelection_balances ..)

theorem orphanFound_balances (h : (s.tray t).Unheld) : s.Balances (orphanFound t s) := by
  have key : ∀ v : State, v.sansInds = s.sansInds → s.Balances (loadOrphan t (raise .orphanBag .hall v)) := by
    intro v hv
    have htray : (raise .orphanBag .hall v).tray t = s.tray t := tray_of_loop (congrArg State.loop hv :) t
    exact .trans (.trans (balances_of_sansInds hv) (raise_balances ..)) (loadOrphan_balances (htray ▸ h))
  unfold orphanFound
  dsimp only
  split
  case h_1 => exact key _ (loseReservation_frame ..)
  all_goals exact key s rfl

theorem settleLoaded_balances (hb : s.tray t = .loaded b) (eye : Bool) : s.Balances (settleLoaded t b eye s) := by
  refine ite_balances (fun _ => newPass_balances ..) fun _ => ?_
  have htray : (loseBag b (raise .lostBag (scopeOf b.slot) s)).tray t = .loaded b := by
    rw [loseBag_eq]
    exact hb
  exact .trans (.trans (raise_balances ..) (loseBag_balances ..))
    (emptyTray_balances (by rw [htray]; exact fun _ => rfl))

/-- R163: the sort of a bag leaves every tray as it is but for its bag record. -/
theorem sortBag_rewrites (t : Nat) (b : BagRecord) (c : ChuteId) (u : Bool) (s : State) :
    RewritesBag t s (sortBag b c u s) := by
  have hremoved : ∀ id, RewritesBag t s (removeStray id s) := fun id => ⟨_, removeStray_tray ..⟩
  have hloop : ∀ v : State, v.loop = s.loop → ∀ id, RewritesBag t s (straySorted id v) := fun v hv id => by
    refine .trans (.of_loop hv) ?_
    unfold straySorted
    split
    · split
      · exact ⟨_, removeStray_tray ..⟩
      · exact .of_loop rfl
    · exact .of_loop rfl
  unfold sortBag
  split
  · exact hloop _ (sortEntry_loop ..) _
  · split
    · split <;> exact .of_loop rfl
    · exact .of_loop rfl

theorem settleUnconfirmed_balances {c : ChuteId} {g : BitVec 8} (hb : s.tray t = .unconfirmed b c g) (eye : Bool) :
    s.Balances (settleUnconfirmed t b c g eye s) := by
  refine ite_balances (fun _ => ?_) fun _ => ?_
  · have hloop : (tiltFailed c (returnFill c g (unitsOf b.size) s)).loop = s.loop :=
      (congrArg State.loop ((tiltFailed_frame ..).trans (returnFill_frame c g (unitsOf b.size) s)) :)
    refine .trans ?_ (newPass_balances ..)
    exact .trans ((returnFill_balances c g (unitsOf b.size) s).trans (tiltFailed_balances c _))
      (putTray_balances (by rw [tray_of_loop hloop, hb]; exact fun _ => rfl) fun _ => rfl)
  · obtain ⟨f, hf⟩ := sortBag_rewrites t b c true s
    refine .trans (.trans (sortBag_balances ..) (raise_balances ..)) (emptyTray_balances ?_)
    change ((sortBag b c true s).tray t).Unheld
    rw [hf, hb]
    exact fun _ => rfl

theorem settleRow_balances (t : Nat) (eye : Bool) (s : State) : s.Balances (settleRow t eye s) := by
  unfold settleRow
  split
  case h_1 h | h_2 h =>
    exact ite_balances (fun _ => orphanFound_balances (by rw [h]; exact fun _ => rfl)) fun _ => .refl s
  case h_3 h => exact settleLoaded_balances h eye
  case h_4 h => exact settleUnconfirmed_balances h eye
  case h_5 b c h =>
    have htray : (raise .armDropped (s.chute c).scope (cancelSelection t s)).tray t = .loaded b := by
      refine (cancelSelection_tray t t s).trans ?_
      rw [if_pos rfl, h]
      rfl
    exact .trans (.trans (cancelSelection_balances ..) (raise_balances ..)) (settleLoaded_balances htray eye)
  case h_6 b c g h =>
    have ht : t < s.T := not_le.mp fun hle => by
      rw [tray_of_le hle] at h
      cases h
    refine .trans (.trans (removeWindow_balances c t s) (putTray_balances (t := t) (x := .unconfirmed b c g) ?_ ?_))
      (settleUnconfirmed_balances (putTray_tray t _ (removeWindow c t s) ht) eye)
    · change (s.tray t).Unheld
      rw [h]
      exact fun _ => rfl
    · exact fun _ => rfl
  case h_7 h =>
    have hunheld : (s.tray t).Unheld := by
      rw [h]
      exact fun _ => rfl
    exact ite_balances (fun _ => loadOrphan_balances hunheld) fun _ => emptyTray_balances hunheld
  case h_8 => exact .refl s

end Eye

theorem confirmLaunch_balances (t : Nat) (s : State) : s.Balances (confirmLaunch t s) := modBag_balances

theorem reconcile_balances (t : Nat) (eye : Bool) (s : State) : s.Balances (reconcile t eye s) := by
  refine .trans (ite_balances (fun _ => ?_) fun _ => .refl s) (settleRow_balances ..)
  exact .trans (foldl_balances (f := fun s i =>
      modInd i (fun r => { r with windows := r.windows.filter fun w => w.tray != t }) s)
    (fun _ _ => .quiet) _ s) (confirmLaunch_balances ..)

/-! ### Claims, grants and the acts of a pitch event -/

theorem grantReservation_balances (s : State) : s.Balances (grantReservation s) := by
  unfold grantReservation
  split
  · next h =>
    split
    · exact .trans (putTray_balances (by rw [h]; exact fun _ => rfl) fun _ => rfl) .quiet
    · exact .refl s
  · exact .refl s

theorem freeReserved_balances (i : IndId) (t : Nat) (s : State) : s.Balances (freeReserved i t s) :=
  ite_balances (fun h => putTray_balances (by rw [h]; exact fun _ => rfl) fun _ => rfl) fun _ => .refl s

/-- R40: a tray claimed is EMPTY or RESERVED. -/
theorem claimTray_balances {i : IndId} {t : Nat} {s : State} (h : claimable i (s.tray t) = true) :
    s.Balances (claimTray i t s) := by
  have hunheld : (s.tray t).Unheld := by
    rcases claimable_iff.mp h with h | h <;> rw [h] <;> exact fun _ => rfl
  unfold claimTray
  split
  next r q _ =>
    refine (modInd_balances i (fun x => { x with queue := q, waitCount := 0 }.judgeQueue) s).trans ?_
    refine State.Balances.trans ?_ (modInd_balances ..)
    exact .trans (.trans (loadTray_balances hunheld) (classify_balances t _)) (passToSelection_balances ..)
  next => exact .refl s

theorem claimCheck_balances (hold : Bool) (i : IndId) (s : State) : s.Balances (claimCheck hold i s) := by
  unfold claimCheck
  dsimp only
  split
  · next h => exact (claimTray_balances h.2.2.2).trans (requestReservation_balances ..)
  · refine .trans (ite_balances (fun _ => ?_) fun _ => .refl s)
      ((modInd_balances ..).trans (requestReservation_balances ..))
    exact ite_balances (fun _ => (freeReserved_balances ..).trans (modInd_balances ..)) fun _ => .refl s

theorem doAct_balances (hold eye : Bool) (s : State) (a : PitchAct) : s.Balances (doAct hold eye s a) := by
  refine .trans ?_ (settleHolds_balances s _)
  cases a with
  | claim i => exact claimCheck_balances ..
  | grant => exact grantReservation_balances _
  | reconcile => exact reconcile_balances ..
  | arm t => exact armTray_balances ..
  | reselect t => exact passToSelection_balances ..

theorem expireWindows_balances (i : IndId) (s : State) : s.Balances (expireWindows i s) :=
  .trans (foldl_balances (fun s (w : LaunchWindow) => confirmLaunch_balances w.tray s) _ s) .quiet

theorem pitchActs_balances (hold first : Bool) (order : List Nat) (eye : Bool) (s : State) :
    s.Balances (pitchActs hold first order eye s) :=
  (foldl_balances (f := fun s i => expireWindows i (countWindows i s))
    (fun _ _ => .trans .quiet (expireWindows_balances ..)) _ s).trans (foldl_balances (doAct_balances hold eye) _ _)

/-! ### Track slip (R12), stall (R6) -/

/-- A state in which no tray holds units and no chute has any committed. -/
theorem committedLaw_of_none {s : State} (trays : ∀ k, (s.tray k).Unheld) (chutes : ∀ c, (s.chute c).committed = 0) :
    s.committedLaw := fun c => by
  refine (chutes c).trans (List.sum_eq_zero fun n hn => ?_).symm
  obtain ⟨x, hx, rfl⟩ := List.mem_map.mp hn
  obtain ⟨k, hk, rfl⟩ := List.mem_iff_getElem.mp hx
  have htray : s.tray k = s.loop.trays[k] := by simp [State.tray, List.getElem?_eq_getElem hk]
  exact htray ▸ trays k c

/-- R12 step 1: each chute gives back the units of the trays taken so far. -/
theorem foldl_slipUnits_committed (xs : List Tray) (s : State) (c : ChuteId) :
    ((xs.foldl slipUnits s).chute c).committed = (s.chute c).committed - (xs.map (·.heldFor c)).sum := by
  have hone : ∀ (x : Tray) (u : State),
      ((slipUnits u x).chute c).committed = (u.chute c).committed - x.heldFor c := fun x u => by
    cases x with
    | selected b c' _ _ | armed b c' =>
      simp only [slipUnits, returnCommitted, modChute_chute, Tray.heldFor]
      by_cases hc : c = c'
      · subst hc
        rw [if_pos rfl, if_pos rfl]
      · rw [if_neg hc, if_neg (Ne.symm hc)]
        rfl
    | empty | reserved | loaded | fired | unconfirmed | suspect => rfl
  induction xs generalizing s with
  | nil => rfl
  | cons x r ih => rw [List.foldl_cons, ih, hone, List.map_cons, List.sum_cons, Nat.sub_sub]

/-- R12: after a track slip no tray is SELECTED or ARMED, and all committed units are given back. -/
theorem slipTrays_balances (s : State) : s.Balances (slipTrays s) where
  law h := by
    have hchutes : (slipTrays s).chutes =
        (s.loop.trays.foldl slipUnits (dropWindows { s with fireQueue := [] })).chutes :=
      (congrArg State.chutes (slipTrays_frame s) :).trans
        (foldl_keeps State.chutes _ (fun u b => by rw [loseBag_eq]) _ s.slipCleared)
    refine committedLaw_of_none (fun k => ?_) fun c => ?_
    · rw [slipTrays_tray]
      split
      · exact fun _ => rfl
      · next hnone => exact Tray.unheld_of_noBag (Option.not_isSome_iff_eq_none.mp hnone)
    · have hdrop : (dropWindows { s with fireQueue := [] }).chute c = s.chute c :=
        (congrArg (State.chute · c) (dropWindows_frame { s with fireQueue := [] }) :)
      rw [State.chute, hchutes, ← State.chute, foldl_slipUnits_committed, hdrop, h.chute c]
      exact Nat.sub_self _

theorem pitchEvent_balances (order : List Nat) (home eye : Bool) (s : State) :
    s.Balances (pitchEvent order home eye s) := by
  have hpitched : s.Balances (settleHolds s (pitchLoop s)) :=
    .trans (.quiet (pitchLoop_trays s)) (settleHolds_balances ..)
  have hsampled : ∀ u : State, u.Balances (homeSample home u) := fun u => by
    rw [homeSample_eq]
    exact .quiet
  unfold pitchEvent
  dsimp only
  split
  · exact .refl s
  · split
    · exact hpitched.trans (.trans (slipTrays_balances _)
        ((reconcile_balances ..).trans (settleHolds_balances ..)))
    · exact (hpitched.trans (hsampled _)).trans (pitchActs_balances ..)

/-! ### Launch answers and confirmations -/

/-- R43: a failed launch gives back the units its tray had committed. -/
theorem takeFailure_balances {t : Nat} {s u : State} (h : takeFailure t s = some u) : s.Balances u := by
  have htrays := takeFailure_trays h
  have hunheld : ∀ c g n, (s.tray t).Unheld → ((returnFill c g n s).tray t).Unheld := fun c g n hs => by
    rw [tray_of_loop (returnFill_loop c g n s)]
    exact hs
  cases hx : s.tray t with
  | loaded b => exact .of_tray htrays (takeFailure_loaded hx h).1 fun _ => by rw [hx]; rfl
  | selected b c a d =>
    exact .of_return (.inl ⟨a, d, hx⟩) htrays (fun _ => rfl) (takeFailure_committed (.inl ⟨a, d, hx⟩) h)
  | armed b c => exact .of_return (.inr hx) htrays (fun _ => rfl) (takeFailure_committed (.inr hx) h)
  | fired b c g =>
    rw [takeFailure, hx] at h
    exact Option.some.inj h ▸ ((returnFill_balances ..).trans (removeWindow_balances ..)).trans
      (emptyTray_balances (hunheld c g (unitsOf b.size) (by rw [hx]; exact fun _ => rfl)))
  | unconfirmed b c g =>
    rw [takeFailure, hx] at h
    exact Option.some.inj h ▸ (returnFill_balances ..).trans
      (emptyTray_balances (hunheld c g (unitsOf b.size) (by rw [hx]; exact fun _ => rfl)))
  | empty | reserved | suspect =>
    rw [takeFailure, hx] at h
    cases h

theorem takeAnswer_balances (i : IndId) (kind : AnswerKind) (t : Nat) (s : State) :
    s.Balances (takeAnswer i kind t s) := by
  have hfail : ∀ (w : LaunchWindow) (v : State), v.Balances (failLaunch i w v) := fun w v => by
    unfold failLaunch
    split
    · next u hu =>
      rw [returnRead_eq]
      exact .trans (.trans (takeFailure_balances hu) (undoNote_balances ..)) .quiet
    · exact .refl v
  unfold takeAnswer
  split
  · dsimp only
    split
    · exact .trans .quiet (confirmLaunch_balances ..)
    · exact .trans (.trans .quiet (hfail ..)) (settleHolds_balances ..)
  · exact .quiet

theorem confirmTray_balances (c : ChuteId) (w : ConfirmWindow) (later : List ConfirmWindow) (s : State) :
    s.Balances (confirmTray c w later s) := by
  unfold confirmTray
  split
  case h_1 b c' g hb =>
    refine ite_balances (fun _ => .trans (emptyTray_balances ?_) (sortBag_balances ..)) fun _ => .refl s
    rw [hb]
    exact fun _ => rfl
  all_goals exact .refl s

theorem confirmOldest_balances (c : ChuteId) (s : State) : s.Balances (confirmOldest c s) := by
  unfold confirmOldest
  split
  · next w r _ =>
    exact (putChute_balances (c := c) (x := { s.chute c with windows := r, failures := 0 }) rfl).trans
      (confirmTray_balances ..)
  · exact .refl s

end Sys2Proof.Machine
end

section
/-! PROOF. Every step keeps committed units equal to the units selected or armed (O13). -/

namespace Sys2Proof.Machine

-- Elaborated in turn, as the proof of O14 is, for the memory that the threads' stacks would take.
set_option Elab.async false

/-- Whatever state an answer goes with is under the committed law where `s` is. -/
def Answer.Balances (s : State) (a : Answer) : Prop := ∀ t reply, a = .ok (t, reply) → s.Balances t

/-- Whatever state a command leaves is under the committed law where `s` is. -/
def Out.Balances (s : State) (o : Out) : Prop := ∀ t, o = .next t → s.Balances t

theorem Answer.balances_error {s : State} {r : Reason} : Answer.Balances s (.error r) := fun _ _ e => by cases e

theorem Answer.balances_ok {s t : State} {reply : Reply} (h : s.Balances t) : Answer.Balances s (.ok (t, reply)) :=
  fun _ _ e => (Prod.mk.inj (Except.ok.inj e)).1 ▸ h

theorem Out.balances_next {s t : State} (h : s.Balances t) : Out.Balances s (.next t) :=
  fun _ e => Host.Outcome.next.inj e ▸ h

variable {s : State}

/-! ### The loop and the inductions (chapters 1 and 2) -/

theorem tray_unheld_of_replicate {n : Nat} (h : s.loop.trays = List.replicate n .empty) (k : Nat) :
    (s.tray k).Unheld := by
  have htray : s.tray k = .empty := by
    rw [State.tray, h, List.getD_eq_getElem?_getD, List.getElem?_replicate]
    split <;> rfl
  rw [htray]
  exact fun _ => rfl

/-- R1 check 2, R3: a change of T finds no tray SELECTED or ARMED, and makes none. -/
theorem rebuildTrays_balances {n : Nat} (h : s.someOccupied = false) : s.Balances (rebuildTrays n s) where
  law hs := by
    have hsame : (rebuildTrays n s).sansInds =
        State.sansInds
          { s with loop := { s.loop with trays := List.replicate n .empty, pos := 0, homeMiss := 0 } } := by
      unfold rebuildTrays
      dsimp only
      rw [foldl_keeps State.sansInds _ fun u i => modInd_frame i _ u, dropWindows_frame]
    have hnone : ∀ c, s.heldFor c = 0 := fun c => List.sum_eq_zero fun m hm => by
      obtain ⟨x, hx, rfl⟩ := List.mem_map.mp hm
      exact Tray.unheld_of_free (Bool.eq_false_of_not_eq_true (List.any_eq_false.mp h x hx)) c
    have htrays : (rebuildTrays n s).loop.trays = List.replicate n .empty := (congrArg (·.loop.trays) hsame :)
    have hunheld : ∀ k, ((rebuildTrays n s).tray k).Unheld := tray_unheld_of_replicate htrays
    have hcommitted : ∀ c, ((rebuildTrays n s).chute c).committed = 0 := fun c => by
      have hchute : (rebuildTrays n s).chute c = s.chute c := (congrArg (State.chute · c) hsame :)
      rw [hchute, hs.chute c]
      exact hnone c
    exact committedLaw_of_none hunheld hcommitted

theorem configureLoop_balances (p : Payload) : Answer.Balances s (configureLoop p s) := by
  have hset : ∀ (u : State) (cfg : LoopConfig),
      u.Balances (settleHolds s (judgeLoopHold { u with loop := { u.loop with cfg := cfg } })) := fun u cfg =>
    .trans (t := { u with loop := { u.loop with cfg := cfg } }) .quiet
      ((judgeLoopHold_balances _).trans (settleHolds_balances ..))
  unfold configureLoop
  dsimp only
  split
  · exact Answer.balances_error
  · split
    · exact Answer.balances_error
    · split
      · exact Answer.balances_error
      · next hocc =>
        split
        · exact Answer.balances_error
        · refine Answer.balances_ok
            (.trans (ite_balances (fun hT => rebuildTrays_balances ?_) fun _ => .refl s) (hset ..))
          exact Bool.eq_false_of_not_eq_true fun h => hocc ⟨hT, h⟩

theorem startLoop_balances : Answer.Balances s (startLoop s) := by
  unfold startLoop
  split
  · exact Answer.balances_ok (.trans .quiet (settleHolds_balances ..))
  · exact Answer.balances_error

theorem stopLoop_balances : Answer.Balances s (stopLoop s) := by
  unfold stopLoop
  split
  · exact Answer.balances_ok (.refl s)
  · exact Answer.balances_ok (.trans (.trans (cancelAll_balances ..) .quiet) (settleHolds_balances ..))

/-- R25, R135: RESET LOOP leaves every tray EMPTY and no units committed. -/
theorem resetLoop_balances : Answer.Balances s (resetLoop s) := by
  unfold resetLoop
  split
  · have hcleared : (resetMotion s).committedLaw := by
      rw [resetMotion_eq]
      refine committedLaw_of_none (tray_unheld_of_replicate (n := s.T) rfl) fun c => ?_
      have hchute : s.motionCleared.chute c = (s.chute c).loopReset := Vector.get_map s.chutes _ c
      exact congrArg Chute.committed hchute
    exact Answer.balances_ok (.trans ⟨fun _ => hcleared⟩ (settleHolds_balances ..))
  · exact Answer.balances_error

/-- R28: a GRANTED tray given up becomes EMPTY; the rest is the induction's. -/
theorem applyInduction_balances (i : IndId) (offset n w : Nat) (enabled : Bool) (s : State) :
    s.Balances (applyInduction i offset n w enabled s) := by
  have hended : s.Balances (endGranted i s) := by
    unfold endGranted
    split
    · exact (freeReserved_balances ..).trans (modInd_balances ..)
    all_goals exact .refl s
  have hset := (ite_balances (p := offset ≠ (s.ind i).offset) (fun _ => hended) fun _ => .refl s).trans
    (modInd_balances i (fun x => { x with
      offset := offset, n := n, w := w, enabled := enabled
      resendCount := if n ≠ (s.ind i).n then 0 else x.resendCount }) _)
  unfold applyInduction
  dsimp only
  refine .trans ?_ (settleHolds_balances ..)
  exact ite_balances (fun _ => hset.trans (modInd_balances ..)) fun _ => hset

theorem configureInduction_balances (p : Payload) : Answer.Balances s (configureInduction p s) := by
  unfold configureInduction
  dsimp only
  repeat' split
  any_goals exact Answer.balances_error
  exact Answer.balances_ok (applyInduction_balances ..)

theorem inductionResume_balances (p : Payload) : Answer.Balances s (inductionResume p s) := by
  unfold inductionResume
  repeat' split
  any_goals exact Answer.balances_error
  exact Answer.balances_ok ((modInd_balances ..).trans (settleHolds_balances ..))

/-! ### Tag windows and the manifest (chapter 3) -/

theorem setWindow_balances (p : Payload) : Answer.Balances s (setWindow p s) := by
  unfold setWindow
  dsimp only
  repeat' split
  any_goals exact Answer.balances_error
  exact Answer.balances_ok .quiet

theorem clearWindow_balances (p : Payload) : Answer.Balances s (clearWindow p s) := by
  unfold clearWindow
  dsimp only
  repeat' split
  any_goals exact Answer.balances_error
  exact Answer.balances_ok .quiet

theorem addBag_balances (sl : Slot) (p : Payload) : Answer.Balances s (addBag sl p s) := by
  have hmatch : ∀ (tag : Tag) (u : State), u.Balances (matchStray sl tag u) := fun tag u => by
    unfold matchStray
    split
    · exact .quiet
    · exact .refl u
  unfold addBag
  dsimp only
  repeat' split
  any_goals exact Answer.balances_error
  refine Answer.balances_ok (.trans (.trans (.trans ?_ (raiseIf_balances ..)) (hmatch ..)) (wakeWhere_balances ..))
  exact .trans .quiet (judgeQuota_balances ..)

/-- R65: the bag withdrawn is a stray, its selection given up before it is selected anew. -/
theorem withdrawBag_balances (sl : Slot) (p : Payload) : Answer.Balances s (withdrawBag sl p s) := by
  have hloop : ∀ tag, s.Balances (withdrawOnLoop tag s) := fun tag => by
    unfold withdrawOnLoop
    split
    · split
      · exact ((makeStray_balances ..).trans (cancelSelection_balances ..)).trans (passToSelection_balances ..)
      · exact .refl s
    · exact .refl s
  unfold withdrawBag
  split
  · split
    · exact Answer.balances_ok (.trans (ite_balances (fun _ => hloop _) fun _ => .refl s)
        (.trans .quiet (judgeQuota_balances ..)))
    · exact Answer.balances_error
  · exact Answer.balances_error

theorem applyCabin_balances (sl : Slot) (e : BagEntry) (cabin : Nat) (s : State) :
    s.Balances (applyCabin sl e cabin s) := by
  have hloop : ∀ (tag : Tag) (u : State), u.Balances (changeOnLoop tag u) := fun tag u => by
    unfold changeOnLoop
    split
    · split
      case h_1 | h_2 => exact (cancelSelection_balances ..).trans (passToSelection_balances ..)
      all_goals exact .quiet
    · exact .refl u
  unfold applyCabin
  refine State.Balances.trans (t := modEntry e.tag (fun e => { e with cabin := cabin }) s) .quiet ?_
  dsimp only
  split
  case h_1 | h_2 | h_3 => exact wakeWhere_balances ..
  case h_4 => exact hloop ..
  case h_5 => exact raise_balances ..

theorem changeCabin_balances (sl : Slot) (p : Payload) : Answer.Balances s (changeCabin sl p s) := by
  unfold changeCabin
  dsimp only
  repeat' split
  any_goals exact Answer.balances_error
  · exact Answer.balances_ok (.refl s)
  · exact Answer.balances_ok (applyCabin_balances ..)

theorem changeMap_balances (sl : Slot) (n : Fin 96) (r : CabinRange) (s : State) :
    s.Balances (changeMap sl n r s) := .trans .quiet (wakeWhere_balances ..)

theorem setCabinRange_balances (sl : Slot) (p : Payload) : Answer.Balances s (setCabinRange sl p s) := by
  unfold setCabinRange
  dsimp only
  repeat' split
  any_goals exact Answer.balances_error
  · exact Answer.balances_ok (.refl s)
  · exact Answer.balances_ok (changeMap_balances ..)

theorem clearCabinRange_balances (sl : Slot) (p : Payload) : Answer.Balances s (clearCabinRange sl p s) := by
  unfold clearCabinRange
  dsimp only
  repeat' split
  · exact Answer.balances_ok (changeMap_balances ..)
  · exact Answer.balances_ok (.refl s)
  · exact Answer.balances_error

/-! ### The slots (chapter 4) -/

theorem berth_balances (p : Payload) : Answer.Balances s (berth p s) := by
  unfold berth
  dsimp only
  repeat' split
  any_goals exact Answer.balances_error
  exact Answer.balances_ok (.trans .quiet (judgeQuota_balances ..))

theorem manifestFinal_balances (sl : Slot) : Answer.Balances s (manifestFinal sl s) := by
  unfold manifestFinal
  split
  any_goals exact Answer.balances_error
  all_goals exact Answer.balances_ok .quiet

theorem manifestReopen_balances (sl : Slot) : Answer.Balances s (manifestReopen sl s) := by
  unfold manifestReopen
  split
  any_goals exact Answer.balances_error
  all_goals exact Answer.balances_ok .quiet

theorem setQuota_balances (p : Payload) : Answer.Balances s (setQuota p s) := by
  unfold setQuota
  dsimp only
  repeat' split
  any_goals exact Answer.balances_error
  exact Answer.balances_ok (.trans .quiet (judgeQuota_balances ..))

theorem cutOff_balances (l : LinkId) (p : Payload) : Answer.Balances s (cutOff l p s) := by
  have hdrain : ∀ sl, s.Balances (beginDrain sl s) := fun sl =>
    .trans (.trans .quiet (wakeWhere_balances ..)) (balances_of_sansSlots (reportCount_frame ..))
  unfold cutOff
  split
  · split
    case h_1 | h_2 | h_3 => exact Answer.balances_error
    all_goals exact Answer.balances_ok (hdrain _)
  · exact Answer.balances_error

/-- R88: a chute released keeps its committed units. -/
theorem Chute.unberth_committed (sl : Slot) (x : Chute) : (x.unberth sl).committed = x.committed := by
  unfold Chute.unberth
  repeat' split
  all_goals rfl

theorem unberth_balances (p : Payload) : Answer.Balances s (unberth p s) := by
  have hreleased : ∀ (sl : Slot) (u : State), u.Balances (releaseChutes sl u) := fun sl u => by
    rw [releaseChutes_def]
    refine .trans (.of_committed ?_ fun c => ?_) (foldl_balances (fun v c => judgeStandby_balances c v) _ _)
    · rw [chutesFreed_eq]
      rfl
    · rw [chutesFreed_chute]
      exact Chute.unberth_committed ..
  unfold unberth
  repeat' split
  any_goals exact Answer.balances_error
  exact Answer.balances_ok (.trans .quiet (hreleased ..))

/-! ### The chutes (chapter 6) -/

theorem configureChute_balances (p : Payload) : Answer.Balances s (configureChute p s) := by
  have happlied : ∀ c cfg, s.Balances (applyChute c cfg s) := fun c cfg => by
    have hset : s.Balances (setChute c (((s.chute c).configured cfg s.clock.tick).judgeJam s.clock.tick) s) :=
      setChute_balances rfl
    exact .trans (.trans (hset.trans (raiseIf_balances ..)) (judgeStandby_balances ..)) (judgeStrayArmed_balances _)
  unfold configureChute
  dsimp only
  repeat' split
  any_goals exact Answer.balances_error
  exact Answer.balances_ok (happlied ..)

theorem assignChute_balances (p : Payload) : Answer.Balances s (assignChute p s) := by
  unfold assignChute
  repeat' split
  any_goals exact Answer.balances_error
  exact Answer.balances_ok modChute_balances

theorem releaseChute_balances (p : Payload) : Answer.Balances s (releaseChute p s) := by
  have hdropped : ∀ c, s.Balances (dropGroup c s) := fun c =>
    ite_balances (fun _ => .trans modChute_balances (judgeStandby_balances ..)) fun _ => modChute_balances
  unfold releaseChute
  dsimp only
  repeat' split
  any_goals exact Answer.balances_error
  exact Answer.balances_ok (hdropped _)

theorem swapBegin_balances (p : Payload) : Answer.Balances s (swapBegin p s) := by
  unfold swapBegin
  repeat' split
  any_goals exact Answer.balances_error
  exact Answer.balances_ok (.trans modChute_balances
    ((foldl_balances (fun u t => cancelSelection_balances t u) _ _).trans
      (foldl_balances (fun u t => passToSelection_balances t u) _ _)))

theorem judgeBlocked_balances (s : State) : s.Balances (judgeBlocked s) := .quiet

/-- R126: a chute emptied keeps its committed units. -/
theorem Chute.leaveSwap_committed (x : Chute) : x.leaveSwap.committed = x.committed := by
  unfold Chute.leaveSwap
  repeat' split
  all_goals rfl

theorem swapEnd_balances (p : Payload) : Answer.Balances s (swapEnd p s) := by
  have hended : ∀ c, s.Balances (endSwap c s) := fun c => by
    have hset : s.Balances (modChute c (·.swapped s.clock.tick) s) :=
      modChute_balances (Chute.leaveSwap_committed _)
    exact .trans (.trans (hset.trans (judgeStandby_balances ..)) (judgeBlocked_balances _))
      (judgeStrayArmed_balances _)
  unfold swapEnd
  repeat' split
  any_goals exact Answer.balances_error
  exact Answer.balances_ok (hended _)

theorem setBlockedInterval_balances (p : Payload) : Answer.Balances s (setBlockedInterval p s) := by
  unfold setBlockedInterval
  dsimp only
  split
  · exact Answer.balances_ok .quiet
  · exact Answer.balances_error

/-! ### The strays and the notices (chapters 8 and 9) -/

theorem resolveTag_balances (id : BitVec 16) (tag : Tag) (cabin : Nat) :
    Answer.Balances s (resolveTag id tag cabin s) := by
  have hentry : ∀ {sl : Slot} {t : State}, resolveEntry tag sl cabin id s = .ok t → s.Balances t :=
    fun {sl t} ht => by
      unfold resolveEntry at ht
      split at ht
      · split at ht
        · cases ht
        · exact Except.ok.inj ht ▸ .trans .quiet (judgeQuota_balances ..)
      · split at ht
        · cases ht
        all_goals exact Except.ok.inj ht ▸ .quiet
  unfold resolveTag
  repeat' split
  any_goals exact Answer.balances_error
  next ht => exact Answer.balances_ok ((hentry ht).trans .quiet)

theorem resolveStray_balances (p : Payload) : Answer.Balances s (resolveStray p s) := by
  unfold resolveStray
  dsimp only
  repeat' split
  any_goals exact Answer.balances_error
  exact resolveTag_balances _ _ _

theorem discardStray_balances (p : Payload) : Answer.Balances s (discardStray p s) := by
  unfold discardStray
  dsimp only
  repeat' split
  any_goals exact Answer.balances_error
  exact Answer.balances_ok (removeStray_balances ..)

/-! ### Every request -/

theorem onOwnSlot_balances {l : LinkId} {f : Slot → State → Answer} (hf : ∀ sl, Answer.Balances s (f sl s)) :
    Answer.Balances s (onOwnSlot l f s) := by
  unfold onOwnSlot
  split
  · exact hf _
  · exact Answer.balances_error

/-- The rule of every owning block keeps the committed law. The reads and the notice requests leave the loop and the
chutes. -/
theorem own_balances (k : Command) (l : LinkId) (p : Payload) (s : State) :
    Answer.Balances s (Command.own k l p s) := by
  cases k with
  | configureLoop => exact configureLoop_balances p
  | startLoop => exact startLoop_balances
  | stopLoop => exact stopLoop_balances
  | resetLoop => exact resetLoop_balances
  | configureInduction => exact configureInduction_balances p
  | inductionResume => exact inductionResume_balances p
  | setWindow => exact setWindow_balances p
  | clearWindow => exact clearWindow_balances p
  | addBag => exact onOwnSlot_balances fun sl => addBag_balances sl p
  | withdrawBag => exact onOwnSlot_balances fun sl => withdrawBag_balances sl p
  | changeCabin => exact onOwnSlot_balances fun sl => changeCabin_balances sl p
  | setCabinRange => exact onOwnSlot_balances fun sl => setCabinRange_balances sl p
  | clearCabinRange => exact onOwnSlot_balances fun sl => clearCabinRange_balances sl p
  | berth => exact berth_balances p
  | manifestFinal => exact onOwnSlot_balances manifestFinal_balances
  | manifestReopen => exact onOwnSlot_balances manifestReopen_balances
  | setQuota => exact setQuota_balances p
  | cutOff => exact cutOff_balances l p
  | unberth => exact unberth_balances p
  | configureChute => exact configureChute_balances p
  | assignChute => exact assignChute_balances p
  | releaseChute => exact releaseChute_balances p
  | swapBegin => exact swapBegin_balances p
  | swapEnd => exact swapEnd_balances p
  | setBlockedInterval => exact setBlockedInterval_balances p
  | resolveStray => exact resolveStray_balances p
  | discardStray => exact discardStray_balances p
  | fetchNotice | setNoticeEnables | readResetCause | clearResetCause => exact Answer.balances_ok .quiet
  | ackGroup | clearNotice | setClearMode | readTray | readInduction | readWindow | readBag | readCabinRange
    | shipStatus | readChute | readStrayList | readStray =>
    simp only [Command.own, ackGroup, clearNotice, setClearMode, readTray, readInduction, readWindow, readBag,
      readCabinRange, shipStatus, readChute, readStrayList, readStray]
    repeat' split
    any_goals exact Answer.balances_error
    all_goals exact Answer.balances_ok .quiet

theorem deliver_balances (x : Port) (l : LinkId) (frame response : List Byte) (s : State) :
    s.Balances (deliver x l frame response s) := ite_balances (fun _ => .quiet) fun _ => .quiet

theorem takeRequest_balances (k : Command) (l : LinkId) (p : Payload) (s : State) :
    s.Balances (takeRequest k l p (Command.own k l p) s) := by
  unfold takeRequest
  dsimp only
  split
  · split
    · exact deliver_balances ..
    · next t reply ha =>
      refine .trans ?_ (deliver_balances ..)
      unfold State.answerTo at ha
      split at ha
      · cases ha
      · exact own_balances k l p s t reply ha
  · exact .refl s

/-! ### The induction lines -/

theorem completeFrame_balances {i : IndId} {k : FrameKind} {data : List Byte} {take : State → State} (s : State)
    (htake : ∀ u : State, u.Balances (take u)) : s.Balances (completeFrame i k data take s) :=
  ite_balances (fun _ => (modInd_balances ..).trans (htake _)) fun _ => .refl s

theorem takeRead_balances (i : IndId) (rec : ReadRecord) (s : State) : s.Balances (takeRead i rec s) := by
  obtain ⟨_, _, _, e⟩ := takeRead_lineOnly i rec s
  rw [e, queueRead_eq]
  exact .quiet

theorem receiveMark_balances (i : IndId) (k : FrameKind) (s : State) : s.Balances (receiveMark i k s) := by
  unfold receiveMark
  split <;> exact .quiet

theorem receiveFault_balances (i : IndId) (bad : CharFault) (s : State) : s.Balances (receiveFault i bad s) := by
  unfold receiveFault
  split
  · exact receiveMark_balances ..
  · split <;> exact .quiet
  · split <;> exact .quiet

theorem receiveBadData_balances (i : IndId) (field : DataField) (value : Byte) (s : State) :
    s.Balances (receiveBadData i field value s) := by
  unfold receiveBadData
  split
  · split <;> exact .quiet
  all_goals exact .quiet

theorem takeFrame_balances (i : IndId) (k : FrameKind) (data : List Byte) (s : State) :
    s.Balances (takeFrame i k data s) := by
  have hsized : ∀ reading size, s.Balances (takeSized i reading size s) := fun reading size => by
    unfold takeSized
    split
    · exact takeRead_balances ..
    · exact .refl s
  cases k with
  | bag | multi | noread => exact hsized ..
  | done => exact takeAnswer_balances i .done _ s
  | fail => exact takeAnswer_balances i .fail _ s

theorem receiveData_balances (i : IndId) (v : Byte) (s : State) : s.Balances (receiveData i v s) := by
  unfold receiveData
  split
  · exact ite_balances (fun _ => .quiet) fun _ =>
      ite_balances (fun _ => .trans .quiet (takeFrame_balances ..)) fun _ => .quiet
  all_goals exact .refl s

theorem whenEnabled_balances {i : IndId} {f : State → State} (hf : s.Balances (f s)) :
    s.Balances (whenEnabled i f s) := ite_balances (fun _ => hf) fun _ => .refl s

theorem receiveChar_balances (i : IndId) (c : LineChar) (s : State) : s.Balances (receiveChar i c s) := by
  refine whenEnabled_balances (ite_balances (fun _ => receiveFault_balances ..) fun _ =>
    ite_balances (fun _ => ?_) fun _ => receiveData_balances ..)
  split
  · exact receiveMark_balances ..
  · exact receiveFault_balances ..

theorem receiveChars_balances (s : State) : s.Balances (receiveChars s) := by
  refine .trans (t := drawOrder s) .quiet (foldl_balances (fun u i => ?_) _ _)
  unfold nextChar
  split
  · exact .trans .quiet (receiveChar_balances ..)
  · exact .refl u

/-! ### Every command -/

/-- R136, R152: both resets leave every tray EMPTY and no units committed. -/
theorem resetBlocks_committedLaw (cause : ResetCause) (low : Bool) (s : State) :
    (resetBlocks cause low s).committedLaw :=
  committedLaw_of_none (tray_unheld_of_replicate (n := 256) rfl) fun c => by
    rw [resetBlocks_chute]
    rfl

theorem endPulse_balances (c : ChuteId) (s : State) :
    s.Balances (putChute c { s.chute c with pulseEnd := none } s) := putChute_balances rfl

theorem startOcclusion_balances (c : ChuteId) (s : State) : s.Balances (startOcclusion c s) :=
  putChute_balances rfl

theorem setJam_balances (c : ChuteId) (s : State) : s.Balances (setJam c s) :=
  .trans modChute_balances (raise_balances ..)

theorem clearEye_balances (c : ChuteId) (s : State) : s.Balances (clearEye c s) :=
  .trans modChute_balances ((judgeBlocked_balances _).trans
    ((judgeStrayArmed_balances _).trans (judgeStandby_balances ..)))

theorem exec_balances (c : Instr) (s : State) : Out.Balances s (exec c s) := by
  cases c with
  | powerOnReset | pinReset => exact Out.balances_next ⟨fun _ => resetBlocks_committedLaw _ _ s⟩
  | pitchEvent home check =>
    exact Out.balances_next (.trans .quiet (pitchEvent_balances _ home check (drawOrder s)))
  | reservationRequest i => exact Out.balances_next (requestReservation_balances ..)
  | launchWindowExpiry i => exact Out.balances_next (expireWindows_balances ..)
  | stallTimeout =>
    exact Out.balances_next (ite_balances
      (fun _ => .trans (.trans (cancelAll_balances ..) .quiet) (settleHolds_balances ..)) fun _ => .refl s)
  | fire => exact Out.balances_next (fireHead_balances s)
  | tiltPulseEnd c =>
    refine Out.balances_next ?_
    split
    · exact ite_balances (fun _ => endPulse_balances c s) fun _ => .refl s
    · exact .refl s
  | confirmWindowEnd c =>
    refine Out.balances_next ?_
    split
    · exact (setWindows_balances ..).trans (closeUnconfirmed_balances ..)
    · exact .refl s
  | chuteEyeDetection c =>
    exact Out.balances_next (ite_balances (fun _ => .refl s) fun _ =>
      ((startOcclusion_balances c s).trans (confirmOldest_balances ..)).trans (settleHolds_balances ..))
  | chuteJam c => exact Out.balances_next (ite_balances (fun _ => setJam_balances c s) fun _ => .refl s)
  | chuteEyeClear c => exact Out.balances_next (ite_balances (fun _ => clearEye_balances c s) fun _ => .refl s)
  | hallClockSecond => exact Out.balances_next (ite_balances (fun _ => .quiet) fun _ => .refl s)
  | bagFrame i | multiFrame i | noreadFrame i =>
    exact Out.balances_next (completeFrame_balances s (takeRead_balances i _))
  | holdResend i => exact Out.balances_next (balances_of_sansInds (resendHold_frame ..))
  | doneFrame i | failFrame i | lateAnswer i =>
    exact Out.balances_next (completeFrame_balances s (takeAnswer_balances i _ _))
  | inductionCharacterFault i bad => exact Out.balances_next (whenEnabled_balances (receiveFault_balances i bad s))
  | badDataCharacter i field value =>
    exact Out.balances_next (whenEnabled_balances (receiveBadData_balances i field value s))
  | inductionSilenceTimeout i => exact Out.balances_next (by split <;> exact .quiet)
  | transmitFrameSent i => exact Out.balances_next (by split <;> exact .quiet)
  | inductionFrameOpened i kind => exact Out.balances_next (whenEnabled_balances (receiveMark_balances i kind s))
  | linkSelectAsserted l =>
    exact Out.balances_next (ite_balances (fun _ => .refl s) fun _ =>
      ite_balances (fun _ => .quiet) fun _ => .quiet)
  | linkSelectReleased l | linkSelectReleasedEarly l =>
    exact Out.balances_next (ite_balances (fun _ => .quiet) fun _ => .refl s)
  | linkResponseSent l => exact Out.balances_next (by split <;> exact .quiet)
  | resetNReleased => exact Out.balances_next .quiet
  | badCommand l code p => exact Out.balances_next (ite_balances (fun _ => deliver_balances ..) fun _ => .refl s)
  | configureLoop l p | startLoop l p | stopLoop l p | resetLoop l p | readTray l p | configureInduction l p
    | inductionResume l p | readInduction l p | setWindow l p | clearWindow l p | readWindow l p | addBag l p
    | withdrawBag l p | changeCabin l p | readBag l p | setCabinRange l p | clearCabinRange l p
    | readCabinRange l p | berth l p | manifestFinal l p | manifestReopen l p | setQuota l p | cutOff l p
    | unberth l p | shipStatus l p | configureChute l p | assignChute l p | releaseChute l p | swapBegin l p
    | swapEnd l p | setBlockedInterval l p | readChute l p | resolveStray l p | discardStray l p
    | readStrayList l p | readStray l p | fetchNotice l p | ackGroup l p | clearNotice l p
    | setNoticeEnables l p | setClearMode l p | readResetCause l p | clearResetCause l p =>
    exact Out.balances_next (takeRequest_balances _ l p s)

theorem idle_balances (s : State) : s.Balances (idle s) := by
  unfold idle
  split
  · exact .refl s
  · split
    · exact .quiet
    · refine ite_balances (fun _ => ?_) fun _ => ite_balances (fun _ => .quiet) fun _ => receiveChars_balances s
      rw [clockBytes_frame]
      exact .quiet

/-- Settles O13. -/
theorem everyStepKeepsCommittedUnits : Obligations.everyStepKeepsCommittedUnits := by
  intro s t h ht
  unfold step at ht
  split at ht
  · exact (Out.balances_next (idle_balances s) t ht).law h
  · next c r _ => exact (State.Balances.trans (t := { s with pending := r }) .quiet (exec_balances c _ t ht)).law h

end Sys2Proof.Machine
end

section
/-! SUPPORT. Chute records rewritten: what is judged with them, and what a standby judged after them leaves (R115,
R124, R131, R132). -/

namespace Sys2Proof.Machine

variable {s u v : State} {c : ChuteId} {x : Chute}

/-! ### The scope of a chute's notices -/

/-- R115: a chute that serves a group it has not released raises its notices on the slot's link. -/
theorem Chute.scope_of_group {g : Group} (hg : x.group = some g) (hrel : x.released = false)
    (hrole : x.cfg.role ≠ .stray) : x.scope = .slot g.slot := by
  simp [Chute.scope, hg, hrel, hrole]

theorem flagged_raiseIf {b : Bool} (hb : b = true) (n : Notice) {sc : Scope} {l : LinkId} (h : sc.names l = true)
    (s : State) : (raiseIf b n sc s).flagged l n = true := by
  subst hb
  exact flagged_raise n h s

theorem raiseIf_eq (b : Bool) (n : Notice) (sc : Scope) (s : State) :
    raiseIf b n sc s = { s with notices := (raiseIf b n sc s).notices } := by
  unfold raiseIf
  split <;> rfl

theorem raiseIf_of_not {b : Bool} (h : b = false) (n : Notice) (sc : Scope) (s : State) : raiseIf b n sc s = s := by
  subst h
  rfl

/-! ### A record rewritten -/

theorem someEligible_iff {dest : Dest} {n : Nat} :
    s.someEligible dest n = true ↔ ∃ c, (s.chute c).eligible dest n = true := by
  simp only [State.someEligible, List.any_eq_true, Vector.mem_toList_iff, State.chute, Vector.get_eq_getElem]
  constructor
  · rintro ⟨x, hx, he⟩
    obtain ⟨i, hi, rfl⟩ := Vector.mem_iff_getElem.mp hx
    exact ⟨⟨i, hi⟩, he⟩
  · rintro ⟨c, he⟩
    exact ⟨_, Vector.getElem_mem c.isLt, he⟩

theorem someEligible_congr (h : u.chutes = s.chutes) (dest : Dest) (n : Nat) :
    u.someEligible dest n = s.someEligible dest n := by rw [State.someEligible, h]; rfl

theorem setChute_eq (c : ChuteId) (x : Chute) (s : State) : setChute c x s = { s with
    chutes := s.chutes.set c x, blocked := (setChute c x s).blocked, strayArmed := (setChute c x s).strayArmed } := by
  unfold setChute judgeStrayArmed
  dsimp only
  repeat' split
  all_goals rfl

/-- R131: a field of R131 changed on a chute that is not STRAY has the blocked records judged, and no more. -/
theorem setChute_of_judged (h : x.judgedFields ≠ (s.chute c).judgedFields) (hrole : x.cfg.role ≠ .stray) :
    setChute c x s = judgeBlocked (putChute c x s) := by
  unfold setChute
  dsimp only
  rw [if_neg h, if_neg hrole]

/-- R131: no group with a chute eligible for a bag of one unit keeps its record. -/
theorem judgeBlocked_all {g : Group} (h : (s.chute c).eligible (.group g) 1 = true) :
    (judgeBlocked s).blocked.all (fun r => r.group ≠ g) = true := by
  refine List.all_eq_true.mpr fun r hr => decide_eq_true fun hg => ?_
  have hkept := (List.mem_filter.mp hr).2
  rw [hg, someEligible_iff.mpr ⟨c, h⟩] at hkept
  cases hkept

/-- R132: a record rewritten arms STRAY_CHUTES_FULL only with a STRAY chute, and then some such chute is eligible. -/
theorem setChute_strayArmed (c : ChuteId) (x : Chute) (s : State) :
    (setChute c x s).strayArmed = s.strayArmed ∨
      x.cfg.role = .stray ∧ (setChute c x s).someEligible .stray 1 = true := by
  unfold setChute judgeStrayArmed
  dsimp only
  split
  · exact .inl rfl
  · split
    · next hrole =>
      split
      · next h => exact .inr ⟨hrole, h⟩
      · exact .inl rfl
    · exact .inl rfl

/-- R132: no standby arms STRAY_CHUTES_FULL by its takeover. -/
theorem judgeStandby_strayArmed (c : ChuteId) (s : State) : (judgeStandby c s).strayArmed = s.strayArmed := by
  unfold judgeStandby
  split
  · next hcan =>
    split
    · next k _ =>
      refine (setChute_strayArmed c ((s.chute c).takesOver k (s.chute k).group) s).resolve_right fun h => ?_
      have hrole : (s.chute c).cfg.role = .standby := by
        simp only [Chute.canTakeOver, Bool.and_eq_true, decide_eq_true_iff] at hcan
        exact hcan.1.1.1
      exact absurd (hrole.symm.trans h.1) (by decide)
    · rfl
  · rfl

theorem judgeStrayArmed_strayArmed (s : State) :
    (judgeStrayArmed s).strayArmed = (s.strayArmed || s.someEligible .stray 1) := by
  unfold judgeStrayArmed
  split
  · next h => rw [h, Bool.or_true]
  · next h => rw [Bool.eq_false_of_not_eq_true h, Bool.or_false]

theorem judgeStrayArmed_chutes (s : State) : (judgeStrayArmed s).chutes = s.chutes := by
  rw [judgeStrayArmed_eq]

/-! ### A chute left to a judgement for takeover (R124) -/

theorem judgeStandby_of_unfit (h : (s.chute c).cfg.role ≠ .standby ∨ (s.chute c).state ≠ .standbyIdle) :
    judgeStandby c s = s := by
  refine judgeStandby_of_not ?_
  rcases h with h | h <;> simp [Chute.canTakeOver, h]

theorem State.standbyJudged.congr (h : s.standbyJudged c x) (chutes : u.chutes = s.chutes)
    (notices : u.notices = s.notices) : u.standbyJudged c x := by
  obtain ⟨htakes, hstands⟩ := h
  simp only [State.standbyJudged, State.fullGroup, State.chute, State.flagged, chutes, notices] at *
  exact ⟨htakes, hstands⟩

/-- `u` differs from `s` at chute `c` alone, whose record became `x` and was then judged for takeover if it was an
idle standby's. -/
structure State.LeavesChute (s u : State) (c : ChuteId) (x : Chute) : Prop where
  others : ∀ k, k ≠ c → u.chute k = s.chute k
  stands : x.cfg.role ≠ .standby ∨ x.state ≠ .standbyIdle → u.chute c = x
  judged : x.cfg.role = .standby → x.state = .standbyIdle → u.standbyJudged c x
  kept : ∃ g r o st, u.chute c = { x with group := g, released := r, tookOver := o, state := st }

theorem judgeStandby_leavesChute (hc : v.chute c = x) (hk : ∀ k, k ≠ c → v.chute k = s.chute k) :
    s.LeavesChute (judgeStandby c v) c x where
  others k h := (judgeStandby_chute_ne h v).trans (hk k h)
  stands h := by rw [judgeStandby_of_unfit (by rw [hc]; exact h), hc]
  judged hrole hst := hc ▸ judgeStandby_judged (by rw [hc]; exact hrole) (by rw [hc]; exact hst)
  kept := by
    unfold judgeStandby
    split
    · split
      · rw [takeOver_chute, if_pos rfl, hc]
        exact ⟨_, _, _, _, rfl⟩
      · exact ⟨x.group, x.released, x.tookOver, x.state, hc⟩
    · exact ⟨x.group, x.released, x.tookOver, x.state, hc⟩

theorem State.LeavesChute.congr (h : s.LeavesChute u c x) (chutes : v.chutes = u.chutes)
    (notices : v.notices = u.notices) : s.LeavesChute v c x := by
  have hchute : ∀ k, v.chute k = u.chute k := fun k => congrArg (Vector.get · k) chutes
  exact ⟨fun k hk => (hchute k).trans (h.others k hk), fun hx => (hchute c).trans (h.stands hx),
    fun hrole hst => (h.judged hrole hst).congr chutes notices, by rw [hchute]; exact h.kept⟩

theorem modChute_chute_self (c : ChuteId) (f : Chute → Chute) (s : State) :
    (modChute c f s).chute c = f (s.chute c) := by rw [modChute_chute, if_pos rfl]

theorem modChute_chute_ne {k : ChuteId} (h : k ≠ c) (f : Chute → Chute) (s : State) :
    (modChute c f s).chute k = s.chute k := by rw [modChute_chute, if_neg h]

end Sys2Proof.Machine
end

section
/-! PROOF. SET BLOCKED INTERVAL (O56), the chute eye (O37), ASSIGN CHUTE and RELEASE CHUTE (O54). -/

namespace Sys2Proof.Machine

-- Elaborated in turn, as the proof of O14 is, for the memory that the threads' stacks would take.
set_option Elab.async false

/-- Settles O56. -/
theorem setBlockedIntervalRestartsTheCounts : Obligations.setBlockedIntervalRestartsTheCounts := by
  intro l p s h
  constructor
  · intro h1 h4 h8 h16
    refine exec_refusedWith h (if_neg ?_)
    rintro (e | e | e | e)
    · exact h1 e
    · exact h4 e
    · exact h8 e
    · exact h16 e
  · exact fun hn => exec_answeredOk h (if_pos hn)

/-! ### The chute eye (R128) -/

theorem Chute.jamDue_of_lasted {x : Chute} {t0 tick : Nat} (ht : x.occludedFrom = some t0) (hjam : x.jam = false)
    (hlast : t0 + x.cfg.jamTime ≤ tick) : x.jamDue tick = true := by
  simp [Chute.jamDue, ht, hjam, hlast]

/-- R124, R128: what the eye's clearing leaves of the chutes. -/
theorem clearEye_leavesChute (c : ChuteId) (s : State) :
    s.LeavesChute (clearEye c s) c { s.chute c with eye := false, jam := false, occludedFrom := none } := by
  have hchutes : ∀ v : State, (judgeStrayArmed (judgeBlocked v)).chutes = v.chutes := fun v =>
    judgeStrayArmed_chutes (judgeBlocked v)
  refine judgeStandby_leavesChute ?_ fun k hk => ?_
  · rw [State.chute, hchutes]
    exact modChute_chute_self ..
  · rw [State.chute, hchutes]
    exact modChute_chute_ne hk ..

/-- Settles O37. -/
theorem jamFlagFollowsTheEye : Obligations.jamFlagFollowsTheEye := by
  intro c s
  constructor
  · intro t0 ht hjam hlast
    refine ⟨setJam c s, congrArg Host.Outcome.next (if_pos (Chute.jamDue_of_lasted ht hjam hlast)), ?_, ?_, ?_⟩
    · unfold setJam modChute
      rw [setChute_eq]
      rfl
    · exact flagged_raise _ (Scope.names_shore _) _
    · intro g hg hrel hrole
      refine flagged_raise _ ?_ _
      rw [Chute.scope_of_group hg hrel hrole]
      exact Scope.names_slotLink _
  · intro heye
    obtain ⟨hothers, hstands, hjudged, -⟩ := clearEye_leavesChute c s
    exact ⟨clearEye c s, congrArg Host.Outcome.next (if_pos heye), eq_of_sansChutes (clearEye_frame c s), hothers,
      hstands, hjudged⟩

/-! ### ASSIGN CHUTE and RELEASE CHUTE (R113, R114) -/

section Requests
variable {l : LinkId} {p : Payload} {s : State} {c : ChuteId}

theorem groupAt_of_fields {i : Nat} {sl : Slot} (hsl : slotOf (u8 p i) = some sl) (hd1 : 1 ≤ u8 p (i + 1))
    (hd : u8 p (i + 1) ≤ 20) (hz1 : 1 ≤ u8 p (i + 2)) (hz : u8 p (i + 2) ≤ 6) :
    groupAt p i = some ⟨sl, u8 p (i + 1), u8 p (i + 2)⟩ := by
  unfold groupAt
  rw [hsl]
  exact if_pos ⟨hd1, hd, hz1, hz⟩

theorem assignChute_refused {g : Group} (hc : u8 p 0 = c.val) (hg : groupAt p 1 = some g)
    (h : (s.chute c).cfg.role ≠ .sort ∨ (s.chute c).state ≠ .unassigned) : assignChute p s = .error .state := by
  unfold assignChute
  rw [hc, chuteOf_val, hg]
  exact if_pos h

theorem assignChute_accepted {g : Group} (hc : u8 p 0 = c.val) (hg : groupAt p 1 = some g)
    (hrole : (s.chute c).cfg.role = .sort) (hst : (s.chute c).state = .unassigned)
    (hslot : (s.slot g.slot).state = .loading ∨ (s.slot g.slot).state = .final) :
    assignChute p s =
      .ok (modChute c (fun x => { x with group := some g, released := false, state := .isOpen }) s, .ok) := by
  unfold assignChute
  rw [hc, chuteOf_val, hg]
  dsimp only
  rw [if_neg (by simp [hrole, hst]), if_neg (not_and_or.mpr (hslot.imp not_not.mpr not_not.mpr))]

theorem releaseChute_refused (hc : u8 p 0 = c.val)
    (h : (s.chute c).group = none ∨ (s.chute c).released = true ∨ (s.chute c).filling = false) :
    releaseChute p s = .error .state := by
  unfold releaseChute
  rw [hc, chuteOf_val]
  exact if_pos (h.imp_left Option.isNone_iff_eq_none.mpr)

/-- R114: RELEASE CHUTE of an OPEN chute with a group, by its fill and committed units. -/
theorem releaseChute_open (hc : u8 p 0 = c.val) (hg : (s.chute c).group.isSome = true)
    (hrel : (s.chute c).released = false) (hst : (s.chute c).state = .isOpen) :
    releaseChute p s = if 0 < (s.chute c).fill ∨ 0 < (s.chute c).committed then .error .chuteInUse
      else .ok (dropGroup c s, .ok) := by
  have hserves : ¬ ((s.chute c).group.isNone ∨ (s.chute c).released ∨ (s.chute c).filling = false) := by
    simp [Chute.filling, Option.isSome_iff_ne_none.mp hg, hrel, hst]
  unfold releaseChute
  rw [hc, chuteOf_val]
  dsimp only
  rw [if_neg hserves]
  simp only [hst, ne_eq, not_true_eq_false, or_false]

theorem dropGroup_frame (c : ChuteId) (s : State) : (dropGroup c s).sansChutes = s.sansChutes := by
  unfold dropGroup
  split
  · rw [judgeStandby_frame, modChute_frame]
  · rw [modChute_frame]

theorem dropGroup_chute_ne {k : ChuteId} (h : k ≠ c) (s : State) : (dropGroup c s).chute k = s.chute k := by
  unfold dropGroup
  split
  · rw [judgeStandby_chute_ne h, modChute_chute_ne h]
  · rw [modChute_chute_ne h]

/-- R124: a standby that drops its group is judged. -/
theorem dropGroup_judged (h : (s.chute c).cfg.role = .standby) : (dropGroup c s).standbyJudged c
    { s.chute c with group := none, tookOver := none, state := .standbyIdle } := by
  unfold dropGroup
  rw [if_pos h]
  exact (judgeStandby_leavesChute (modChute_chute_self ..) fun _ hk => modChute_chute_ne hk ..).judged h rfl

end Requests

/-- Settles O54. -/
theorem assignAndReleaseChutes : Obligations.assignAndReleaseChutes := by
  intro l p s c hc
  refine ⟨fun h sl hsl hd1 hd hz1 hz => ?_, fun h => ⟨fun hno => ?_, fun hg hrel hst => ⟨fun huse => ?_, ?_⟩⟩⟩
  · have hgroup := groupAt_of_fields hsl hd1 hd hz1 hz
    refine ⟨fun hno => exec_refusedWith h (assignChute_refused hc hgroup hno), fun hrole hst hslot => ?_⟩
    have hassigned : ∀ g : Group,
        modChute c (fun x => { x with group := some g, released := false, state := .isOpen }) s =
          judgeBlocked (putChute c { s.chute c with group := some g, released := false, state := .isOpen } s) :=
      fun g => setChute_of_judged (by simp [Chute.judgedFields, hst]) (by simp [hrole])
    refine ⟨_, exec_answeredOk h (assignChute_accepted hc hgroup hrole hst hslot), ?_, fun heligible => ?_⟩
    · rw [hassigned]
      rfl
    · rw [hassigned] at heligible ⊢
      exact judgeBlocked_all heligible
  · exact exec_refusedWith h (releaseChute_refused hc hno)
  · exact exec_refusedWith h ((releaseChute_open hc hg hrel hst).trans (if_pos huse))
  · intro hfill hcommitted
    have hidle : ¬ (0 < (s.chute c).fill ∨ 0 < (s.chute c).committed) := by omega
    refine ⟨dropGroup c s, exec_answeredOk h ((releaseChute_open hc hg hrel hst).trans (if_neg hidle)),
      eq_of_sansChutes (dropGroup_frame c s), fun k hk => dropGroup_chute_ne hk s, fun hrole => ?_, dropGroup_judged⟩
    unfold dropGroup
    rw [if_neg hrole, modChute_chute_self]

end Sys2Proof.Machine
end

section
/-! PROOF. CONFIGURE CHUTE (O53). -/

namespace Sys2Proof.Machine

-- Elaborated in turn, as the proof of O14 is, for the memory that the threads' stacks would take.
set_option Elab.async false

variable {p : Payload} {s : State} {c : ChuteId} {cfg : ChuteConfig} {tick : Nat} {x : Chute}

/-- R112, Table 6-1: the values of a request as they are stored. -/
theorem requestedChute_clamped (role : ChuteRole) (side : Side) (cover : List ChuteId) (p : Payload) :
    (requestedChute role side cover p).clamped =
      ⟨role, u16 p 2, side, min 5000 (u16 p 5), max 10 (min 2000 (u16 p 7)), max 500 (min 10000 (u16 p 9)),
        max 1000 (min 600000 (u32 p 11)), max 1 (u8 p 15), max 1 (min (max 1 (u8 p 15)) (u8 p 16)), cover⟩ := by
  have hcap : clampTo 1 255 (u8 p 15) = max 1 (u8 p 15) := by
    have := u8_lt p 15
    unfold clampTo
    omega
  simp only [ChuteConfig.clamped, requestedChute, hcap, ChuteConfig.mk.injEq, true_and, and_true]
  exact ⟨Nat.zero_max _, rfl, rfl, rfl, rfl⟩

/-- R111 check 3: a chute in use is not configured anew. -/
theorem chuteRefusal_of_filling (h : (s.chute c).filling = true) : s.chuteRefusal c cfg = some .chuteInUse := if_pos h

/-- R111 checks 3 to 6. -/
theorem chuteRefusal_eq_none (hfill : (s.chute c).filling = false)
    (hplace : s.placeTaken c cfg.offset cfg.side = false ∨ cfg.offset = 0)
    (hswap : (s.chute c).state = .swapping → (s.chute c).fill ≤ cfg.capacity ∧
      ((s.chute c).group = none ∨ (cfg.role = (s.chute c).cfg.role ∧ cfg.offset ≠ 0))) :
    s.chuteRefusal c cfg = none := by
  unfold State.chuteRefusal
  dsimp only
  rw [if_neg (by simp [hfill]), if_neg ?_, if_neg ?_, if_neg ?_]
  · rintro ⟨hoffset, htaken⟩
    rcases hplace with h | h
    · rw [h] at htaken
      cases htaken
    · exact hoffset h
  · rintro ⟨hst, hlt⟩
    exact absurd (hswap hst).1 (not_le.mpr hlt)
  · rintro ⟨hst, hgroup, hother⟩
    rcases (hswap hst).2 with h | ⟨hrole, hoffset⟩
    · rw [h] at hgroup
      cases hgroup
    · exact hother.elim (fun h => h hrole) hoffset

section Request
variable {role : ChuteRole} {side : Side} {cover : List ChuteId} (hc : u8 p 0 = c.val)
  (hrole : roleOf (u8 p 1) = some role) (hside : sideOf (u8 p 4) = some side) (hT : u16 p 2 < s.T)
  (hcover : s.coverOf c role p = some cover)
include hc hrole hside hT hcover

theorem configureChute_refused {r : Reason}
    (h : s.chuteRefusal c (requestedChute role side cover p).clamped = some r) : configureChute p s = .error r := by
  simp only [configureChute, hc, chuteOf_val, hrole, hside, if_neg (not_le.mpr hT), hcover, h]

theorem configureChute_accepted (h : s.chuteRefusal c (requestedChute role side cover p).clamped = none) :
    configureChute p s = .ok (applyChute c (requestedChute role side cover p).clamped s,
      { accepted := false
        clamped := (requestedChute role side cover p).clamped ≠ requestedChute role side cover p, payload := [] }) := by
  simp only [configureChute, hc, chuteOf_val, hrole, hside, if_neg (not_le.mpr hT), hcover, h]

end Request

/-! ### The record an accepted request leaves (R112) -/

/-- The record of a chute configured and judged for its new jam time. -/
def Chute.configuredJudged (cfg : ChuteConfig) (tick : Nat) (x : Chute) : Chute := (x.configured cfg tick).judgeJam tick

theorem Chute.configuredJudged_swapping (h : x.state = .swapping) :
    (x.configuredJudged cfg tick).state = .swapping := by
  simp only [configuredJudged, judgeJam, configured, if_pos h]

theorem Chute.configuredJudged_disabled (h : x.state ≠ .swapping) (ho : cfg.offset = 0) :
    (x.configuredJudged cfg tick).state = .disabled ∧ (x.configuredJudged cfg tick).jam = false ∧
      (x.configuredJudged cfg tick).occludedFrom = none := by
  simp [configuredJudged, judgeJam, configured, jamDue, ChuteConfig.start, h, ho]

/-- The eye of a chute that leaves DISABLED occluded is timed from then on. -/
def Chute.timed (tick : Nat) (x : Chute) : Option Nat :=
  if x.state = .disabled then (if x.eye = true then some tick else none) else x.occludedFrom

theorem Chute.configured_occludedFrom (ho : cfg.offset ≠ 0) : (x.configured cfg tick).occludedFrom = x.timed tick :=
  if_neg ho

theorem ChuteConfig.start_ne_disabled (ho : cfg.offset ≠ 0) : cfg.start ≠ .disabled := by
  unfold ChuteConfig.start
  rw [if_neg ho]
  cases cfg.role <;> decide

/-- An occlusion being timed that has lasted the jam time. -/
theorem Chute.jamDue_eq (x : Chute) (tick : Nat) :
    x.jamDue tick = (!x.jam && x.occludedFrom.any fun t0 => t0 + x.cfg.jamTime ≤ tick) := by
  unfold jamDue
  cases x.occludedFrom <;> simp

theorem Chute.configured_jam (h : x.state ≠ .swapping) (ho : cfg.offset ≠ 0) :
    (x.configured cfg tick).jam = x.jam := by
  simp [configured, h, ChuteConfig.start_ne_disabled ho]

theorem Chute.configured_jamDue (h : x.state ≠ .swapping) (ho : cfg.offset ≠ 0) :
    (x.configured cfg tick).jamDue tick = (!x.jam && (x.timed tick).any fun t0 => t0 + cfg.jamTime ≤ tick) := by
  rw [jamDue_eq, configured_jam h ho, configured_occludedFrom ho]
  rfl

/-- R112: an idle chute with an offset. -/
theorem Chute.configuredJudged_placed (h : x.state ≠ .swapping) (ho : cfg.offset ≠ 0) :
    x.configuredJudged cfg tick =
      { x with
        cfg := cfg, fault := false, failures := 0, occludedFrom := x.timed tick, state := cfg.start
        jam := x.jam || (x.timed tick).any fun t0 => t0 + cfg.jamTime ≤ tick } := by
  have hjam : ∀ a b : Bool, (a || (!a && b)) = (a || b) := by decide
  have hstate : (x.configured cfg tick).state = cfg.start := if_neg h
  rw [configuredJudged, judgeJam, configured_jamDue h ho, configured_jam h ho, hjam, ← hstate,
    ← configured_occludedFrom ho]
  rfl

/-! ### The effects (R112, R124, R132) -/

theorem applyChute_frame (c : ChuteId) (cfg : ChuteConfig) (s : State) :
    (applyChute c cfg s).sansChutes = s.sansChutes := by
  unfold applyChute
  dsimp only
  rw [judgeStrayArmed_frame, judgeStandby_frame, State.sansChutes_sansNotices, raiseIf_frame,
    ← State.sansChutes_sansNotices, setChute_frame]

theorem applyChute_leavesChute (c : ChuteId) (cfg : ChuteConfig) (s : State) :
    s.LeavesChute (applyChute c cfg s) c ((s.chute c).configuredJudged cfg s.clock.tick) := by
  have hset : ∀ b n sc x k, (raiseIf b n sc (setChute c x s)).chute k = if k = c then x else s.chute k :=
    fun b n sc x k => by
      rw [State.chute, raiseIf_chutes]
      exact chute_set c k x (setChute_chutes c x s)
  refine State.LeavesChute.congr (judgeStandby_leavesChute ?_ fun k hk => ?_) (judgeStrayArmed_chutes _)
    (judgeStrayArmed_notices _)
  · rw [hset, if_pos rfl]
    rfl
  · rw [hset, if_neg hk]

/-- R112: an occlusion that has lasted the new jam time raises CHUTE_BLOCKED. -/
theorem applyChute_blocked (h : ((s.chute c).configured cfg s.clock.tick).jamDue s.clock.tick = true) :
    (applyChute c cfg s).flagged .shore .chuteBlocked = true :=
  ((judgeStandby_moves c _).trans (judgeStrayArmed_moves _)).flags _ _
    (flagged_raiseIf h _ (Scope.names_shore _) _)

/-- R132: STRAY_CHUTES_FULL is armed after CONFIGURE CHUTE where it was, or where some STRAY chute is eligible. -/
theorem applyChute_strayArmed (c : ChuteId) (cfg : ChuteConfig) (s : State) :
    (applyChute c cfg s).strayArmed = (s.strayArmed || (applyChute c cfg s).someEligible .stray 1) := by
  have hraise : ∀ b n sc (v : State), (raiseIf b n sc v).strayArmed = v.strayArmed := fun b n sc v =>
    (congrArg State.strayArmed (raiseIf_frame b n sc v) :)
  unfold applyChute
  dsimp only
  rw [judgeStrayArmed_strayArmed, someEligible_congr (judgeStrayArmed_chutes _), judgeStandby_strayArmed, hraise]
  rcases setChute_strayArmed c (((s.chute c).configured cfg s.clock.tick).judgeJam s.clock.tick) s with
    h | ⟨hrole, heligible⟩
  · rw [h]
  · have hset := setChute_chutes c (((s.chute c).configured cfg s.clock.tick).judgeJam s.clock.tick) s
    rw [judgeStandby_of_unfit, someEligible_congr (raiseIf_chutes ..), heligible, Bool.or_true, Bool.or_true]
    rw [State.chute, raiseIf_chutes, ← State.chute, chute_set c c _ hset, if_pos rfl, hrole]
    exact .inl (by decide)

/-- Settles O53. -/
theorem configureChuteClampsAndStores : Obligations.configureChuteClampsAndStores := by
  intro l p s c role side cover h hc hrole hside hT hcover cap cfg
  have hclamped : (requestedChute role side cover p).clamped = cfg := requestedChute_clamped role side cover p
  refine ⟨fun hfill => ?_, fun hfill hplace hswap => ?_⟩
  · exact exec_refusedWith h
      (configureChute_refused hc hrole hside hT hcover (chuteRefusal_of_filling hfill))
  · have haccepted := configureChute_accepted hc hrole hside hT hcover
      (hclamped ▸ chuteRefusal_eq_none hfill hplace hswap)
    rw [hclamped] at haccepted
    obtain ⟨hothers, hstands, hjudged, g, r, o, st, hkept⟩ := applyChute_leavesChute c cfg s
    refine ⟨applyChute c cfg s, ?_, eq_of_sansChutes (applyChute_frame c cfg s), ?_, ?_, ?_, ?_, ?_, ?_, hothers,
      applyChute_strayArmed c cfg s, fun hst => ?_, fun hst ho => ?_, fun hst ho timed lasted htimed hlasted => ?_⟩
    · refine (congrArg Host.Outcome.next (takeRequest_accepted h haccepted)).trans ?_
      by_cases hsame : cfg = requestedChute role side cover p <;> simp [responseBytes, hsame] <;> rfl
    iterate 6
      rw [hkept]
      rfl
    · rw [hstands (.inr (by rw [Chute.configuredJudged_swapping hst]; decide))]
      exact Chute.configuredJudged_swapping hst
    · have hrecord := Chute.configuredJudged_disabled (cfg := cfg) (tick := s.clock.tick) hst ho
      rw [hstands (.inr (by rw [hrecord.1]; decide))]
      exact hrecord
    · obtain rfl : timed = (s.chute c).timed s.clock.tick := htimed
      refine ⟨fun hlast hjam => applyChute_blocked ?_, fun x hx => ?_⟩
      · rw [Chute.configured_jamDue hst ho, hjam, ← hlasted, hlast]
        rfl
      · rw [Chute.configuredJudged_placed hst ho, ← hlasted] at hstands hjudged
        rw [hx]
        refine ⟨fun e => ?_, fun e => ?_, fun e => ?_⟩ <;> subst e
        · have hstart : cfg.start = .unassigned := if_neg ho
          exact hstart ▸ hstands (.inl nofun)
        · have hstart : cfg.start = .isOpen := if_neg ho
          exact hstart ▸ hstands (.inl nofun)
        · have hstart : cfg.start = .standbyIdle := if_neg ho
          exact hstart ▸ hjudged rfl hstart

end Sys2Proof.Machine
end

section
/-! PROOF. Selection takes the first chute ahead, and the arm event queues its fire (O24). -/

namespace Sys2Proof.Machine

-- Elaborated in turn, as the proof of O14 is, for the memory that the threads' stacks would take.
set_option Elab.async false

/-! ### The chute chosen (R120, R140) -/

section Choose
variable {s : State} {dest : Dest} {size : SizeClass} {x : Nat} {c : ChuteId} {cs : List ChuteId}
  {best : Option Choice}

/-- The arm position of a chute for a size class (R140). -/
def State.armAt (s : State) (c : ChuteId) (size : SizeClass) : Nat := (s.chute c).cfg.offset - s.armDistance c size

/-- A chute eligible for a bag, which the bag reaches in the present pass from offset `x` (R119, R120). -/
def State.candidate (s : State) (dest : Dest) (size : SizeClass) (x : Nat) (c : ChuteId) : Prop :=
  (s.chute c).eligible dest (unitsOf size) = true ∧ s.armDistance c size + 1 ≤ (s.chute c).cfg.offset ∧
    x < s.armAt c size

theorem reach_eq : s.reach c size x =
    if s.armDistance c size + 1 ≤ (s.chute c).cfg.offset ∧ x < s.armAt c size then
      some (s.armAt c size, s.armDistance c size) else none := rfl

theorem chooseOne_of_not (h : ¬ s.candidate dest size x c) : s.chooseOne dest size x best c = best := by
  unfold State.chooseOne
  split
  · next heligible =>
    rw [reach_eq, if_neg fun hreach => h ⟨heligible, hreach⟩]
  · rfl

theorem chooseOne_first (h : s.candidate dest size x c) :
    s.chooseOne dest size x none c = some ⟨c, s.armAt c size, s.armDistance c size⟩ := by
  simp only [State.chooseOne, if_pos h.1, reach_eq, if_pos h.2]

/-- R120 steps 2 and 3: a candidate replaces the best so far when its arm position is smaller. -/
theorem chooseOne_better (h : s.candidate dest size x c) (k : Choice) : s.chooseOne dest size x (some k) c =
    if s.armAt c size < k.arm then some ⟨c, s.armAt c size, s.armDistance c size⟩ else some k := by
  simp only [State.chooseOne, if_pos h.1, reach_eq, if_pos h.2]

/-- The best choice among some chutes: a candidate with the smallest arm position, the lowest number among equals,
or none where no chute of them is a candidate. -/
def State.FirstAhead (s : State) (dest : Dest) (size : SizeClass) (x : Nat) (cs : List ChuteId) :
    Option Choice → Prop
  | none => ∀ c ∈ cs, ¬ s.candidate dest size x c
  | some k => k.chute ∈ cs ∧ s.candidate dest size x k.chute ∧ k.arm = s.armAt k.chute size ∧
      k.d = s.armDistance k.chute size ∧
      ∀ c ∈ cs, s.candidate dest size x c → k.arm < s.armAt c size ∨ (k.arm = s.armAt c size ∧ k.chute ≤ c)

/-- A candidate takes the place of the best so far, and is the best then. -/
theorem firstAhead_new (hc : s.candidate dest size x c)
    (h : ∀ j ∈ cs, s.candidate dest size x j → s.armAt c size < s.armAt j size) :
    s.FirstAhead dest size x (cs ++ [c]) (some ⟨c, s.armAt c size, s.armDistance c size⟩) := by
  refine ⟨by simp, hc, rfl, rfl, fun j hj hcand => ?_⟩
  rcases List.mem_append.mp hj with hj | hj
  · exact .inl (h j hj hcand)
  · obtain rfl := List.mem_singleton.mp hj
    exact .inr ⟨rfl, le_rfl⟩

/-- The best so far, tried against a chute of a higher number. -/
theorem firstAhead_chooseOne (h : s.FirstAhead dest size x cs best) (hlt : ∀ j ∈ cs, j < c) :
    s.FirstAhead dest size x (cs ++ [c]) (s.chooseOne dest size x best c) := by
  by_cases hc : s.candidate dest size x c
  · cases best with
    | none =>
      rw [chooseOne_first hc]
      exact firstAhead_new hc fun j hj hcand => absurd hcand (h j hj)
    | some k =>
      obtain ⟨hk, hcand, harm, hd, hfirst⟩ := h
      rw [chooseOne_better hc]
      split
      · next hnew =>
        exact firstAhead_new hc fun j hj hj' => by
          rcases hfirst j hj hj' with hlt | ⟨heq, -⟩ <;> omega
      · next hold =>
        refine ⟨List.mem_append_left _ hk, hcand, harm, hd, fun j hj hj' => ?_⟩
        rcases List.mem_append.mp hj with hj | hj
        · exact hfirst j hj hj'
        · obtain rfl := List.mem_singleton.mp hj
          exact (lt_or_eq_of_le (not_lt.mp hold)).imp_right fun heq => ⟨heq, (hlt _ hk).le⟩
  · rw [chooseOne_of_not hc]
    have hsplit : ∀ j ∈ cs ++ [c], s.candidate dest size x j → j ∈ cs := fun j hj hj' =>
      (List.mem_append.mp hj).resolve_right fun hjc => hc (List.mem_singleton.mp hjc ▸ hj')
    cases best with
    | none => exact fun j hj hj' => h j (hsplit j hj hj') hj'
    | some k =>
      obtain ⟨hk, hcand, harm, hd, hfirst⟩ := h
      exact ⟨List.mem_append_left _ hk, hcand, harm, hd, fun j hj hj' => hfirst j (hsplit j hj hj') hj'⟩

theorem firstAhead_foldl (h : cs.Pairwise (· < ·)) :
    s.FirstAhead dest size x cs (cs.foldl (s.chooseOne dest size x) none) := by
  induction cs using List.reverseRecOn with
  | nil => exact fun _ hc => nomatch hc
  | append_singleton r c ih =>
    obtain ⟨hr, -, hlt⟩ := List.pairwise_append.mp h
    rw [List.foldl_concat]
    exact firstAhead_chooseOne (ih hr) fun j hj => hlt j hj c (List.mem_singleton_self c)

theorem choose_firstAhead (s : State) (dest : Dest) (size : SizeClass) (x : Nat) :
    s.FirstAhead dest size x allChutes (s.choose dest size x) := firstAhead_foldl (List.pairwise_lt_finRange 48)

end Choose

/-! ### The arm event (R141 to R144) -/

/-- R143: a record joins the queue behind those due no later, ahead of the first that is due later. -/
theorem insertFire_split (r : FireRecord) (q : List FireRecord) : ∃ pre post, q = pre ++ post ∧
    insertFire r q = pre ++ r :: post ∧ (∀ y ∈ pre, y.due ≤ r.due) ∧ ∀ y, post.head? = some y → r.due < y.due := by
  induction q with
  | nil => exact ⟨[], [], rfl, rfl, nofun, nofun⟩
  | cons y q ih =>
    unfold insertFire
    split
    · next h => exact ⟨[], y :: q, rfl, rfl, nofun, fun z hz => Option.some.inj hz ▸ h⟩
    · next h =>
      obtain ⟨pre, post, hq, hins, hpre, hpost⟩ := ih
      refine ⟨y :: pre, post, congrArg (y :: ·) hq, congrArg (y :: ·) hins, fun z hz => ?_, hpost⟩
      rcases List.mem_cons.mp hz with rfl | hz
      · exact not_lt.mp h
      · exact hpre z hz

/-- A queue in the order of its due ticks stays so. -/
theorem pairwise_due_insert {r : FireRecord} {pre post : List FireRecord} (hpre : ∀ y ∈ pre, y.due ≤ r.due)
    (hpost : ∀ y, post.head? = some y → r.due < y.due) (h : (pre ++ post).Pairwise fun x y => x.due ≤ y.due) :
    (pre ++ r :: post).Pairwise fun x y => x.due ≤ y.due := by
  obtain ⟨hp, hq, hpq⟩ := List.pairwise_append.mp h
  have hlater : ∀ y ∈ post, r.due ≤ y.due := by
    cases post with
    | nil => exact nofun
    | cons z q =>
      have hz := (hpost z rfl).le
      intro y hy
      rcases List.mem_cons.mp hy with rfl | hy
      · exact hz
      · exact hz.trans (List.rel_of_pairwise_cons hq hy)
  refine List.pairwise_append.mpr ⟨hp, List.pairwise_cons.mpr ⟨hlater, hq⟩, fun y hy z hz => ?_⟩
  rcases List.mem_cons.mp hz with rfl | hz
  · exact hpre y hy
  · exact hpq y hy z hz

section Arm
variable {s : State} {t : Nat} {b : BagRecord} {c : ChuteId} {d : Nat}

/-- R141: a tray that is not SELECTED at its arm position has no arm event. -/
theorem armTray_of_not (h : ∀ b c d, s.tray t ≠ .selected b c (s.offsetOf t) d) : armTray t s = s := by
  unfold armTray
  split
  · next b c a d hb =>
    rw [if_neg]
    rintro rfl
    exact h b c d hb
  all_goals rfl

/-- R144: with 32 records in the queue the selection is dropped. -/
theorem armTray_full (h : s.tray t = .selected b c (s.offsetOf t) d) (hq : 32 ≤ s.fireQueue.length) :
    armTray t s = raise .armDropped (s.chute c).scope
      (putTray t (.loaded b) (returnCommitted c (unitsOf b.size) s)) := by
  unfold armTray
  rw [h]
  dsimp only
  rw [if_pos rfl, if_pos hq]

/-- R141 to R143: the tray becomes ARMED and its fire record joins the queue. -/
theorem armTray_armed (h : s.tray t = .selected b c (s.offsetOf t) d) (hq : s.fireQueue.length < 32) :
    armTray t s = raiseIf (d * s.period < s.lead c b.size) .lateFire (s.chute c).scope
      (putTray t (.armed b c) { s with
        fireQueue := insertFire ⟨t, c, s.clock.tick + (d * s.period - s.lead c b.size)⟩ s.fireQueue }) := by
  unfold armTray
  rw [h]
  dsimp only
  rw [if_pos rfl, if_neg (not_le.mpr hq)]

end Arm

/-- Settles O24. -/
theorem selectionTakesTheFirstChuteAhead : Obligations.selectionTakesTheFirstChuteAhead := by
  constructor
  · intro s dest size x
    have hfirst := choose_firstAhead s dest size x
    refine ⟨fun k hk => ?_, fun hnone c => ?_, fun hnone => ?_⟩
    · rw [hk] at hfirst
      obtain ⟨-, hcand, harm, hd, hleast⟩ := hfirst
      exact ⟨hcand, harm, hd, fun c => hleast c (List.mem_finRange c)⟩
    · rw [hnone] at hfirst
      exact hfirst c (List.mem_finRange c)
    · refine Option.eq_none_iff_forall_ne_some.mpr fun k hk => ?_
      rw [hk] at hfirst
      exact hnone k.chute hfirst.2.1
  · intro s t
    refine ⟨armTray_of_not, fun b c d hb => ⟨fun hq => ?_, fun hq => ?_⟩⟩
    · rw [armTray_full hb hq]
      refine ⟨?_, flagged_raise _ (Scope.names_shore _) _⟩
      unfold returnCommitted modChute
      rw [setChute_eq]
      rfl
    · obtain ⟨pre, post, hsplit, hins, hpre, hpost⟩ :=
        insertFire_split ⟨t, c, s.clock.tick + (d * s.period - s.lead c b.size)⟩ s.fireQueue
      have heq := armTray_armed hb hq
      rw [hins] at heq
      refine ⟨pre, post, hsplit, ?_, hpre, hpost, fun hsorted => ?_, fun hlate => ?_, fun hearly => ?_⟩
      · rw [heq]
        exact raiseIf_eq ..
      · rw [heq, raiseIf_eq]
        exact pairwise_due_insert hpre hpost (hsplit ▸ hsorted)
      · rw [heq]
        exact flagged_raiseIf (decide_eq_true hlate) _ (Scope.names_shore _) _
      · have hontime : ¬ d * s.period < s.lead c b.size := not_lt.mpr hearly
        rw [heq, raiseIf_of_not (decide_eq_false hontime)]
        rfl

end Sys2Proof.Machine
end

section
/-! PROOF. What passing a LOADED tray to selection does (O25). -/

namespace Sys2Proof.Machine

-- Elaborated in turn, as the proof of O14 is, for the memory that the threads' stacks would take.
set_option Elab.async false

section Pass
variable {s : State} {t : Nat} {b : BagRecord} {dest : Dest} {k : Choice}

theorem passToSelection_chosen (hb : s.tray t = .loaded b) (hdest : s.bagDest b = some dest)
    (hk : s.choose dest b.size (s.offsetOf t) = some k) : passToSelection t s =
      modChute k.chute (fun x => { x with committed := x.committed + unitsOf b.size })
        (putTray t (.selected b k.chute k.arm k.d) s) := by
  simp only [passToSelection, hb, hdest, hk]

theorem passToSelection_unchosen (hb : s.tray t = .loaded b) (hdest : s.bagDest b = some dest)
    (hk : s.choose dest b.size (s.offsetOf t) = none) : passToSelection t s = noChute dest (unitsOf b.size) s := by
  simp only [passToSelection, hb, hdest, hk]

theorem passToSelection_unasked (hb : s.tray t = .loaded b) (hdest : s.bagDest b = none) : passToSelection t s = s := by
  simp only [passToSelection, hb, hdest]

/-- R119: an eligible chute has room for the bag. -/
theorem Chute.room_of_eligible {x : Chute} {units : Nat} (h : x.eligible dest units = true) :
    x.fill + x.committed + units ≤ x.cfg.capacity := by
  simp only [Chute.eligible, Bool.and_eq_true, decide_eq_true_iff] at h
  exact h.1.2

/-- R120: where no chute is eligible none is chosen. -/
theorem choose_eq_none {size : SizeClass} {x : Nat} (h : s.someEligible dest (unitsOf size) = false) :
    s.choose dest size x = none :=
  Option.eq_none_iff_forall_ne_some.mpr fun k hk =>
    Bool.noConfusion (h.symm.trans (someEligible_iff.mpr ⟨k.chute, choose_eligible hk⟩))

end Pass

/-! ### A selection that ends with no chute (R121, R130, R132) -/

section NoChute
variable {s : State} {g : Group} {n : Nat}

theorem noChute_of_eligible {dest : Dest} (h : s.someEligible dest n = true) : noChute dest n s = s := if_pos h

theorem noChute_group (h : s.someEligible (.group g) n = false) : noChute (.group g) n s = blockedSelection g s :=
  if_neg (by rw [h]; nofun)

theorem noChute_stray (h : s.someEligible .stray n = false) : noChute .stray n s =
    if s.strayArmed then raise .strayChutesFull .hall { s with strayArmed := false } else s :=
  if_neg (by rw [h]; nofun)

/-- R130: a group without a record. -/
theorem blockedSelection_new (h : ∀ r ∈ s.blocked, r.group ≠ g) : blockedSelection g s =
    raise .groupBlocked (.slot g.slot)
      (if s.blocked.length < 16 then { s with blocked := s.blocked ++ [⟨g, 1, 0⟩] } else s) := by
  have hnone : s.blocked.find? (fun r => r.group = g) = none :=
    List.find?_eq_none.mpr fun r hr => by simpa using h r hr
  simp only [blockedSelection, hnone]

/-- R130: the record of a group is counted. -/
theorem blockedSelection_counted {pre post : List BlockedGroup} {r : BlockedGroup}
    (hsplit : s.blocked = pre ++ r :: post) (hr : r.group = g) (hpre : ∀ q ∈ pre, q.group ≠ g)
    (hpost : ∀ q ∈ post, q.group ≠ g) : blockedSelection g s =
      raiseIf (s.blockedN ≤ r.reraise + 1) .groupBlocked (.slot g.slot) { s with
        blocked := pre ++ ⟨g, min 65535 (r.count + 1),
          if s.blockedN ≤ r.reraise + 1 then 0 else r.reraise + 1⟩ :: post } := by
  have hfound : s.blocked.find? (fun r => r.group = g) = some r := by
    rw [hsplit, List.find?_append, List.find?_eq_none.mpr fun q hq => by simpa using hpre q hq]
    simp [hr]
  have hothers : ∀ (f : BlockedGroup → BlockedGroup) (rs : List BlockedGroup), (∀ q ∈ rs, q.group ≠ g) →
      (rs.map fun q => if q.group = g then f q else q) = rs := fun f rs hrs =>
    (List.map_congr_left fun q hq => if_neg (hrs q hq)).trans (List.map_id' rs)
  simp only [blockedSelection, hfound]
  rw [hsplit, List.map_append, List.map_cons, hothers _ pre hpre, hothers _ post hpost, if_pos hr]
  simp only [decide_eq_true_eq, hr]

end NoChute

/-- Settles O25. -/
theorem selectionCommitsOrCounts : Obligations.selectionCommitsOrCounts := by
  intro t b s hb
  refine ⟨fun dest k hdest hk => ?_, fun dest hdest hk => ?_, ?_, fun k hk => passToSelection_tray_ne hk s,
    fun g hdest hno => ?_, fun hdest hno => ?_⟩
  · have hchute : (passToSelection t s).chute k.chute =
        { s.chute k.chute with committed := (s.chute k.chute).committed + unitsOf b.size } := by
      rw [passToSelection_chosen hb hdest hk]
      exact modChute_chute_self ..
    refine ⟨?_, congrArg Chute.committed hchute, ?_⟩
    · rw [passToSelection_chosen hb hdest hk]
      exact (tray_of_loop (modChute_loop ..) t).trans (putTray_tray t _ s (tray_loaded_lt hb))
    · rw [hchute]
      have hroom := Chute.room_of_eligible (choose_eligible hk)
      dsimp only
      omega
  · rw [passToSelection_unchosen hb hdest hk]
    exact ⟨noChute_eq .., noChute_of_eligible⟩
  · rintro (hw | hdest)
    · exact passToSelection_waiting hb hw
    · exact passToSelection_unasked hb hdest
  · rw [passToSelection_unchosen hb hdest (choose_eq_none hno), noChute_group hno]
    refine ⟨fun hnew => ?_, fun pre r post hsplit hr hpre hpost => ?_⟩
    · rw [blockedSelection_new hnew]
      refine ⟨flagged_raise _ (Scope.names_shore _) _, ?_⟩
      rw [raise_blocked, apply_ite State.blocked]
    · rw [blockedSelection_counted hsplit hr hpre hpost]
      refine ⟨(congrArg State.blocked (raiseIf_eq ..) :), fun hdue => ?_, fun hnot => ?_⟩
      · exact flagged_raiseIf (decide_eq_true hdue) _ (Scope.names_shore _) _
      · rw [raiseIf_of_not (decide_eq_false (not_le.mpr hnot))]
  · rw [passToSelection_unchosen hb hdest (choose_eq_none hno), noChute_stray hno]
    exact ⟨fun harmed => by rw [if_pos harmed]; exact ⟨rfl, flagged_raise _ (Scope.names_shore _) _⟩,
      fun harmed => if_neg (by rw [harmed]; nofun)⟩

end Sys2Proof.Machine
end

section
/-! PROOF. SWAP BEGIN cancels the selections and SWAP END empties the chute (O55). -/

namespace Sys2Proof.Machine

-- Elaborated in turn, as the proof of O14 is, for the memory that the threads' stacks would take.
set_option Elab.async false

variable {s : State} {c : ChuteId}

/-! ### The fire records of selections cancelled (R143) -/

theorem cancelSelection_fireQueue_subset (t : Nat) (s : State) : (cancelSelection t s).fireQueue ⊆ s.fireQueue := by
  cases h : s.tray t with
  | armed b c =>
    rw [cancelSelection_fireQueue h]
    exact List.filter_subset_self _
  | selected b c a d =>
    have hsame : (cancelSelection t s).fireQueue = s.fireQueue := by
      simp only [cancelSelection, h]
      exact (congrArg State.fireQueue (returnCommitted_frame c (unitsOf b.size) s) :)
    rw [hsame]
    exact List.Subset.refl _
  | empty | reserved | loaded | fired | unconfirmed | suspect =>
    simp only [cancelSelection, h]
    exact List.Subset.refl _

theorem foldl_cancelSelection_fireQueue_subset (ts : List Nat) (s : State) :
    (ts.foldl (fun s t => cancelSelection t s) s).fireQueue ⊆ s.fireQueue := by
  induction ts generalizing s with
  | nil => exact List.Subset.refl _
  | cons t r ih => exact List.Subset.trans (ih _) (cancelSelection_fireQueue_subset t s)

/-- R143: the record of an ARMED tray whose selection is cancelled leaves the queue. -/
theorem foldl_cancelSelection_fires {ts : List Nat} {k : Nat} {b : BagRecord} (hk : k ∈ ts)
    (h : s.tray k = .armed b c) : ∀ r ∈ (ts.foldl (fun s t => cancelSelection t s) s).fireQueue, r.tray ≠ k := by
  induction ts generalizing s with
  | nil => cases hk
  | cons t q ih =>
    by_cases htk : t = k
    · subst htk
      intro r hr
      have hleft := foldl_cancelSelection_fireQueue_subset q _ hr
      rw [cancelSelection_fireQueue h] at hleft
      exact of_decide_eq_true (List.mem_filter.mp hleft).2
    · refine ih ((List.mem_cons.mp hk).resolve_left (Ne.symm htk)) ?_
      rw [cancelSelection_tray, if_neg (Ne.symm htk), h]

/-! ### Selections with a chute that swaps (R119, R125) -/

/-- A chute record but for its committed units. -/
def Chute.SameButCommitted (x y : Chute) : Prop := ∃ n, y = { x with committed := n }

theorem Chute.SameButCommitted.trans {x y z : Chute} (h : x.SameButCommitted y) (k : y.SameButCommitted z) :
    x.SameButCommitted z := by
  obtain ⟨_, rfl⟩ := h
  obtain ⟨n, rfl⟩ := k
  exact ⟨n, rfl⟩

theorem cancelSelection_sameButCommitted (t : Nat) (c : ChuteId) (s : State) :
    (s.chute c).SameButCommitted ((cancelSelection t s).chute c) := by
  have hreturned : ∀ (b : BagRecord) (j : ChuteId), (s.tray t = .armed b j ∨ ∃ a d, s.tray t = .selected b j a d) →
      (s.chute c).SameButCommitted ((cancelSelection t s).chute c) := fun b j h => by
    rw [cancelSelection_chute h]
    split
    · next hc => exact hc ▸ ⟨_, rfl⟩
    · exact ⟨_, rfl⟩
  cases h : s.tray t with
  | armed b j => exact hreturned b j (.inl h)
  | selected b j a d => exact hreturned b j (.inr ⟨a, d, h⟩)
  | empty | reserved | loaded | fired | unconfirmed | suspect =>
    simp only [cancelSelection, h]
    exact ⟨_, rfl⟩

theorem foldl_sameButCommitted {f : State → Nat → State}
    (h : ∀ (s : State) (t : Nat), (s.chute c).SameButCommitted ((f s t).chute c)) (ts : List Nat) (s : State) : (s.chute c).SameButCommitted ((ts.foldl f s).chute c) := by
  induction ts generalizing s with
  | nil => exact ⟨_, rfl⟩
  | cons t r ih => exact (h s t).trans (ih _)

/-- A bag on a LOADED tray, or on one SELECTED for another chute than `c`. -/
def Tray.ClearOf (c : ChuteId) (b : BagRecord) (x : Tray) : Prop :=
  x = .loaded b ∨ ∃ c' a d, c' ≠ c ∧ x = .selected b c' a d

theorem Tray.ClearOf.heldFor {b : BagRecord} {x : Tray} (h : x.ClearOf c b) : x.heldFor c = 0 := by
  rcases h with rfl | ⟨c', a, d, hc, rfl⟩
  · rfl
  · exact if_neg hc

theorem Tray.heldFor_of_not_boundFor {x : Tray} (h : x.boundFor c = false) : x.heldFor c = 0 := by
  cases x with
  | selected | armed => exact if_neg (of_decide_eq_false h)
  | empty | reserved | loaded | fired | unconfirmed | suspect => rfl

/-- R119: a chute that swaps is not selected. -/
theorem passToSelection_clearOf {b : BagRecord} {k : Nat} (hst : (s.chute c).state = .swapping)
    (h : (s.tray k).ClearOf c b) (t : Nat) : ((passToSelection t s).tray k).ClearOf c b := by
  by_cases hk : k = t
  · subst hk
    rcases h with h | ⟨c', a, d, hc, h⟩
    · rcases passToSelection_eligible h with ⟨c', a, d, dest, -, heligible, htray, -⟩ | ⟨htray, -⟩
      · refine .inr ⟨c', a, d, ?_, htray⟩
        rintro rfl
        simp [Chute.eligible, hst] at heligible
      · exact .inl htray
    · rw [passToSelection_of_not_loaded fun b' hb => by rw [h] at hb; cases hb]
      exact .inr ⟨c', a, d, hc, h⟩
  · rw [passToSelection_tray_ne hk]
    exact h

theorem foldl_passToSelection_clearOf {b : BagRecord} {k : Nat} (ts : List Nat)
    (hst : (s.chute c).state = .swapping) (h : (s.tray k).ClearOf c b) :
    ((ts.foldl (fun s t => passToSelection t s) s).tray k).ClearOf c b := by
  induction ts generalizing s with
  | nil => exact h
  | cons t r ih =>
    refine ih ?_ (passToSelection_clearOf hst h t)
    obtain ⟨n, hn⟩ := passToSelection_chute t s c
    rw [hn]
    exact hst

theorem foldl_passToSelection_tray {k : Nat} {ts : List Nat} (hk : k ∉ ts) (s : State) :
    (ts.foldl (fun s t => passToSelection t s) s).tray k = s.tray k := by
  induction ts generalizing s with
  | nil => rfl
  | cons t r ih =>
    obtain ⟨ht, hr⟩ := not_or.mp (mt List.mem_cons.mpr hk)
    exact (ih hr _).trans (passToSelection_tray_ne ht s)

/-! ### SWAP BEGIN (R125) -/

/-- The trays whose selections SWAP BEGIN cancels. -/
def State.boundTrays (s : State) (c : ChuteId) : List Nat := s.traysByOffset.filter fun t => (s.tray t).boundFor c

/-- The state in which the selections have been cancelled and none made anew. -/
def swapCancelled (c : ChuteId) (s : State) : State :=
  (s.boundTrays c).foldl (fun s t => cancelSelection t s) (modChute c (fun x => { x with state := .swapping }) s)

theorem beginSwap_eq (c : ChuteId) (s : State) :
    beginSwap c s = (s.boundTrays c).foldl (fun s t => passToSelection t s) (swapCancelled c s) := rfl

theorem mem_boundTrays {k : Nat} : k ∈ s.boundTrays c ↔ (s.tray k).boundFor c = true := by
  rw [State.boundTrays, List.mem_filter, mem_traysByOffset, and_iff_right_of_imp]
  intro h
  by_contra hle
  rw [tray_of_le (not_lt.mp hle)] at h
  cases h

theorem swapCancelled_sameButCommitted (c : ChuteId) (s : State) :
    Chute.SameButCommitted { s.chute c with state := .swapping } ((swapCancelled c s).chute c) := by
  have h := foldl_sameButCommitted (fun v t => cancelSelection_sameButCommitted t c v) (s.boundTrays c)
    (modChute c (fun x => { x with state := .swapping }) s)
  rw [modChute_chute_self] at h
  exact h

/-- R125: the chute swaps, and nothing else of its record changes but its committed units. -/
theorem beginSwap_sameButCommitted (c : ChuteId) (s : State) :
    Chute.SameButCommitted { s.chute c with state := .swapping } ((beginSwap c s).chute c) :=
  (swapCancelled_sameButCommitted c s).trans (foldl_sameButCommitted (fun v t => passToSelection_chute t v c) _ _)

theorem swapCancelled_tray (c : ChuteId) (k : Nat) (s : State) : (swapCancelled c s).tray k =
    if k ∈ s.boundTrays c then (s.tray k).unselected else s.tray k := by
  rw [swapCancelled, foldl_cancelSelection_tray, tray_of_loop (modChute_loop ..)]

theorem beginSwap_tray_of_not {k : Nat} (h : (s.tray k).boundFor c = false) : (beginSwap c s).tray k = s.tray k := by
  have hk : k ∉ s.boundTrays c := fun hk => Bool.noConfusion (h.symm.trans (mem_boundTrays.mp hk))
  rw [beginSwap_eq, foldl_passToSelection_tray hk, swapCancelled_tray, if_neg hk]

/-- R125: a tray whose selection is cancelled selects again, the chute that swaps not. -/
theorem beginSwap_tray_clearOf {k : Nat} {b : BagRecord} (h : (s.tray k).boundFor c = true)
    (hb : (s.tray k).bag = some b) : ((beginSwap c s).tray k).ClearOf c b := by
  rw [beginSwap_eq]
  refine foldl_passToSelection_clearOf (s.boundTrays c) ?_ (.inl ?_)
  · obtain ⟨n, hn⟩ := swapCancelled_sameButCommitted c s
    rw [hn]
  · rw [swapCancelled_tray, if_pos (mem_boundTrays.mpr h)]
    cases hx : s.tray k with
    | selected | armed =>
      rw [hx] at hb
      obtain rfl := Option.some.inj hb
      rfl
    | empty | reserved | loaded | fired | unconfirmed | suspect =>
      rw [hx] at h
      cases h

/-- R125: after SWAP BEGIN no tray holds units at the chute. -/
theorem beginSwap_heldFor (c : ChuteId) (s : State) : (beginSwap c s).heldFor c = 0 := by
  have htray : ∀ k, ((beginSwap c s).tray k).heldFor c = 0 := fun k => by
    cases hbound : (s.tray k).boundFor c with
    | false =>
      rw [beginSwap_tray_of_not hbound]
      exact Tray.heldFor_of_not_boundFor hbound
    | true =>
      obtain ⟨b, hb⟩ : ∃ b, (s.tray k).bag = some b := by
        cases hx : s.tray k with
        | selected b | armed b => exact ⟨b, rfl⟩
        | empty | reserved | loaded | fired | unconfirmed | suspect =>
          rw [hx] at hbound
          cases hbound
      exact (beginSwap_tray_clearOf hbound hb).heldFor
  refine List.sum_eq_zero fun n hn => ?_
  obtain ⟨x, hx, rfl⟩ := List.mem_map.mp hn
  obtain ⟨k, hk, rfl⟩ := List.mem_iff_getElem.mp hx
  have hread : (beginSwap c s).tray k = (beginSwap c s).loop.trays[k] := by
    simp [State.tray, List.getElem?_eq_getElem hk]
  exact hread ▸ htray k

theorem beginSwap_balances (c : ChuteId) (s : State) : s.Balances (beginSwap c s) :=
  .trans modChute_balances ((foldl_balances (fun u t => cancelSelection_balances t u) _ _).trans
    (foldl_balances (fun u t => passToSelection_balances t u) _ _))

theorem beginSwap_moves (c : ChuteId) (s : State) : s.Moves (beginSwap c s) :=
  ((modChute_moves .quiet).trans (foldl_moves (fun u t => cancelSelection_moves t u) _ _)).trans
    (foldl_moves (fun u t => passToSelection_moves t u) _ _)

theorem beginSwap_pool (c : ChuteId) (s : State) : (beginSwap c s).pool = s.pool := by
  rw [beginSwap_eq, foldl_keeps State.pool _ (fun s t => passToSelection_pool t s), swapCancelled,
    foldl_keeps State.pool _ (fun s t => cancelSelection_pool t s)]
  exact (congrArg State.pool (modChute_frame c _ s) :)

/-- R125, R143: the fire records of the selections cancelled leave the queue. -/
theorem beginSwap_fires {r : FireRecord} (hr : r ∈ (beginSwap c s).fireQueue) (b : BagRecord) :
    s.tray r.tray ≠ .armed b c := by
  intro hb
  rw [beginSwap_eq, foldl_keeps State.fireQueue _ fun s t => (passToSelection_keeps t s).2.2] at hr
  refine foldl_cancelSelection_fires (mem_boundTrays.mpr ?_) ((tray_of_loop (modChute_loop ..) _).trans hb) r hr rfl
  rw [hb]
  exact decide_eq_true rfl

/-! ### SWAP END (R126) -/

section SwapEnd
variable {x : Chute} {tick : Nat}

/-- R126: what a chute emptied keeps of its record. -/
theorem Chute.swapped_kept (tick : Nat) (x : Chute) : ∃ g r o st, x.swapped tick =
    { x with
      fill := 0, gen := x.gen + 1, jam := false, fault := false, failures := 0
      occludedFrom := if x.eye ∧ x.cfg.offset ≠ 0 then some tick else none
      group := g, released := r, tookOver := o, state := st } := by
  unfold swapped leaveSwap
  dsimp only
  repeat' split
  all_goals exact ⟨_, _, _, _, rfl⟩

theorem Chute.swapped_cfg (tick : Nat) (x : Chute) : (x.swapped tick).cfg = x.cfg := by
  obtain ⟨_, _, _, _, h⟩ := x.swapped_kept tick
  rw [h]

theorem Chute.swapped_disabled (ho : x.cfg.offset = 0) : (x.swapped tick).state = .disabled := by
  simp [swapped, leaveSwap, ho]

theorem Chute.swapped_stray (ho : x.cfg.offset ≠ 0) (hrole : x.cfg.role = .stray) :
    (x.swapped tick).state = .isOpen := by
  simp [swapped, leaveSwap, ho, hrole]

theorem Chute.swapped_serving (ho : x.cfg.offset ≠ 0) (hrole : x.cfg.role = .sort) (hg : x.group.isSome = true)
    (hrel : x.released = false) : (x.swapped tick).state = .isOpen ∧ (x.swapped tick).group = x.group := by
  simp [swapped, leaveSwap, ho, hrole, hg, hrel]

theorem Chute.swapped_unassigned (ho : x.cfg.offset ≠ 0) (hrole : x.cfg.role = .sort)
    (h : x.group = none ∨ x.released = true) :
    (x.swapped tick).state = .unassigned ∧ (x.swapped tick).group = none := by
  rcases h with h | h <;> simp [swapped, leaveSwap, ho, hrole, h]

theorem Chute.swapped_standby (ho : x.cfg.offset ≠ 0) (hrole : x.cfg.role = .standby) : x.swapped tick =
    { x with
      fill := 0, gen := x.gen + 1, jam := false, fault := false, failures := 0
      occludedFrom := if x.eye = true then some tick else none
      state := .standbyIdle, group := none, released := false, tookOver := none } := by
  simp [swapped, leaveSwap, ho, hrole]

end SwapEnd

theorem endSwap_frame (c : ChuteId) (s : State) : (endSwap c s).sansChutes = s.sansChutes := by
  unfold endSwap
  rw [judgeStrayArmed_frame, judgeBlocked_frame, judgeStandby_frame, modChute_frame]

/-- R124, R126: what SWAP END leaves of the chutes. -/
theorem endSwap_leavesChute (c : ChuteId) (s : State) :
    s.LeavesChute (endSwap c s) c ((s.chute c).swapped s.clock.tick) := by
  have hjudged : s.LeavesChute (judgeStandby c (modChute c (·.swapped s.clock.tick) s)) c
      ((s.chute c).swapped s.clock.tick) :=
    judgeStandby_leavesChute (modChute_chute_self ..) fun _ hk => modChute_chute_ne hk ..
  unfold endSwap
  refine hjudged.congr ?_ ?_
  · rw [judgeStrayArmed_chutes, judgeBlocked_chutes]
  · rw [judgeStrayArmed_notices, judgeBlocked_notices]

section Requests
variable {p : Payload}

theorem swapBegin_refused (hc : u8 p 0 = c.val) (h : (s.chute c).filling = false) : swapBegin p s = .error .state := by
  simp [swapBegin, hc, chuteOf_val, h]

theorem swapBegin_accepted (hc : u8 p 0 = c.val) (h : (s.chute c).filling = true) :
    swapBegin p s = .ok (beginSwap c s, .ok) := by
  simp [swapBegin, hc, chuteOf_val, h]

theorem swapEnd_refused (hc : u8 p 0 = c.val) (h : (s.chute c).state ≠ .swapping) : swapEnd p s = .error .state := by
  simp [swapEnd, hc, chuteOf_val, h]

theorem swapEnd_accepted (hc : u8 p 0 = c.val) (h : (s.chute c).state = .swapping) :
    swapEnd p s = .ok (endSwap c s, .ok) := by
  simp [swapEnd, hc, chuteOf_val, h]

end Requests

/-- Settles O55. -/
theorem swapsEmptyTheChute : Obligations.swapsEmptyTheChute := by
  intro l p s c hc
  refine ⟨fun h => ⟨fun hno => exec_refusedWith h (swapBegin_refused hc hno), fun hfill hlaw _ _ => ?_⟩,
    fun h => ⟨fun hno => exec_refusedWith h (swapEnd_refused hc hno), fun hst => ?_⟩⟩
  · obtain ⟨n, hn⟩ := beginSwap_sameButCommitted c s
    refine ⟨beginSwap c s, exec_answeredOk h (swapBegin_accepted hc hfill), ?_, ?_, ?_, ?_, ?_, ?_,
      (beginSwap_moves c s).trays, beginSwap_pool c s, fun k => beginSwap_tray_of_not,
      fun k b => beginSwap_tray_clearOf, fun r hr => beginSwap_fires hr⟩
    case refine_2 => exact (((beginSwap_balances c s).law hlaw).chute c).trans (beginSwap_heldFor c s)
    all_goals rw [hn]
  · obtain ⟨hothers, hstands, hjudged, g, r, o, st, hkept⟩ := endSwap_leavesChute c s
    obtain ⟨g', r', o', st', hswapped⟩ := (s.chute c).swapped_kept s.clock.tick
    have hplain : (s.chute c).cfg.role ≠ .standby → (endSwap c s).chute c = (s.chute c).swapped s.clock.tick :=
      fun hrole => hstands (.inl (by rw [Chute.swapped_cfg]; exact hrole))
    refine ⟨endSwap c s, exec_answeredOk h (swapEnd_accepted hc hst), eq_of_sansChutes (endSwap_frame c s), ?_, ?_, ?_,
      ?_, ?_, ?_, ?_, hothers, fun ho => ?_, fun ho hrole => ?_, fun ho hrole => ⟨fun hg hrel => ?_, fun hno => ?_⟩,
      fun ho hrole => ?_⟩
    iterate 7
      rw [hkept, hswapped]
    · have hdisabled := Chute.swapped_disabled (tick := s.clock.tick) ho
      rw [hstands (.inr (by rw [hdisabled]; decide))]
      exact hdisabled
    · rw [hplain (by rw [hrole]; decide)]
      exact Chute.swapped_stray ho hrole
    · rw [hplain (by rw [hrole]; decide)]
      exact Chute.swapped_serving ho hrole hg hrel
    · rw [hplain (by rw [hrole]; decide)]
      exact Chute.swapped_unassigned ho hrole hno
    · rw [Chute.swapped_standby ho hrole] at hjudged
      exact hjudged hrole rfl

end Sys2Proof.Machine
end

section
/-! PROOF. A due fire tilts the ARMED tray into its chute, and a standby takes over a chute that fills (O35). -/

namespace Sys2Proof.Machine

-- Elaborated in turn, as the proof of O14 is, for the memory that the threads' stacks would take.
set_option Elab.async false

variable {s : State} {c k : ChuteId} {t : Nat}

/-! ### The takeovers of a full chute (R123) -/

theorem foldl_takeOver_chute {ks : List ChuteId} (hks : ks.Nodup) (hc : c ∉ ks) (k : ChuteId) (s : State) :
    (ks.foldl (fun s k => takeOver k c s) s).chute k =
      if k ∈ ks then (s.chute k).takesOver c (s.chute c).group else s.chute k := by
  induction ks generalizing s with
  | nil => simp
  | cons j r ih =>
    obtain ⟨hj, hr⟩ := List.nodup_cons.mp hks
    obtain ⟨hcj, hcr⟩ := not_or.mp (mt List.mem_cons.mpr hc)
    rw [List.foldl_cons, ih hr hcr, takeOver_chute, takeOver_chute, if_neg hcj]
    by_cases hkj : k = j
    · subst hkj
      simp [hj]
    · simp [hkj]

theorem foldl_takeOver_flagged {ks : List ChuteId} (hk : k ∈ ks) (s : State) :
    (ks.foldl (fun s k => takeOver k c s) s).flagged .shore .standbyTakeover = true := by
  induction ks generalizing s with
  | nil => cases hk
  | cons j r ih =>
    by_cases hkj : k = j
    · refine (foldl_moves (fun u i => takeOver_moves i c u) r _).flags _ _ ?_
      exact flagged_raise _ (Scope.names_shore _) _
    · exact ih ((List.mem_cons.mp hk).resolve_left hkj) _

/-- The standbys that take over a chute at its entry to FULL. -/
def State.idleCovers (s : State) (c : ChuteId) : List ChuteId :=
  allChutes.filter fun k => (s.chute k).canTakeOver && (s.chute k).cfg.cover.contains c

theorem mem_idleCovers : k ∈ s.idleCovers c ↔ s.idleCover k c := by
  simp only [State.idleCovers, List.mem_filter, allChutes, List.mem_finRange, true_and, Bool.and_eq_true,
    Chute.canTakeOver, State.idleCover, decide_eq_true_iff, Bool.not_eq_true', List.contains_iff_mem, and_assoc]

theorem nodup_idleCovers (s : State) (c : ChuteId) : (s.idleCovers c).Nodup :=
  (List.nodup_finRange 48).sublist List.filter_sublist

theorem coverFull_of_serving (h : (s.chute c).servesUnreleased = true) :
    coverFull c s = (s.idleCovers c).foldl (fun s k => takeOver k c s) s := if_pos h

theorem coverFull_of_not (h : (s.chute c).servesUnreleased = false) : coverFull c s = s :=
  if_neg (by rw [h]; nofun)

theorem servesUnreleased_iff {x : Chute} : x.servesUnreleased = true ↔
    x.cfg.role = .sort ∧ x.group.isSome = true ∧ x.released = false := by
  simp [Chute.servesUnreleased, and_assoc]

theorem not_mem_idleCovers_self (h : (s.chute c).servesUnreleased = true) : c ∉ s.idleCovers c := fun hc => by
  have hrole := (mem_idleCovers.mp hc).1
  rw [(servesUnreleased_iff.mp h).1] at hrole
  cases hrole

/-- R123: an idle standby that covers the chute takes its group over. -/
theorem coverFull_taken (hserves : (s.chute c).servesUnreleased = true) (h : s.idleCover k c) :
    (coverFull c s).chute k = (s.chute k).takesOver c (s.chute c).group ∧
      (coverFull c s).flagged .shore .standbyTakeover = true := by
  rw [coverFull_of_serving hserves,
    foldl_takeOver_chute (nodup_idleCovers s c) (not_mem_idleCovers_self hserves), if_pos (mem_idleCovers.mpr h)]
  exact ⟨rfl, foldl_takeOver_flagged (mem_idleCovers.mpr h) s⟩

/-- R123: every other chute stands. -/
theorem coverFull_stands (h : (s.chute c).servesUnreleased = false ∨ ¬ s.idleCover k c) :
    (coverFull c s).chute k = s.chute k := by
  cases hserves : (s.chute c).servesUnreleased with
  | false => rw [coverFull_of_not hserves]
  | true =>
    have hk : k ∉ s.idleCovers c := mt mem_idleCovers.mp (h.resolve_left (by rw [hserves]; nofun))
    rw [coverFull_of_serving hserves,
      foldl_takeOver_chute (nodup_idleCovers s c) (not_mem_idleCovers_self hserves), if_neg hk]

theorem coverFull_chute_self (c : ChuteId) (s : State) : (coverFull c s).chute c = s.chute c := by
  cases h : (s.chute c).servesUnreleased with
  | false => exact coverFull_stands (.inl h)
  | true => exact coverFull_stands (.inr (mt mem_idleCovers.mpr (not_mem_idleCovers_self h)))

/-! ### The fill state judged (R118) -/

theorem fillState_eq_full {x : Chute} : x.fillState = .full ↔ x.cfg.capacity ≤ x.fill := by
  unfold Chute.fillState
  split
  · next h => exact iff_of_true rfl h
  · next h => split <;> exact iff_of_false nofun h

/-- A chute that its fill takes to FULL (R118, R123). -/
def Chute.entersFull (x : Chute) : Prop := x.filling = true ∧ x.state ≠ .full ∧ x.cfg.capacity ≤ x.fill

theorem judgeFill_of_entry (h : (s.chute c).entersFull) : judgeFill c s =
    coverFull c (raise .chuteFull (s.chute c).scope (modChute c (fun x => { x with state := x.fillState }) s)) := by
  obtain ⟨hfill, hst, hcap⟩ := h
  have hfull := fillState_eq_full.mpr hcap
  unfold judgeFill
  dsimp only
  rw [if_pos ⟨hfill, by rw [hfull]; exact hst.symm⟩, if_pos hfull]

/-- R118: the chute's state follows its fill units. -/
theorem judgeFill_chute_self (c : ChuteId) (s : State) : (judgeFill c s).chute c =
    { s.chute c with state := if (s.chute c).filling then (s.chute c).fillState else (s.chute c).state } := by
  unfold judgeFill
  dsimp only
  split
  · next h =>
    rw [if_pos h.1]
    split
    · exact (coverFull_chute_self ..).trans (modChute_chute_self ..)
    · rw [State.chute, raiseIf_chutes]
      exact modChute_chute_self ..
  · next h =>
    split
    · next hfill => rw [not_ne_iff.mp fun hne => h ⟨hfill, hne⟩]
    · rfl

/-- R118: a chute that does not enter FULL leaves the other chutes. -/
theorem judgeFill_chute_ne (h : ¬ (s.chute c).entersFull) (hk : k ≠ c) : (judgeFill c s).chute k = s.chute k := by
  unfold judgeFill
  dsimp only
  split
  · next hmoves =>
    split
    · next hfull =>
      exact absurd ⟨hmoves.1, fun hst => hmoves.2 (hfull.trans hst.symm), fillState_eq_full.mp hfull⟩ h
    · rw [State.chute, raiseIf_chutes]
      exact modChute_chute_ne hk ..
  · rfl

/-- R118: a rise to NEAR_FULL is noticed. -/
theorem judgeFill_nearFull (hst : (s.chute c).state = .isOpen) (hnear : (s.chute c).cfg.nearFull ≤ (s.chute c).fill)
    (hcap : (s.chute c).fill < (s.chute c).cfg.capacity) :
    (judgeFill c s).flagged .shore .chuteNearFull = true := by
  have hfs : (s.chute c).fillState = .nearFull := by
    rw [Chute.fillState, if_neg (not_le.mpr hcap), if_pos hnear]
  have hfill : (s.chute c).filling = true := by simp [Chute.filling, hst]
  unfold judgeFill
  dsimp only
  rw [if_pos ⟨hfill, by rw [hfs, hst]; decide⟩, if_neg (by rw [hfs]; decide)]
  exact flagged_raiseIf (by simp [hfs, hst]) _ (Scope.names_shore _) _

/-! ### The chute that a bag is tilted into (R145, R146) -/

/-- The record of a chute as a bag is tilted into it, its state not judged. -/
def Chute.tilted (tick units : Nat) (x : Chute) : Chute :=
  { x with
    pulseEnd := some (tick + x.cfg.pulse), fill := x.fill + units, committed := x.committed - units }

/-- A bag tilted into a chute, whose fill is not judged yet. -/
def tiltUnjudged (c : ChuteId) (n : Nat) (s : State) : State :=
  modChute c (fun x => { x with fill := x.fill + n, committed := x.committed - n })
    (putChute c { s.chute c with pulseEnd := some (s.clock.tick + (s.chute c).cfg.pulse) } s)

/-- A bag tilted into a chute, which is judged for its fill. -/
def tilt (c : ChuteId) (n : Nat) (s : State) : State := judgeFill c (tiltUnjudged c n s)

section Tilt
variable {n : Nat}

theorem tiltUnjudged_chute_self (c : ChuteId) (n : Nat) (s : State) :
    (tiltUnjudged c n s).chute c = (s.chute c).tilted s.clock.tick n := by
  rw [tiltUnjudged, modChute_chute_self, putChute_chute]
  rfl

theorem tiltUnjudged_chute_ne (h : k ≠ c) (n : Nat) (s : State) : (tiltUnjudged c n s).chute k = s.chute k := by
  rw [tiltUnjudged, modChute_chute_ne h, putChute_chute_ne _ _ _ _ h]

theorem tilt_chute_self (c : ChuteId) (n : Nat) (s : State) : (tilt c n s).chute c =
    { (s.chute c).tilted s.clock.tick n with
      state := if (s.chute c).filling then ((s.chute c).tilted s.clock.tick n).fillState else (s.chute c).state } := by
  rw [tilt, judgeFill_chute_self, tiltUnjudged_chute_self]
  rfl

theorem tilt_frame (c : ChuteId) (n : Nat) (s : State) : (tilt c n s).sansChutes = s.sansChutes := by
  rw [tilt, judgeFill_frame, tiltUnjudged, modChute_frame, putChute_frame]

/-- R118: a tilt that fills the chute is noticed, and its covers judged. -/
theorem tilt_of_entry (h : ((s.chute c).tilted s.clock.tick n).entersFull) : ∃ v : State,
    tilt c n s = coverFull c v ∧ v.flagged .shore .chuteFull = true ∧ (∀ k, k ≠ c → v.chute k = s.chute k) ∧
      v.chute c = { (s.chute c).tilted s.clock.tick n with state := .full } := by
  have hentry : ((tiltUnjudged c n s).chute c).entersFull := (tiltUnjudged_chute_self c n s).symm ▸ h
  refine ⟨raise .chuteFull ((tiltUnjudged c n s).chute c).scope
      (modChute c (fun x => { x with state := x.fillState }) (tiltUnjudged c n s)),
    judgeFill_of_entry hentry, flagged_raise _ (Scope.names_shore _) _, fun k hk => ?_, ?_⟩
  · rw [State.chute, raise_chutes, ← State.chute, modChute_chute_ne hk, tiltUnjudged_chute_ne hk]
  · rw [State.chute, raise_chutes, ← State.chute, modChute_chute_self, tiltUnjudged_chute_self]
    dsimp only
    rw [fillState_eq_full.mpr h.2.2]

/-- R123: at the entry to FULL an idle standby that covers the chute takes it over. -/
theorem tilt_taken (h : ((s.chute c).tilted s.clock.tick n).entersFull)
    (hserves : (s.chute c).servesUnreleased = true) (hk : k ≠ c) (hcover : s.idleCover k c) :
    (tilt c n s).chute k = (s.chute k).takesOver c (s.chute c).group ∧
      (tilt c n s).flagged .shore .standbyTakeover = true := by
  obtain ⟨v, heq, -, hothers, hself⟩ := tilt_of_entry h
  have htaken := coverFull_taken (s := v) (c := c) (k := k) (by rw [hself]; exact hserves)
    (by rw [State.idleCover, hothers k hk]; exact hcover)
  rw [heq, ← hothers k hk]
  rw [hself] at htaken
  exact htaken

/-- R123: every other chute stands. -/
theorem tilt_stands (hk : k ≠ c) (h : ¬ ((s.chute c).tilted s.clock.tick n).entersFull ∨
    (s.chute c).servesUnreleased = false ∨ ¬ s.idleCover k c) : (tilt c n s).chute k = s.chute k := by
  by_cases hentry : ((s.chute c).tilted s.clock.tick n).entersFull
  · obtain ⟨v, heq, -, hothers, hself⟩ := tilt_of_entry hentry
    rw [heq, ← hothers k hk]
    refine coverFull_stands ((h.resolve_left (not_not.mpr hentry)).imp (fun h => ?_) fun h => ?_)
    · rw [hself]
      exact h
    · rw [State.idleCover, hothers k hk]
      exact h
  · rw [tilt, judgeFill_chute_ne (by rw [tiltUnjudged_chute_self]; exact hentry) hk, tiltUnjudged_chute_ne hk]

end Tilt

/-! ### The confirm window opened (R147) -/

section Window
variable {w o : ConfirmWindow} {later ws rest : List ConfirmWindow}

/-- The confirm window that a fire opens. -/
def State.windowFor (s : State) (c : ChuteId) (t : Nat) : ConfirmWindow :=
  ⟨t, s.clock.tick + (s.chute c).cfg.window⟩

theorem setWindows_windows (c : ChuteId) (ws : List ConfirmWindow) (s : State) :
    ((setWindows c ws s).chute c).windows = ws := by rw [setWindows, putChute_chute]

theorem setWindows_tray (c : ChuteId) (ws : List ConfirmWindow) (j : Nat) (s : State) :
    (setWindows c ws s).tray j = s.tray j := rfl

theorem closeUnconfirmed_chutes (c : ChuteId) (w : ConfirmWindow) (later : List ConfirmWindow) (s : State) :
    (closeUnconfirmed c w later s).chutes = s.chutes := by
  unfold closeUnconfirmed
  split
  · split <;> rfl
  all_goals rfl

theorem closeUnconfirmed_fireQueue (c : ChuteId) (w : ConfirmWindow) (later : List ConfirmWindow) (s : State) :
    (closeUnconfirmed c w later s).fireQueue = s.fireQueue := by
  unfold closeUnconfirmed
  split
  · split <;> rfl
  all_goals rfl

theorem closeUnconfirmed_tray_ne {j : Nat} (h : j ≠ w.tray) (c : ChuteId) (later : List ConfirmWindow) (s : State) :
    (closeUnconfirmed c w later s).tray j = s.tray j := by
  unfold closeUnconfirmed
  split
  · split
    · exact putTray_tray_ne _ _ _ _ h
    · rfl
  all_goals rfl

/-- R150: a window whose tray a later one names is not the tray's own (log 17). -/
theorem closeUnconfirmed_of_later {v : ConfirmWindow} (hv : v ∈ later) (h : v.tray = w.tray) (c : ChuteId)
    (s : State) : closeUnconfirmed c w later s = s := by
  unfold closeUnconfirmed
  split
  · refine if_neg fun hown => ?_
    have hne := List.all_eq_true.mp hown.2 v hv
    simp [h] at hne
  all_goals rfl

theorem openWindow_room (h : (s.chute c).windows.length < 4) :
    openWindow c t s = setWindows c ((s.chute c).windows ++ [s.windowFor c t]) s := by
  unfold openWindow
  dsimp only
  split
  · next o r hw =>
    rw [hw] at h ⊢
    exact if_neg (not_le.mpr h)
  · next hw =>
    rw [hw]
    rfl

/-- R147: on a list of 4 or more the oldest window makes room. -/
theorem openWindow_full (hw : (s.chute c).windows = o :: rest) (h : 4 ≤ (s.chute c).windows.length) :
    openWindow c t s = closeUnconfirmed c o (rest ++ [s.windowFor c t])
      (setWindows c (rest ++ [s.windowFor c t]) s) := by
  unfold openWindow
  dsimp only
  rw [hw] at h
  split
  · next o' r hw' =>
    obtain ⟨rfl, rfl⟩ := List.cons.inj (hw.symm.trans hw')
    exact if_pos h
  · next hw' => cases hw.symm.trans hw'

/-- The window list of a chute once a window has opened. -/
theorem openWindow_cases (c : ChuteId) (t : Nat) (s : State) :
    (∃ ws, openWindow c t s = setWindows c ws s) ∨
      ∃ o rest, openWindow c t s = closeUnconfirmed c o (rest ++ [s.windowFor c t])
        (setWindows c (rest ++ [s.windowFor c t]) s) := by
  by_cases h : (s.chute c).windows.length < 4
  · exact .inl ⟨_, openWindow_room h⟩
  · cases hw : (s.chute c).windows with
    | nil =>
      rw [hw] at h
      exact absurd (by decide) h
    | cons o rest => exact .inr ⟨o, rest, openWindow_full hw (not_lt.mp h)⟩

theorem openWindow_chutes (c : ChuteId) (t : Nat) (s : State) :
    ∃ ws, (openWindow c t s).chutes = (setWindows c ws s).chutes := by
  rcases openWindow_cases c t s with ⟨ws, h⟩ | ⟨o, rest, h⟩
  · exact ⟨ws, congrArg State.chutes h⟩
  · exact ⟨_, (congrArg State.chutes h).trans (closeUnconfirmed_chutes ..)⟩

theorem openWindow_fireQueue (c : ChuteId) (t : Nat) (s : State) : (openWindow c t s).fireQueue = s.fireQueue := by
  rcases openWindow_cases c t s with ⟨ws, h⟩ | ⟨o, rest, h⟩
  · rw [h]
    rfl
  · exact (congrArg State.fireQueue h).trans (closeUnconfirmed_fireQueue ..)

theorem openWindow_chute_self (c : ChuteId) (t : Nat) (s : State) :
    ∃ ws, (openWindow c t s).chute c = { s.chute c with windows := ws } := by
  obtain ⟨ws, h⟩ := openWindow_chutes c t s
  exact ⟨ws, by rw [State.chute, h]; exact putChute_chute ..⟩

theorem openWindow_chute_ne (hk : k ≠ c) (t : Nat) (s : State) : (openWindow c t s).chute k = s.chute k := by
  obtain ⟨ws, h⟩ := openWindow_chutes c t s
  rw [State.chute, h]
  exact putChute_chute_ne _ _ _ _ hk

/-- The tray of the window opened is not closed with the oldest. -/
theorem openWindow_tray_self (c : ChuteId) (t : Nat) (s : State) : (openWindow c t s).tray t = s.tray t := by
  rcases openWindow_cases c t s with ⟨ws, h⟩ | ⟨o, rest, h⟩
  · rw [h]
    rfl
  · rw [h]
    by_cases ho : o.tray = t
    · rw [closeUnconfirmed_of_later (v := s.windowFor c t) (by simp) ho.symm]
      rfl
    · rw [closeUnconfirmed_tray_ne (Ne.symm ho)]
      rfl

end Window

/-! ### The fire of a record (R146) -/

section Fire
variable {r : FireRecord} {b : BagRecord}

/-- The state in which a fire opens its confirm window. -/
def firedTray (r : FireRecord) (b : BagRecord) (s : State) : State :=
  putTray r.tray (.fired b r.chute ((tilt r.chute (unitsOf b.size) s).chute r.chute).gen)
    (tilt r.chute (unitsOf b.size) s)

theorem fireRecord_armed (h : s.tray r.tray = .armed b r.chute) :
    fireRecord r s = openWindow r.chute r.tray (firedTray r b s) := by
  simp only [fireRecord, h, if_pos]
  rfl

/-- R146: a record whose tray is not ARMED with it leaves everything. -/
theorem fireRecord_of_not (h : ∀ b, s.tray r.tray ≠ .armed b r.chute) : fireRecord r s = s := by
  unfold fireRecord
  split
  · next b c hb =>
    rw [if_neg]
    rintro rfl
    exact h b hb
  all_goals rfl

theorem fireHead_of_due {q : List FireRecord} (hq : s.fireQueue = r :: q) (hdue : r.due ≤ s.clock.tick) :
    fireHead s = fireRecord r { s with fireQueue := q } := by
  simp only [fireHead, hq, if_pos hdue]

theorem firedTray_chute (r : FireRecord) (b : BagRecord) (k : ChuteId) (s : State) :
    (firedTray r b s).chute k = (tilt r.chute (unitsOf b.size) s).chute k := rfl

theorem firedTray_flagged (r : FireRecord) (b : BagRecord) (l : LinkId) (n : Notice) (s : State) :
    (firedTray r b s).flagged l n = (tilt r.chute (unitsOf b.size) s).flagged l n := rfl

theorem firedTray_fireQueue (r : FireRecord) (b : BagRecord) (s : State) :
    (firedTray r b s).fireQueue = s.fireQueue :=
  (congrArg State.fireQueue (tilt_frame r.chute (unitsOf b.size) s) :)

theorem tilt_loop (c : ChuteId) (n : Nat) (s : State) : (tilt c n s).loop = s.loop :=
  (congrArg State.loop (tilt_frame c n s) :)

theorem tray_armed_lt {c : ChuteId} (h : s.tray t = .armed b c) : t < s.T := by
  by_contra hle
  rw [tray_of_le (not_lt.mp hle)] at h
  cases h

/-- R146: the tray becomes FIRED with the chute's present generation. -/
theorem firedTray_tray_self (h : s.tray r.tray = .armed b r.chute) :
    (firedTray r b s).tray r.tray = .fired b r.chute (s.chute r.chute).gen := by
  have ht : r.tray < (tilt r.chute (unitsOf b.size) s).T := by
    rw [State.T, tilt_loop]
    exact tray_armed_lt h
  rw [firedTray, putTray_tray _ _ _ ht, tilt_chute_self]
  rfl

theorem firedTray_tray_ne {j : Nat} (hj : j ≠ r.tray) (b : BagRecord) (s : State) :
    (firedTray r b s).tray j = s.tray j := by
  rw [firedTray, putTray_tray_ne _ _ _ _ hj, tray_of_loop (tilt_loop ..)]

theorem firedTray_windows (r : FireRecord) (b : BagRecord) (s : State) :
    ((firedTray r b s).chute r.chute).windows = (s.chute r.chute).windows := by
  rw [firedTray_chute, tilt_chute_self]
  rfl

theorem firedTray_windowFor (r : FireRecord) (b : BagRecord) (s : State) :
    (firedTray r b s).windowFor r.chute r.tray = s.windowFor r.chute r.tray := by
  have hclock : (firedTray r b s).clock = s.clock := (congrArg State.clock (tilt_frame r.chute (unitsOf b.size) s) :)
  rw [State.windowFor, hclock, firedTray_chute, tilt_chute_self]
  rfl

theorem fireRecord_fireQueue (h : s.tray r.tray = .armed b r.chute) : (fireRecord r s).fireQueue = s.fireQueue := by
  rw [fireRecord_armed h, openWindow_fireQueue, firedTray_fireQueue]

/-- R146: the chute fired into, but for its confirm list. -/
theorem fireRecord_chute_self (h : s.tray r.tray = .armed b r.chute) : ∃ ws, (fireRecord r s).chute r.chute =
    { (tilt r.chute (unitsOf b.size) s).chute r.chute with windows := ws } := by
  rw [fireRecord_armed h, ← firedTray_chute]
  exact openWindow_chute_self ..

theorem fireRecord_chute_ne (h : s.tray r.tray = .armed b r.chute) (hk : k ≠ r.chute) :
    (fireRecord r s).chute k = (tilt r.chute (unitsOf b.size) s).chute k := by
  rw [fireRecord_armed h, openWindow_chute_ne hk, firedTray_chute]

theorem fireRecord_flagged (h : s.tray r.tray = .armed b r.chute) {l : LinkId} {n : Notice}
    (hn : (tilt r.chute (unitsOf b.size) s).flagged l n = true) : (fireRecord r s).flagged l n = true := by
  rw [fireRecord_armed h]
  exact (openWindow_moves r.chute r.tray (firedTray r b s)).flags l n ((firedTray_flagged ..).trans hn)

theorem fireRecord_tray_self (h : s.tray r.tray = .armed b r.chute) :
    (fireRecord r s).tray r.tray = .fired b r.chute (s.chute r.chute).gen := by
  rw [fireRecord_armed h, openWindow_tray_self, firedTray_tray_self h]

/-- R147: a window is appended to a list that has room. -/
theorem fireRecord_room (h : s.tray r.tray = .armed b r.chute) (hroom : (s.chute r.chute).windows.length < 4) :
    ((fireRecord r s).chute r.chute).windows = (s.chute r.chute).windows ++ [s.windowFor r.chute r.tray] ∧
      ∀ j, j ≠ r.tray → (fireRecord r s).tray j = s.tray j := by
  rw [fireRecord_armed h, openWindow_room (by rw [firedTray_windows]; exact hroom), setWindows_windows,
    firedTray_windows, firedTray_windowFor]
  exact ⟨rfl, fun j hj => (setWindows_tray ..).trans (firedTray_tray_ne hj ..)⟩

/-- R147: on a list of 4 the oldest window makes room. -/
theorem fireRecord_full {o : ConfirmWindow} {rest : List ConfirmWindow} (h : s.tray r.tray = .armed b r.chute)
    (hw : (s.chute r.chute).windows = o :: rest) (hfull : (s.chute r.chute).windows.length = 4) :
    ((fireRecord r s).chute r.chute).windows = rest ++ [s.windowFor r.chute r.tray] ∧
      ∀ j, j ≠ r.tray → j ≠ o.tray → (fireRecord r s).tray j = s.tray j := by
  have hws := firedTray_windows r b s
  rw [fireRecord_armed h, openWindow_full (hws.trans hw) (by rw [hws]; exact hfull.ge), firedTray_windowFor]
  refine ⟨?_, fun j hj ho => ?_⟩
  · rw [State.chute, closeUnconfirmed_chutes]
    exact setWindows_windows ..
  · rw [closeUnconfirmed_tray_ne ho, setWindows_tray, firedTray_tray_ne hj]

end Fire

/-- Settles O35. -/
theorem fireTakesTheArmedTray : Obligations.fireTakesTheArmedTray := by
  intro s r q hq hdue
  have hexec : exec .fire s = .next (fireRecord r { s with fireQueue := q }) :=
    congrArg Host.Outcome.next (fireHead_of_due hq hdue)
  rw [hexec]
  refine ⟨fun hno => congrArg Host.Outcome.next (fireRecord_of_not hno), fun b hb => ?_⟩
  have harmed : State.tray { s with fireQueue := q } r.tray = .armed b r.chute := hb
  obtain ⟨ws, hself⟩ := fireRecord_chute_self harmed
  rw [tilt_chute_self] at hself
  have hframe := eq_of_sansSelection (fireRecord_frame r { s with fireQueue := q })
  rw [fireRecord_fireQueue harmed] at hframe
  refine ⟨_, rfl, hframe, (fireRecord_moves ..).trays, fireRecord_tray_self harmed, ?_, ?_, ?_, ?_, fun hfill => ?_,
    fun hfill => ?_, fun hfill hst hcap => fireRecord_flagged harmed ?_,
    fun hst hnear hcap => fireRecord_flagged harmed ?_, fun k hk => ⟨fun hfill hst hcap hrole hg hrel hcover => ?_,
      fun hno => (fireRecord_chute_ne harmed hk).trans (tilt_stands hk ?_)⟩,
    fun hroom => fireRecord_room harmed hroom,
    fun o rest hw hfull => fireRecord_full harmed hw hfull⟩
  · rw [hself]
    rfl
  · rw [hself]
    rfl
  · rw [hself]
    rfl
  · rw [State.tiltOutput, ← State.chute, hself]
    rfl
  · rw [hself]
    exact if_neg (ne_true_of_eq_false hfill)
  · rw [hself]
    exact if_pos hfill
  · obtain ⟨v, heq, hflag, -⟩ := tilt_of_entry (s := { s with fireQueue := q }) (c := r.chute)
      (n := unitsOf b.size) ⟨hfill, hst, hcap⟩
    rw [heq]
    exact (coverFull_moves ..).flags _ _ hflag
  · have hsame := tiltUnjudged_chute_self r.chute (unitsOf b.size) { s with fireQueue := q }
    rw [tilt]
    exact judgeFill_nearFull (by rw [hsame]; exact hst) (by rw [hsame]; exact hnear) (by rw [hsame]; exact hcap)
  · have htaken := tilt_taken (s := { s with fireQueue := q }) (n := unitsOf b.size) ⟨hfill, hst, hcap⟩
      (servesUnreleased_iff.mpr ⟨hrole, hg, hrel⟩) hk hcover
    exact ⟨(fireRecord_chute_ne harmed hk).trans htaken.1, fireRecord_flagged harmed htaken.2⟩
  · rw [or_iff_not_imp_left, not_not]
    rintro ⟨hfill, hst, hcap⟩
    refine (or_iff_not_imp_right.mpr fun hcover => Bool.eq_false_of_not_eq_true fun hserves => ?_)
    obtain ⟨hrole, hg, hrel⟩ := servesUnreleased_iff.mp hserves
    rcases hno with h | h | h | h | h | h | h
    · exact Bool.noConfusion (h.symm.trans hfill)
    · exact hst h
    · exact absurd hcap (not_le.mpr h)
    · exact h hrole
    · exact Option.isSome_iff_ne_none.mp hg h
    · exact Bool.noConfusion (h.symm.trans hrel)
    · exact hcover h

end Sys2Proof.Machine
end

/-! ## Proofs: divert timing and the part's own clock (chapter 7) -/

section
/-! PROOF. The hall clock's second and the end of a tilt pulse (O34). -/

namespace Sys2Proof.Machine

/-- A second counts once the tick base stands 10000 ticks past the last one (R137). -/
theorem exec_hallClockSecond_due {s : State} (h : s.clock.secondAt + 10000 ≤ s.clock.tick) :
    exec .hallClockSecond s = .next { s with
      clock := ⟨s.clock.tick, s.clock.secondAt + 10000, s.clock.seconds + 1⟩ } :=
  congrArg Host.Outcome.next (if_pos h)

/-- A pulse whose end tick is reached is released (R145). -/
theorem exec_tiltPulseEnd_due {s : State} {c : ChuteId} {e : Nat} (hpulse : (s.chute c).pulseEnd = some e)
    (hdue : e ≤ s.clock.tick) :
    exec (.tiltPulseEnd c) s = .next (putChute c { s.chute c with pulseEnd := none } s) := by
  rw [exec, execTiltPulseEnd, hpulse]
  exact congrArg Host.Outcome.next (if_pos hdue)

/-- Settles O34. -/
theorem hallClockAndTiltPulse : Obligations.hallClockAndTiltPulse := fun _ =>
  ⟨exec_hallClockSecond_due, fun _ _ => exec_tiltPulseEnd_due⟩

end Sys2Proof.Machine
end

section
/-! PROOF. The step of an empty queue: what is due, the byte times, the characters, the tick (O2). -/

namespace Sys2Proof.Machine

variable {s : State}

/-! ### What the step looks for -/

/-- A merge is empty only when every thread is. -/
theorem merged_eq_nil_iff {α : Type} {choices : List Nat} {ts : List (List α)} :
    merged choices ts = [] ↔ ts.flatten = [] := by
  rw [← List.length_eq_zero_iff, (merged_perm choices ts).length_eq, List.length_eq_zero_iff]

theorem mem_allLinks (l : LinkId) : l ∈ allLinks := by cases l <;> decide

theorem mem_allInds (i : IndId) : i ∈ allInds := by cases i <;> decide

theorem bytesWait_iff : s.bytesWait = true ↔ ∃ l, s.incoming.get l ≠ [] := by
  simp [State.bytesWait, mem_allLinks]

theorem charThreads_isEmpty_iff : s.charThreads.isEmpty = true ↔ ∀ i, s.arriving.get i = [] := by
  simp [State.charThreads, mem_allInds]

/-- The request a port in TAKING holds is among what is due (R186). -/
theorem taken_mem_due {l : LinkId} {abandoned : Bool} {c : Instr} (hst : (s.port l).state = .taking abandoned)
    (hreq : decodeRequest l (s.port l).request = some c) : [c] ∈ s.due := by
  have htaken : s.takenAt l = [c] := by rw [State.takenAt, hst]; exact congrArg Option.toList hreq
  exact List.mem_append_right _ (List.mem_map.mpr ⟨l, mem_allLinks l, htaken⟩)

/-! ### The branches of the step -/

theorem step_of_no_command (h : s.pending = []) : step s = .next (idle s) := by
  rw [step, h]

/-- R193: the tick base stands while RESET_N is low. -/
theorem idle_resetLow (h : s.resetLow = true) : idle s = s := if_pos h

theorem idle_of_due (hlow : s.resetLow = false) (hdue : s.due.flatten ≠ []) :
    idle s = { drawOrder s with pending := merged (Config.freeOrder s.freeCount) s.due } := by
  rw [idle, if_neg (ne_true_of_eq_false hlow)]
  split
  · next hm => rw [hm]
  · next hm => exact absurd (merged_eq_nil_iff.mp hm) hdue

theorem idle_of_none_due (hlow : s.resetLow = false) (hdue : s.due.flatten = []) :
    idle s = if s.bytesWait then clockBytes s else if s.charThreads.isEmpty then tickOn s else receiveChars s := by
  rw [idle, if_neg (ne_true_of_eq_false hlow), merged_eq_nil_iff.mpr hdue]

theorem idle_of_bytes (hlow : s.resetLow = false) (hdue : s.due.flatten = []) {l : LinkId}
    (hl : s.incoming.get l ≠ []) : idle s = clockBytes s := by
  rw [idle_of_none_due hlow hdue, if_pos (bytesWait_iff.mpr ⟨l, hl⟩)]

theorem idle_of_no_bytes (hlow : s.resetLow = false) (hdue : s.due.flatten = [])
    (hbytes : ∀ l, s.incoming.get l = []) :
    idle s = if s.charThreads.isEmpty then tickOn s else receiveChars s := by
  rw [idle_of_none_due hlow hdue, if_neg fun h => (bytesWait_iff.mp h).elim fun l hl => hl (hbytes l)]

theorem idle_of_chars (hlow : s.resetLow = false) (hdue : s.due.flatten = [])
    (hbytes : ∀ l, s.incoming.get l = []) {i : IndId} (hi : s.arriving.get i ≠ []) : idle s = receiveChars s := by
  rw [idle_of_no_bytes hlow hdue hbytes, if_neg fun h => hi (charThreads_isEmpty_iff.mp h i)]

theorem idle_of_quiet (hlow : s.resetLow = false) (hdue : s.due.flatten = [])
    (hbytes : ∀ l, s.incoming.get l = []) (hchars : ∀ i, s.arriving.get i = []) : idle s = tickOn s := by
  rw [idle_of_no_bytes hlow hdue hbytes, if_pos (charThreads_isEmpty_iff.mpr hchars)]

/-! ### One byte time at each link (R186, R194) -/

/-- A link as the byte clock sees it: the byte times that wait, and the port. -/
def State.wire (s : State) (l : LinkId) : List ByteTime × Port := (s.incoming.get l, s.port l)

/-- A wire after one byte time, if one waits. -/
def clockedWire : List ByteTime × Port → List ByteTime × Port
  | (v :: rest, x) => (rest, x.clockIn (byteOfLevels v))
  | ([], x) => ([], x)

/-- A byte time clocks its own link and leaves the others. -/
theorem clockByte_wire (s : State) (l k : LinkId) :
    (clockByte s l).wire k = if k = l then clockedWire (s.wire k) else s.wire k := by
  unfold clockByte
  split
  · next v rest hl =>
    split
    · next hk => subst hk; simp [State.wire, clockedWire, hl]
    · next hk => exact Prod.ext (PerLink.get_set_ne _ _ _ _ hk) (setPort_port_ne _ _ _ _ hk)
  · next hl =>
    split
    · next hk => subst hk; simp [State.wire, clockedWire, hl]
    · rfl

theorem foldl_clockByte_wire {ls : List LinkId} (hls : ls.Nodup) (k : LinkId) (s : State) :
    (ls.foldl clockByte s).wire k = if k ∈ ls then clockedWire (s.wire k) else s.wire k := by
  induction ls generalizing s with
  | nil => simp
  | cons l r ih =>
    obtain ⟨hl, hr⟩ := List.nodup_cons.mp hls
    rw [List.foldl_cons, ih hr, clockByte_wire]
    by_cases hkl : k = l
    · subst hkl
      simp [hl]
    · simp [hkl]

theorem clockBytes_wire (s : State) (l : LinkId) : (clockBytes s).wire l = clockedWire (s.wire l) := by
  rw [clockBytes, foldl_clockByte_wire (by decide), if_pos (mem_allLinks l)]

theorem clockBytes_silent {l : LinkId} (h : s.incoming.get l = []) :
    (clockBytes s).incoming.get l = [] ∧ (clockBytes s).port l = s.port l := by
  have hwire := clockBytes_wire s l
  rw [State.wire, State.wire, h] at hwire
  exact Prod.mk.inj hwire

theorem clockBytes_clocked {l : LinkId} {v : ByteTime} {rest : List ByteTime} (h : s.incoming.get l = v :: rest) :
    (clockBytes s).incoming.get l = rest ∧ (clockBytes s).port l = (s.port l).clockIn (byteOfLevels v) := by
  have hwire := clockBytes_wire s l
  rw [State.wire, State.wire, h] at hwire
  exact Prod.mk.inj hwire

/-! ### One character at each induction line (R30) -/

theorem nextChar_silent {i : IndId} (h : s.arriving.get i = []) : nextChar s i = s := by
  rw [nextChar, h]

theorem nextChar_of_cons {i : IndId} {c : LineChar} {rest : List LineChar} (h : s.arriving.get i = c :: rest) :
    nextChar s i = receiveChar i c { s with arriving := s.arriving.set i rest } := by
  rw [nextChar, h]

theorem receiveChars_order_nodup (s : State) : (merged (Config.freeOrder s.freeCount) s.charThreads).Nodup :=
  (receiveChars_order s).nodup_iff.mpr (List.Nodup.filter _ (by decide))

theorem mem_receiveChars_order {i : IndId} :
    i ∈ merged (Config.freeOrder s.freeCount) s.charThreads ↔ s.arriving.get i ≠ [] := by
  simp [(receiveChars_order s).mem_iff, mem_allInds]

/-- Settles O2. -/
theorem idleStepIsTheClock : Obligations.idleStepIsTheClock := by
  intro s hempty
  rw [step_of_no_command hempty]
  refine ⟨fun hlow => ?reset, fun hlow hdue hbytes hchars => ?tick, fun hlow hdue k hk => ?bytes,
    fun hlow hdue hbytes k hk => ?chars, fun i => ⟨nextChar_silent, fun _ _ => nextChar_of_cons⟩,
    fun hlow hdue => ?due, fun l abandoned c => taken_mem_due⟩
  case reset => rw [idle_resetLow hlow]
  case tick => rw [idle_of_quiet hlow hdue hbytes hchars, tickOn]
  case bytes =>
    rw [idle_of_bytes hlow hdue hk]
    exact ⟨_, rfl, clockBytes_frame s, fun l => ⟨clockBytes_silent, fun _ _ => clockBytes_clocked⟩⟩
  case chars =>
    rw [idle_of_chars hlow hdue hbytes hk]
    exact ⟨_, receiveChars_order_nodup s, fun _ => mem_receiveChars_order, rfl⟩
  case due =>
    rw [idle_of_due hlow hdue]
    exact ⟨_, rfl, merged_perm _ _, fun _ => sublist_merged _⟩

end Sys2Proof.Machine
end

/-! ## Proofs: strays and the desk (chapter 8) -/

section
/-! SUPPORT. What R153 and R154 hold apart of a stray entry, its id and its tags: few operations touch them, and those
that do append a stray that none of the entries is, or remove an entry. -/

namespace Sys2Proof.Machine

-- Elaborated in turn, as the proof of O14 is, for the memory that the threads' stacks would take.
set_option Elab.async false

/-! ### The marks of the list -/

/-- What tells a stray entry from the others (R153, R154): its id and its tags. -/
structure StrayMark where
  id : BitVec 16
  tag : Option Tag
  tag2 : Option Tag

/-- R153: a tag appears on an entry. -/
def StrayMark.Bears (m : StrayMark) (tag : Tag) : Prop := m.tag = some tag ∨ m.tag2 = some tag

def StrayEntry.mark (e : StrayEntry) : StrayMark := ⟨e.id, e.tag, e.tag2⟩

def State.strayMarks (s : State) : List StrayMark := s.strays.map (·.mark)

/-- The stray law, said of the marks. -/
structure MarksApart (ms : List StrayMark) : Prop where
  room : ms.length ≤ 128
  ids : (ms.map (·.id)).Nodup
  tags : ms.Pairwise fun x y => ∀ tag, x.Bears tag → ¬y.Bears tag

theorem StrayEntry.carries_iff (e : StrayEntry) (tag : Tag) : e.carries tag = true ↔ e.mark.Bears tag := by
  simp [StrayEntry.carries, StrayEntry.mark, StrayMark.Bears]

theorem strayLaw_iff (s : State) : s.strayLaw ↔ MarksApart s.strayMarks := by
  have hids : s.strayMarks.map (·.id) = s.strays.map (·.id) := List.map_map
  have htags : s.strayMarks.Pairwise (fun x y => ∀ tag, x.Bears tag → ¬y.Bears tag) ↔
      s.strays.Pairwise fun x y => ∀ tag, x.carries tag = true → y.carries tag = false := by
    simp only [State.strayMarks, List.pairwise_map, ← StrayEntry.carries_iff, Bool.not_eq_true]
  constructor
  · rintro ⟨hroom, hid, htag⟩
    exact ⟨(List.length_map _).trans_le hroom, hids ▸ hid, htags.mpr htag⟩
  · rintro ⟨hroom, hid, htag⟩
    exact ⟨(List.length_map _).symm.trans_le hroom, hids ▸ hid, htags.mp htag⟩

theorem MarksApart.sublist {ms ns : List StrayMark} (h : MarksApart ms) (hsub : ns.Sublist ms) : MarksApart ns :=
  ⟨hsub.length_le.trans h.room, h.ids.sublist (hsub.map _), h.tags.sublist hsub⟩

/-- A stray that is none of those listed takes a free place. -/
theorem MarksApart.append {ms : List StrayMark} {m : StrayMark} (h : MarksApart ms) (hroom : ms.length < 128)
    (hid : ∀ x ∈ ms, x.id ≠ m.id) (htags : ∀ x ∈ ms, ∀ tag, m.Bears tag → ¬x.Bears tag) :
    MarksApart (ms ++ [m]) where
  room := by simpa using hroom
  ids := by
    rw [List.map_append, List.nodup_append']
    refine ⟨h.ids, List.nodup_singleton _, ?_⟩
    simpa using hid
  tags := by
    rw [List.pairwise_append]
    refine ⟨h.tags, List.pairwise_singleton _ _, fun x hx y hy tag hbears hm => ?_⟩
    obtain rfl := List.mem_singleton.mp hy
    exact htags x hx tag hm hbears

/-! ### States -/

/-- `t` is under the stray law where `s` is. -/
structure State.Lists (s t : State) : Prop where
  law : s.strayLaw → t.strayLaw

theorem State.Lists.refl (s : State) : s.Lists s := ⟨id⟩

theorem State.Lists.trans {s t u : State} (h : s.Lists t) (k : t.Lists u) : s.Lists u := ⟨k.law ∘ h.law⟩

theorem foldl_lists {α : Type} {f : State → α → State} (h : ∀ (s : State) (a : α), s.Lists (f s a))
    (xs : List α) (s : State) : s.Lists (xs.foldl f s) := by
  induction xs generalizing s with
  | nil => exact .refl s
  | cons x r ih => exact (h s x).trans (ih _)

theorem ite_lists {p : Prop} [Decidable p] {s a b : State} (ha : s.Lists a) (hb : s.Lists b) :
    s.Lists (if p then a else b) := by
  split
  · exact ha
  · exact hb

section Lists
variable {s t : State}

theorem State.Lists.of_sublist (h : t.strayMarks.Sublist s.strayMarks) : s.Lists t :=
  ⟨fun hs => (strayLaw_iff t).mpr (((strayLaw_iff s).mp hs).sublist h)⟩

/-- What leaves the stray list. -/
theorem State.Lists.quiet (h : t.strays = s.strays := by rfl) : s.Lists t :=
  .of_sublist (by rw [State.strayMarks, h]; exact .refl _)

/-- What a mask that shows the stray list says is left. -/
theorem State.Lists.of_mask {mask : State → State} (h : mask t = mask s)
    (hmask : ∀ u : State, (mask u).strays = u.strays := by exact fun _ => rfl) : s.Lists t :=
  .quiet ((hmask t).symm.trans ((congrArg State.strays h).trans (hmask s)))

/-- Entries rewritten in what does not tell them apart. -/
theorem State.Lists.of_map {f : StrayEntry → StrayEntry} (h : t.strays = s.strays.map f)
    (hf : ∀ e, (f e).mark = e.mark) : s.Lists t := by
  have hsame : t.strayMarks = s.strayMarks := by
    rw [State.strayMarks, h, List.map_map]
    exact List.map_congr_left fun e _ => hf e
  exact .of_sublist (hsame ▸ .refl _)

end Lists

/-! ### The operations of the stray list -/

theorem modStray_lists {id : BitVec 16} {f : StrayEntry → StrayEntry} (s : State)
    (hf : ∀ e, (f e).mark = e.mark := by exact fun _ => rfl) : s.Lists (modStray id f s) :=
  .of_map rfl fun e => by
    split
    · exact hf e
    · rfl

theorem removeStray_lists (id : BitVec 16) (s : State) : s.Lists (removeStray id s) :=
  .of_sublist (List.filter_sublist.map _)

/-- R155: no entry carries a tag of a stray that none is found for. -/
theorem not_bears_of_carrierOf {q : StrayRequest} {s : State} (h : s.carrierOf q = none) {id : BitVec 16} {tag : Tag}
    (hq : (s.newStray q id).mark.Bears tag) {x : StrayEntry} (hx : x ∈ s.strays) : ¬x.mark.Bears tag := by
  obtain ⟨hfirst, hsecond⟩ := Option.or_eq_none_iff.mp h
  have hfound : s.strayOfTag tag = none := hq.elim (Option.bind_eq_none_iff.mp hfirst tag)
    (Option.bind_eq_none_iff.mp hsecond tag)
  rw [← StrayEntry.carries_iff]
  exact List.find?_eq_none.mp hfound x hx

/-- R155 to R158: a stray that no entry is takes a fresh id, while there is room. -/
theorem recordStray_lists (q : StrayRequest) (s : State) : s.Lists (recordStray q s).state := by
  cases h : s.carrierOf q with
  | some e =>
    rw [recordStray_carried h]
    exact (State.Lists.of_mask (countStray_frame q.slot s)).trans (modStray_lists _)
  | none =>
    rcases lt_or_ge s.strays.length 128 with hlen | hlen
    · rw [recordStray_appended h hlen]
      refine ⟨fun hs => (strayLaw_iff _).mpr ?_⟩
      obtain ⟨k, hid, hfree, -⟩ := nextFreeId_fresh hlen
      have hmarks : MarksApart (s.strayMarks ++ [(s.newStray q s.nextFreeId).mark]) :=
        ((strayLaw_iff s).mp hs).append ((List.length_map _).trans_lt hlen)
          (List.forall_mem_map.mpr fun x hx => (hfree x hx).trans_eq hid.symm)
          (List.forall_mem_map.mpr fun x hx tag hq => not_bears_of_carrierOf h hq hx)
      rwa [State.strayMarks, raise_strays, List.map_append]
    · rw [recordStray_unlisted h hlen]
      exact .quiet

theorem reinductStray_lists (tag : Tag) (sl : Slot) (s : State) : s.Lists (reinductStray tag sl s).state := by
  unfold reinductStray
  split
  · exact modStray_lists s
  · exact .refl s

theorem straySorted_lists (id : Option (BitVec 16)) (s : State) : s.Lists (straySorted id s) := by
  unfold straySorted
  split
  · exact ite_lists (removeStray_lists ..) (.refl s)
  · exact .refl s

theorem strayUntracked_lists (id : Option (BitVec 16)) (s : State) : s.Lists (strayUntracked id s) := by
  unfold strayUntracked
  split
  · exact modStray_lists s
  · exact .refl s

theorem undoStray_lists (u : UndoStray) (s : State) : s.Lists (undoStray u s) := by
  unfold undoStray
  split
  · split
    · exact ite_lists (removeStray_lists ..) (ite_lists (modStray_lists s) (.refl s))
    · exact .refl s
  · split
    · exact ite_lists (modStray_lists s) (.refl s)
    · exact .refl s

theorem matchStray_lists (sl : Slot) (tag : Tag) (s : State) : s.Lists (matchStray sl tag s) := by
  unfold matchStray
  split
  · next e _ => exact .trans (modStray_lists (id := e.id) (f := fun e => { e with state := .matched }) s) .quiet
  · exact .refl s

/-- R164: RESET LOOP marks entries untracked. -/
theorem resetMotion_lists (s : State) : s.Lists (resetMotion s) := by
  rw [resetMotion_eq]
  refine .of_map rfl fun e => ?_
  unfold StrayEntry.loopReset
  split <;> rfl

end Sys2Proof.Machine
end

section
/-! SUPPORT. What the bags on the loop bring about keeps the stray law: each way they reach the stray list is one of its
operations (R90, R155, R160 to R164, R167). -/

namespace Sys2Proof.Machine

-- Elaborated in turn, as the proof of O14 is, for the memory that the threads' stacks would take.
set_option Elab.async false

/-! ### Bags and their entries -/

theorem putTray_lists (t : Nat) (x : Tray) (s : State) : s.Lists (putTray t x s) := .quiet

theorem modEntry_lists (tag : Tag) (f : BagEntry → BagEntry) (s : State) : s.Lists (modEntry tag f s) := .quiet

theorem raise_lists (n : Notice) (sc : Scope) (s : State) : s.Lists (raise n sc s) := .quiet

theorem emptyTray_lists (t : Nat) (s : State) : s.Lists (emptyTray t s) := .of_mask (emptyTray_frame ..)

theorem passToSelection_lists (t : Nat) (s : State) : s.Lists (passToSelection t s) :=
  .of_mask (passToSelection_frame ..)

theorem settleHolds_lists (v u : State) : u.Lists (settleHolds v u) := .of_mask (settleHolds_frame v u)

theorem requestReservation_lists (i : IndId) (s : State) : s.Lists (requestReservation i s) :=
  .of_mask (requestReservation_frame ..)

theorem undoNote_lists (linked : Option Tag) (n : UndoNote) (s : State) : s.Lists (undoNote linked n s) := by
  have hrestored : s.Lists (restoreLinked linked n s) := by
    rw [restoreLinked_eq]
    exact .quiet
  rw [undoNote_def]
  split
  · exact hrestored.trans (undoStray_lists ..)
  · exact hrestored

theorem sortBag_lists (b : BagRecord) (c : ChuteId) (u : Bool) (s : State) : s.Lists (sortBag b c u s) := by
  unfold sortBag
  split
  · exact .trans (.quiet (sortEntry_strays ..)) (straySorted_lists ..)
  · split
    · exact ite_lists (modStray_lists s) (.refl s)
    · exact .refl s

theorem loseBag_lists (b : BagRecord) (s : State) : s.Lists (loseBag b s) := by
  refine .trans ?_ (strayUntracked_lists ..)
  split
  · exact .quiet
  · exact .refl s

/-! ### Classification (R93 to R101) -/

theorem makeStray_lists (t : Nat) (q : StrayRequest) (s : State) : s.Lists (makeStray t q s).state :=
  (recordStray_lists q s).trans .quiet

theorem routeBag_lists (t : Nat) (sl : Slot) (e : BagEntry) (s : State) : s.Lists (routeBag t sl e s).state :=
  .trans (.trans (.quiet (t := linkEntry e.tag s)) (reinductStray_lists ..)) .quiet

theorem classifyEntry_lists (t : Nat) (tag : Tag) (sl : Slot) (e : BagEntry) (s : State) :
    s.Lists (classifyEntry t tag sl e s).state := by
  unfold classifyEntry
  split
  case h_1 | h_2 => exact .trans (raise_lists ..) (makeStray_lists ..)
  all_goals
    split
    · exact routeBag_lists ..
    · split
      · exact .quiet
      · exact makeStray_lists ..

theorem classifyInSlot_lists (t : Nat) (tag : Tag) (sl : Slot) (s : State) :
    s.Lists (classifyInSlot t tag sl s).state := by
  unfold classifyInSlot
  split
  · exact makeStray_lists ..
  · split
    · exact classifyEntry_lists ..
    · split
      · exact .quiet
      · exact makeStray_lists ..

theorem classifyTag_lists (t : Nat) (tag : Tag) (s : State) : s.Lists (classifyTag t tag s).state := by
  unfold classifyTag
  split
  · exact makeStray_lists ..
  · split
    case h_1 | h_2 => exact makeStray_lists ..
    all_goals exact .trans (.of_mask (modBag_frame ..)) (classifyInSlot_lists ..)

theorem classify_lists (t : Nat) (s : State) : s.Lists (classify t s).state := by
  unfold classify
  split
  · exact .refl s
  · split
    · exact makeStray_lists ..
    · split
      · exact makeStray_lists ..
      · exact .trans (.of_mask (modBag_frame ..)) (classifyTag_lists ..)

/-! ### Wakes and the check eye -/

theorem wakeTray_lists (t : Nat) (s : State) : s.Lists (wakeTray t s) := by
  rcases wakeTray_cases t s with ⟨b, -, -, e⟩ | e
  · rw [e]
    exact (classify_lists t s).trans (.trans (.quiet (wakeJudged_strays t s)) (passToSelection_lists ..))
  · rw [e]
    exact .refl s

theorem wakeWhere_lists (sl : Slot) (want : BagRecord → Bool) (s : State) : s.Lists (wakeWhere sl want s) :=
  foldl_lists (fun s t => wakeTray_lists t s) _ s

theorem judgeWait_lists (t : Nat) (s : State) : s.Lists (judgeWait t s) := by
  refine (classify_lists t s).trans ?_
  unfold judgeWait
  dsimp only
  split
  · split
    · exact ite_lists ((makeStray_lists ..).trans (raise_lists ..)) (.refl _)
    · exact .refl _
    · exact .of_mask (raiseExpired_frame ..)
  · exact .refl _

theorem judgeLimit_lists (t : Nat) (s : State) : s.Lists (judgeLimit t s) := by
  unfold judgeLimit
  split
  · refine ite_lists ?_ (.refl s)
    dsimp only
    split
    · exact (makeStray_lists ..).trans (modEntry_lists ..)
    · exact makeStray_lists ..
  · exact .refl s

theorem newPass_lists (t : Nat) (s : State) : s.Lists (newPass t s) := by
  have hpass : s.Lists (modBag t (fun b => { b with passes := min 8 (b.passes + 1) }) s) := .quiet
  rw [newPass_eq]
  refine .trans (.trans ?_ (judgeLimit_lists ..)) (passToSelection_lists ..)
  unfold passJudged
  dsimp only
  split
  · exact ite_lists (hpass.trans (judgeWait_lists ..)) hpass
  · exact hpass

theorem loadOrphan_lists (t : Nat) (s : State) : s.Lists (loadOrphan t s) :=
  .trans (.trans (.of_mask (loadTray_frame ..)) (makeStray_lists ..)) (passToSelection_lists ..)

theorem orphanFound_lists (t : Nat) (s : State) : s.Lists (orphanFound t s) := by
  refine .trans ?_ (.trans (raise_lists ..) (loadOrphan_lists ..))
  split
  case h_1 => exact .of_mask (loseReservation_frame ..)
  all_goals exact .refl s

theorem settleLoaded_lists (t : Nat) (b : BagRecord) (eye : Bool) (s : State) : s.Lists (settleLoaded t b eye s) :=
  ite_lists (newPass_lists ..)
    (((raise_lists ..).trans (loseBag_lists ..)).trans (emptyTray_lists ..))

theorem settleUnconfirmed_lists (t : Nat) (b : BagRecord) (c : ChuteId) (g : BitVec 8) (eye : Bool) (s : State) :
    s.Lists (settleUnconfirmed t b c g eye s) :=
  ite_lists
    (.trans (.trans (.of_mask ((tiltFailed_frame ..).trans (returnFill_frame ..))) (putTray_lists ..))
      (newPass_lists ..))
    (((sortBag_lists ..).trans (raise_lists ..)).trans (emptyTray_lists ..))

theorem settleRow_lists (t : Nat) (eye : Bool) (s : State) : s.Lists (settleRow t eye s) := by
  unfold settleRow
  split
  case h_1 | h_2 => exact ite_lists (orphanFound_lists ..) (.refl s)
  case h_3 => exact settleLoaded_lists ..
  case h_4 => exact settleUnconfirmed_lists ..
  case h_5 =>
    exact .trans (.trans (.of_mask (cancelSelection_frame ..)) (raise_lists ..)) (settleLoaded_lists ..)
  case h_6 => exact .trans (.trans (.of_mask (removeWindow_frame ..)) (putTray_lists ..)) (settleUnconfirmed_lists ..)
  case h_7 => exact ite_lists (loadOrphan_lists ..) (emptyTray_lists ..)
  case h_8 => exact .refl s

theorem closeLaunch_lists (t : Nat) (s : State) : s.Lists (closeLaunch t s) := by
  have hclosed := foldl_lists (f := fun s i =>
    modInd i (fun r => { r with windows := r.windows.filter fun w => w.tray != t }) s) (fun _ _ => .quiet) allInds s
  exact ite_lists (hclosed.trans .quiet) (.refl s)

theorem reconcile_lists (t : Nat) (eye : Bool) (s : State) : s.Lists (reconcile t eye s) :=
  (closeLaunch_lists ..).trans (settleRow_lists ..)

/-! ### The pitch event -/

theorem grantReservation_lists (s : State) : s.Lists (grantReservation s) := by
  refine ite_lists ?_ (.refl s)
  split
  · exact .quiet
  · exact .refl s

theorem claimTray_lists (i : IndId) (t : Nat) (s : State) : s.Lists (claimTray i t s) := by
  unfold claimTray
  split
  next r q _ =>
    have hloaded : s.Lists (loadTray t (newBag i r)
        (modInd i (fun x => { x with queue := q, waitCount := 0 }.judgeQueue) s)) :=
      .trans .quiet (.of_mask (loadTray_frame ..))
    exact .trans (.trans (hloaded.trans (classify_lists ..)) (passToSelection_lists ..)) .quiet
  next => exact .refl s

theorem claimCheck_lists (hold : Bool) (i : IndId) (s : State) : s.Lists (claimCheck hold i s) := by
  have hreleased : ∀ t, s.Lists (releaseGranted i t s) := fun t => by
    refine ite_lists ?_ (.refl s)
    rw [freeReserved_eq]
    exact .quiet
  refine ite_lists ((claimTray_lists ..).trans (requestReservation_lists ..)) ?_
  exact (ite_lists (hreleased _) (.refl s)).trans (.trans .quiet (requestReservation_lists ..))

theorem doAct_lists (hold eye : Bool) (s : State) (a : PitchAct) : s.Lists (doAct hold eye s a) := by
  refine .trans ?_ (settleHolds_lists s _)
  cases a with
  | claim i => exact claimCheck_lists ..
  | grant => exact grantReservation_lists _
  | reconcile => exact reconcile_lists ..
  | arm t => exact .of_mask (armTray_frame ..)
  | reselect t => exact passToSelection_lists ..

theorem expireWindows_lists (i : IndId) (s : State) : s.Lists (expireWindows i s) := by
  rw [expireWindows_eq]
  exact .quiet

theorem pitchActs_lists (hold first : Bool) (order : List Nat) (eye : Bool) (s : State) :
    s.Lists (pitchActs hold first order eye s) :=
  (foldl_lists (f := fun s i => expireWindows i (countWindows i s))
    (fun _ _ => .trans .quiet (expireWindows_lists ..)) _ s).trans (foldl_lists (doAct_lists hold eye) _ _)

/-- R12, R164: a track slip loses every bag on the loop. -/
theorem slipTrays_lists (s : State) : s.Lists (slipTrays s) := by
  have hcleared : s.slipCleared.strays = s.strays :=
    (congrArg State.strays (slipCleared_frame s) :).trans
      (congrArg State.strays (dropWindows_frame { s with fireQueue := [] }) :)
  have hlost : s.slipCleared.Lists s.slipLost := foldl_lists (fun u b => loseBag_lists b u) _ _
  exact .trans (.trans (.quiet hcleared) hlost) (.of_mask (slipTrays_frame s))

theorem pitchEvent_lists (order : List Nat) (home eye : Bool) (s : State) :
    s.Lists (pitchEvent order home eye s) := by
  have hpitched : s.Lists (settleHolds s (pitchLoop s)) := .trans .quiet (settleHolds_lists ..)
  have hsampled : ∀ u : State, u.Lists (homeSample home u) := fun u => by
    rw [homeSample_eq]
    exact .quiet
  refine ite_lists (.refl s) (ite_lists ?_ ((hpitched.trans (hsampled _)).trans (pitchActs_lists ..)))
  exact hpitched.trans ((slipTrays_lists _).trans ((reconcile_lists ..).trans (settleHolds_lists ..)))

theorem enterStalled_lists (s : State) : s.Lists (enterStalled s) :=
  .trans (.trans (.of_mask (cancelAll_frame ..)) .quiet) (settleHolds_lists ..)

/-! ### Launch answers and confirmations -/

/-- R167: a failed launch undoes what its bag brought about at the stray list. -/
theorem failLaunch_lists (i : IndId) (w : LaunchWindow) (s : State) : s.Lists (failLaunch i w s) := by
  unfold failLaunch
  split
  · next u hu =>
    rw [returnRead_eq]
    exact .trans (.trans (.of_mask (takeFailure_frame hu)) (undoNote_lists ..)) .quiet
  · exact .refl s

theorem takeAnswer_lists (i : IndId) (kind : AnswerKind) (t : Nat) (s : State) : s.Lists (takeAnswer i kind t s) := by
  unfold takeAnswer
  split
  · dsimp only
    split
    · exact .quiet
    · exact .trans (.trans .quiet (failLaunch_lists ..)) (settleHolds_lists ..)
  · exact .quiet

theorem confirmTray_lists (c : ChuteId) (w : ConfirmWindow) (later : List ConfirmWindow) (s : State) :
    s.Lists (confirmTray c w later s) := by
  unfold confirmTray
  split
  case h_1 => exact ite_lists (.trans (emptyTray_lists ..) (sortBag_lists ..)) (.refl s)
  all_goals exact .refl s

theorem confirmOldest_lists (c : ChuteId) (s : State) : s.Lists (confirmOldest c s) := by
  unfold confirmOldest
  split
  · exact .trans .quiet (confirmTray_lists ..)
  · exact .refl s

end Sys2Proof.Machine
end

section
/-! PROOF. Every step keeps the stray law (O16). -/

namespace Sys2Proof.Machine

-- Elaborated in turn, as the proof of O14 is, for the memory that the threads' stacks would take.
set_option Elab.async false

/-- Whatever state an answer goes with is under the stray law where `s` is. -/
def Answer.Lists (s : State) (a : Answer) : Prop := ∀ t reply, a = .ok (t, reply) → s.Lists t

/-- Whatever state a command leaves is under the stray law where `s` is. -/
def Out.Lists (s : State) (o : Out) : Prop := ∀ t, o = .next t → s.Lists t

theorem Answer.lists_error {s : State} {r : Reason} : Answer.Lists s (.error r) := fun _ _ e => by cases e

theorem Answer.lists_ok {s t : State} {reply : Reply} (h : s.Lists t) : Answer.Lists s (.ok (t, reply)) :=
  fun _ _ e => (Prod.mk.inj (Except.ok.inj e)).1 ▸ h

theorem Out.lists_next {s t : State} (h : s.Lists t) : Out.Lists s (.next t) :=
  fun _ e => Host.Outcome.next.inj e ▸ h

variable {s : State}

/-! ### The loop and the inductions (chapters 1 and 2) -/

theorem configureLoop_lists (p : Payload) : Answer.Lists s (configureLoop p s) := by
  have hstored : ∀ n cfg, s.Lists (settleHolds s (judgeLoopHold (s.reconfigured n cfg))) := fun n cfg => by
    refine .trans (.trans ?_ (.of_mask (judgeLoopHold_frame _))) (settleHolds_lists ..)
    rw [reconfigured_eq]
    exact .quiet
  unfold configureLoop
  dsimp only
  split
  · exact Answer.lists_error
  · split
    · exact Answer.lists_error
    · split
      · exact Answer.lists_error
      · split
        · exact Answer.lists_error
        · exact Answer.lists_ok (hstored ..)

theorem startLoop_lists : Answer.Lists s (startLoop s) := by
  unfold startLoop
  split
  · exact Answer.lists_ok (.trans .quiet (settleHolds_lists ..))
  · exact Answer.lists_error

theorem stopLoop_lists : Answer.Lists s (stopLoop s) := by
  unfold stopLoop
  split
  · exact Answer.lists_ok (.refl s)
  · exact Answer.lists_ok (.trans (.trans (.of_mask (cancelAll_frame ..)) .quiet) (settleHolds_lists ..))

theorem resetLoop_lists : Answer.Lists s (resetLoop s) := by
  unfold resetLoop
  split
  · exact Answer.lists_ok ((resetMotion_lists s).trans (settleHolds_lists ..))
  · exact Answer.lists_error

theorem configureInduction_lists (p : Payload) : Answer.Lists s (configureInduction p s) := by
  unfold configureInduction
  dsimp only
  repeat' split
  any_goals exact Answer.lists_error
  rw [applyInduction_eq]
  exact Answer.lists_ok .quiet

theorem inductionResume_lists (p : Payload) : Answer.Lists s (inductionResume p s) := by
  unfold inductionResume
  repeat' split
  any_goals exact Answer.lists_error
  exact Answer.lists_ok (.trans .quiet (settleHolds_lists ..))

/-! ### The manifest (chapter 3) -/

/-- R161: a late add may match a stray entry. -/
theorem addBag_lists (sl : Slot) (p : Payload) : Answer.Lists s (addBag sl p s) := by
  have hadded : ∀ tag cabin, s.Lists (addEntry sl tag cabin s) := fun tag cabin => by
    rw [addEntry_eq]
    exact .quiet
  unfold addBag
  dsimp only
  repeat' split
  any_goals exact Answer.lists_error
  exact Answer.lists_ok (((hadded ..).trans (matchStray_lists ..)).trans (wakeWhere_lists ..))

/-- R65: the bag of an ON_LOOP entry becomes a stray. -/
theorem withdrawBag_lists (sl : Slot) (p : Payload) : Answer.Lists s (withdrawBag sl p s) := by
  have hloop : ∀ tag, s.Lists (withdrawOnLoop tag s) := fun tag => by
    unfold withdrawOnLoop
    split
    · split
      · exact .trans (.trans (makeStray_lists ..) (.of_mask (cancelSelection_frame ..))) (passToSelection_lists ..)
      · exact .refl s
    · exact .refl s
  unfold withdrawBag
  split
  · split
    · exact Answer.lists_ok (.trans (ite_lists (hloop _) (.refl s)) (.trans .quiet (.of_mask (judgeQuota_frame ..))))
    · exact Answer.lists_error
  · exact Answer.lists_error

theorem applyCabin_lists (sl : Slot) (e : BagEntry) (cabin : Nat) (s : State) : s.Lists (applyCabin sl e cabin s) := by
  have hloop : ∀ (tag : Tag) (u : State), u.Lists (changeOnLoop tag u) := fun tag u => by
    unfold changeOnLoop
    split
    · split
      case h_1 | h_2 => exact .trans (.of_mask (cancelSelection_frame ..)) (passToSelection_lists ..)
      all_goals exact .quiet
    · exact .refl u
  unfold applyCabin
  refine (modEntry_lists e.tag (fun e => { e with cabin := cabin }) s).trans ?_
  dsimp only
  split
  case h_1 | h_2 | h_3 => exact wakeWhere_lists ..
  case h_4 => exact hloop ..
  case h_5 => exact raise_lists ..

theorem changeCabin_lists (sl : Slot) (p : Payload) : Answer.Lists s (changeCabin sl p s) := by
  unfold changeCabin
  dsimp only
  repeat' split
  any_goals exact Answer.lists_error
  · exact Answer.lists_ok (.refl s)
  · exact Answer.lists_ok (applyCabin_lists ..)

theorem changeMap_lists (sl : Slot) (n : Fin 96) (r : CabinRange) (s : State) : s.Lists (changeMap sl n r s) :=
  .trans .quiet (wakeWhere_lists ..)

theorem setCabinRange_lists (sl : Slot) (p : Payload) : Answer.Lists s (setCabinRange sl p s) := by
  unfold setCabinRange
  dsimp only
  repeat' split
  any_goals exact Answer.lists_error
  · exact Answer.lists_ok (.refl s)
  · exact Answer.lists_ok (changeMap_lists ..)

theorem clearCabinRange_lists (sl : Slot) (p : Payload) : Answer.Lists s (clearCabinRange sl p s) := by
  unfold clearCabinRange
  dsimp only
  repeat' split
  · exact Answer.lists_ok (changeMap_lists ..)
  · exact Answer.lists_ok (.refl s)
  · exact Answer.lists_error

/-! ### The slots (chapter 4) -/

theorem berth_lists (p : Payload) : Answer.Lists s (berth p s) := by
  unfold berth
  dsimp only
  repeat' split
  any_goals exact Answer.lists_error
  exact Answer.lists_ok (.trans .quiet (.of_mask (judgeQuota_frame ..)))

theorem setQuota_lists (p : Payload) : Answer.Lists s (setQuota p s) := by
  unfold setQuota
  dsimp only
  repeat' split
  any_goals exact Answer.lists_error
  exact Answer.lists_ok (.trans .quiet (.of_mask (judgeQuota_frame ..)))

/-- R83: the WAITING bags of a slot cut off become strays. -/
theorem cutOff_lists (l : LinkId) (p : Payload) : Answer.Lists s (cutOff l p s) := by
  have hdrain : ∀ sl, s.Lists (beginDrain sl s) := fun sl =>
    .trans (.trans .quiet (wakeWhere_lists ..)) (.of_mask (reportCount_frame ..))
  unfold cutOff
  split
  · split
    case h_1 | h_2 | h_3 => exact Answer.lists_error
    all_goals exact Answer.lists_ok (hdrain _)
  · exact Answer.lists_error

theorem unberth_lists (p : Payload) : Answer.Lists s (unberth p s) := by
  unfold unberth
  repeat' split
  any_goals exact Answer.lists_error
  rw [releaseChutes_eq]
  exact Answer.lists_ok .quiet

/-! ### The chutes (chapter 6) -/

theorem configureChute_lists (p : Payload) : Answer.Lists s (configureChute p s) := by
  unfold configureChute
  dsimp only
  repeat' split
  any_goals exact Answer.lists_error
  exact Answer.lists_ok (.of_mask (applyChute_frame ..))

theorem assignChute_lists (p : Payload) : Answer.Lists s (assignChute p s) := by
  unfold assignChute
  repeat' split
  any_goals exact Answer.lists_error
  exact Answer.lists_ok (.of_mask (modChute_frame ..))

theorem releaseChute_lists (p : Payload) : Answer.Lists s (releaseChute p s) := by
  unfold releaseChute
  dsimp only
  repeat' split
  any_goals exact Answer.lists_error
  exact Answer.lists_ok (.of_mask (dropGroup_frame ..))

theorem swapBegin_lists (p : Payload) : Answer.Lists s (swapBegin p s) := by
  unfold swapBegin
  repeat' split
  any_goals exact Answer.lists_error
  exact Answer.lists_ok (.trans (.of_mask (modChute_frame ..))
    ((foldl_lists (fun u t => .of_mask (cancelSelection_frame t u)) _ _).trans
      (foldl_lists (fun u t => passToSelection_lists t u) _ _)))

theorem swapEnd_lists (p : Payload) : Answer.Lists s (swapEnd p s) := by
  unfold swapEnd
  repeat' split
  any_goals exact Answer.lists_error
  exact Answer.lists_ok (.of_mask (endSwap_frame ..))

/-! ### The desk (chapter 8) -/

theorem resolveEntry_lists {id : BitVec 16} {tag : Tag} {sl : Slot} {cabin : Nat} {t : State}
    (h : resolveEntry tag sl cabin id s = .ok t) : s.Lists t := by
  unfold resolveEntry at h
  split at h
  · split at h
    · cases h
    · exact Except.ok.inj h ▸ .trans .quiet (.of_mask (judgeQuota_frame ..))
  · split at h
    · cases h
    all_goals exact Except.ok.inj h ▸ modEntry_lists ..

theorem resolveTag_lists (id : BitVec 16) (tag : Tag) (cabin : Nat) : Answer.Lists s (resolveTag id tag cabin s) := by
  unfold resolveTag
  repeat' split
  any_goals exact Answer.lists_error
  next ht => exact Answer.lists_ok ((resolveEntry_lists ht).trans (modStray_lists _))

theorem resolveStray_lists (p : Payload) : Answer.Lists s (resolveStray p s) := by
  unfold resolveStray
  dsimp only
  repeat' split
  any_goals exact Answer.lists_error
  exact resolveTag_lists _ _ _

theorem discardStray_lists (p : Payload) : Answer.Lists s (discardStray p s) := by
  unfold discardStray
  dsimp only
  repeat' split
  any_goals exact Answer.lists_error
  exact Answer.lists_ok (removeStray_lists ..)

/-! ### Every request -/

theorem onOwnSlot_lists {l : LinkId} {f : Slot → State → Answer} (hf : ∀ sl, Answer.Lists s (f sl s)) :
    Answer.Lists s (onOwnSlot l f s) := by
  unfold onOwnSlot
  split
  · exact hf _
  · exact Answer.lists_error

/-- The rule of every owning block keeps the stray law. The last two groups leave the stray list: requests that write
one table of their own, and the reads. -/
theorem own_lists (k : Command) (l : LinkId) (p : Payload) (s : State) : Answer.Lists s (Command.own k l p s) := by
  cases k with
  | configureLoop => exact configureLoop_lists p
  | startLoop => exact startLoop_lists
  | stopLoop => exact stopLoop_lists
  | resetLoop => exact resetLoop_lists
  | configureInduction => exact configureInduction_lists p
  | inductionResume => exact inductionResume_lists p
  | addBag => exact onOwnSlot_lists fun sl => addBag_lists sl p
  | withdrawBag => exact onOwnSlot_lists fun sl => withdrawBag_lists sl p
  | changeCabin => exact onOwnSlot_lists fun sl => changeCabin_lists sl p
  | setCabinRange => exact onOwnSlot_lists fun sl => setCabinRange_lists sl p
  | clearCabinRange => exact onOwnSlot_lists fun sl => clearCabinRange_lists sl p
  | berth => exact berth_lists p
  | setQuota => exact setQuota_lists p
  | cutOff => exact cutOff_lists l p
  | unberth => exact unberth_lists p
  | configureChute => exact configureChute_lists p
  | assignChute => exact assignChute_lists p
  | releaseChute => exact releaseChute_lists p
  | swapBegin => exact swapBegin_lists p
  | swapEnd => exact swapEnd_lists p
  | resolveStray => exact resolveStray_lists p
  | discardStray => exact discardStray_lists p
  | fetchNotice | setNoticeEnables | readResetCause | clearResetCause => exact Answer.lists_ok .quiet
  | setWindow | clearWindow | manifestFinal | manifestReopen | setBlockedInterval | ackGroup | clearNotice
    | setClearMode =>
    simp only [Command.own, onOwnSlot, setWindow, clearWindow, manifestFinal, manifestReopen, setBlockedInterval,
      ackGroup, clearNotice, setClearMode]
    repeat' split
    any_goals exact Answer.lists_error
    all_goals exact Answer.lists_ok .quiet
  | readTray | readInduction | readWindow | readBag | readCabinRange | shipStatus | readChute | readStrayList
    | readStray =>
    simp only [Command.own, readTray, readInduction, readWindow, readBag, readCabinRange, shipStatus, readChute,
      readStrayList, readStray]
    repeat' split
    any_goals exact Answer.lists_error
    all_goals exact Answer.lists_ok (.refl s)

theorem deliver_lists (x : Port) (l : LinkId) (frame response : List Byte) (s : State) :
    s.Lists (deliver x l frame response s) := ite_lists .quiet .quiet

theorem takeRequest_lists (k : Command) (l : LinkId) (p : Payload) (s : State) :
    s.Lists (takeRequest k l p (Command.own k l p) s) := by
  unfold takeRequest
  dsimp only
  split
  · split
    · exact deliver_lists ..
    · next t reply ha =>
      refine .trans ?_ (deliver_lists ..)
      unfold State.answerTo at ha
      split at ha
      · cases ha
      · exact own_lists k l p s t reply ha
  · exact .refl s

/-! ### The induction lines -/

theorem completeFrame_lists {i : IndId} {k : FrameKind} {data : List Byte} {take : State → State} (s : State)
    (htake : ∀ u : State, u.Lists (take u)) : s.Lists (completeFrame i k data take s) :=
  ite_lists (.trans .quiet (htake _)) (.refl s)

theorem takeRead_lists (i : IndId) (rec : ReadRecord) (s : State) : s.Lists (takeRead i rec s) := by
  obtain ⟨_, _, _, e⟩ := takeRead_lineOnly i rec s
  rw [e, queueRead_eq]
  exact .quiet

theorem receiveMark_lists (i : IndId) (k : FrameKind) (s : State) : s.Lists (receiveMark i k s) := by
  unfold receiveMark
  split <;> exact .quiet

theorem receiveFault_lists (i : IndId) (bad : CharFault) (s : State) : s.Lists (receiveFault i bad s) := by
  unfold receiveFault
  split
  · exact receiveMark_lists ..
  · split <;> exact .quiet
  · split <;> exact .quiet

theorem receiveBadData_lists (i : IndId) (field : DataField) (value : Byte) (s : State) :
    s.Lists (receiveBadData i field value s) := by
  unfold receiveBadData
  split
  · split <;> exact .quiet
  all_goals exact .quiet

theorem takeFrame_lists (i : IndId) (k : FrameKind) (data : List Byte) (s : State) :
    s.Lists (takeFrame i k data s) := by
  have hsized : ∀ reading size, s.Lists (takeSized i reading size s) := fun reading size => by
    unfold takeSized
    split
    · exact takeRead_lists ..
    · exact .refl s
  cases k with
  | bag | multi | noread => exact hsized ..
  | done => exact takeAnswer_lists i .done _ s
  | fail => exact takeAnswer_lists i .fail _ s

theorem receiveData_lists (i : IndId) (v : Byte) (s : State) : s.Lists (receiveData i v s) := by
  unfold receiveData
  split
  · exact ite_lists .quiet (ite_lists (.trans .quiet (takeFrame_lists ..)) .quiet)
  all_goals exact .refl s

theorem whenEnabled_lists {i : IndId} {f : State → State} (hf : s.Lists (f s)) : s.Lists (whenEnabled i f s) :=
  ite_lists hf (.refl s)

theorem receiveChar_lists (i : IndId) (c : LineChar) (s : State) : s.Lists (receiveChar i c s) := by
  refine whenEnabled_lists (ite_lists (receiveFault_lists ..) (ite_lists ?_ (receiveData_lists ..)))
  split
  · exact receiveMark_lists ..
  · exact receiveFault_lists ..

theorem receiveChars_lists (s : State) : s.Lists (receiveChars s) := by
  refine .trans (t := drawOrder s) .quiet (foldl_lists (fun u i => ?_) _ _)
  unfold nextChar
  split
  · exact .trans .quiet (receiveChar_lists ..)
  · exact .refl u

/-! ### Every command -/

/-- R170: both resets leave the stray list empty. -/
theorem resetBlocks_strayLaw (cause : ResetCause) (low : Bool) (s : State) : (resetBlocks cause low s).strayLaw :=
  reset_strayLaw

theorem exec_lists (c : Instr) (s : State) : Out.Lists s (exec c s) := by
  cases c with
  | powerOnReset | pinReset => exact Out.lists_next ⟨fun _ => resetBlocks_strayLaw _ _ s⟩
  | pitchEvent home check => exact Out.lists_next (.trans .quiet (pitchEvent_lists _ home check (drawOrder s)))
  | reservationRequest i => exact Out.lists_next (requestReservation_lists ..)
  | launchWindowExpiry i => exact Out.lists_next (expireWindows_lists ..)
  | stallTimeout => exact Out.lists_next (ite_lists (enterStalled_lists s) (.refl s))
  | fire => exact Out.lists_next (.of_mask (fireHead_frame s))
  | tiltPulseEnd c => exact Out.lists_next (by (repeat' split) <;> exact .quiet)
  | confirmWindowEnd c =>
    refine Out.lists_next ?_
    split
    · exact .trans .quiet (.of_mask (closeUnconfirmed_frame ..))
    · exact .refl s
  | chuteEyeDetection c =>
    exact Out.lists_next (ite_lists (.refl s)
      ((State.Lists.trans .quiet (confirmOldest_lists ..)).trans (settleHolds_lists ..)))
  | chuteJam c => exact Out.lists_next (ite_lists (.of_mask (setJam_frame ..)) (.refl s))
  | chuteEyeClear c => exact Out.lists_next (ite_lists (.of_mask (clearEye_frame ..)) (.refl s))
  | hallClockSecond => exact Out.lists_next (ite_lists .quiet (.refl s))
  | bagFrame i | multiFrame i | noreadFrame i => exact Out.lists_next (completeFrame_lists s (takeRead_lists i _))
  | holdResend i => exact Out.lists_next (.of_mask (resendHold_frame ..))
  | doneFrame i | failFrame i | lateAnswer i =>
    exact Out.lists_next (completeFrame_lists s (takeAnswer_lists i _ _))
  | inductionCharacterFault i bad => exact Out.lists_next (whenEnabled_lists (receiveFault_lists i bad s))
  | badDataCharacter i field value =>
    exact Out.lists_next (whenEnabled_lists (receiveBadData_lists i field value s))
  | inductionSilenceTimeout i => exact Out.lists_next (by split <;> exact .quiet)
  | transmitFrameSent i => exact Out.lists_next (by split <;> exact .quiet)
  | inductionFrameOpened i kind => exact Out.lists_next (whenEnabled_lists (receiveMark_lists i kind s))
  | linkSelectAsserted l => exact Out.lists_next (ite_lists (.refl s) (ite_lists .quiet .quiet))
  | linkSelectReleased l | linkSelectReleasedEarly l => exact Out.lists_next (ite_lists .quiet (.refl s))
  | linkResponseSent l => exact Out.lists_next (by split <;> exact .quiet)
  | resetNReleased => exact Out.lists_next .quiet
  | badCommand l code p => exact Out.lists_next (ite_lists (deliver_lists ..) (.refl s))
  | configureLoop l p | startLoop l p | stopLoop l p | resetLoop l p | readTray l p | configureInduction l p
    | inductionResume l p | readInduction l p | setWindow l p | clearWindow l p | readWindow l p | addBag l p
    | withdrawBag l p | changeCabin l p | readBag l p | setCabinRange l p | clearCabinRange l p
    | readCabinRange l p | berth l p | manifestFinal l p | manifestReopen l p | setQuota l p | cutOff l p
    | unberth l p | shipStatus l p | configureChute l p | assignChute l p | releaseChute l p | swapBegin l p
    | swapEnd l p | setBlockedInterval l p | readChute l p | resolveStray l p | discardStray l p
    | readStrayList l p | readStray l p | fetchNotice l p | ackGroup l p | clearNotice l p
    | setNoticeEnables l p | setClearMode l p | readResetCause l p | clearResetCause l p =>
    exact Out.lists_next (takeRequest_lists _ l p s)

theorem idle_lists (s : State) : s.Lists (idle s) := by
  unfold idle
  split
  · exact .refl s
  · split
    · exact .quiet
    · refine ite_lists ?_ (ite_lists .quiet (receiveChars_lists s))
      rw [clockBytes_frame]
      exact .quiet

/-- Settles O16. -/
theorem everyStepKeepsTheStrayLaw : Obligations.everyStepKeepsTheStrayLaw := by
  intro s t h ht
  unfold step at ht
  split at ht
  · exact (Out.lists_next (idle_lists s) t ht).law h
  · next c r _ => exact (State.Lists.trans (t := { s with pending := r }) .quiet (exec_lists c _ t ht)).law h

end Sys2Proof.Machine
end

section
/-! PROOF. DISCARD STRAY (O58). -/

namespace Sys2Proof.Machine

variable {s : State} {p : Payload} {e : StrayEntry}

theorem strayOfId_eq_none {id : BitVec 16} (h : ∀ x ∈ s.strays, x.id ≠ id) : s.strayOfId id = none :=
  List.find?_eq_none.mpr fun x hx => by simpa using h x hx

/-- What a removal changes: the list, the bag entries' links and the bag records' ids (R166). -/
theorem removeStray_eq (id : BitVec 16) (s : State) : removeStray id s = { s with
    strays := s.strays.filter fun y => y.id ≠ id
    pool := s.pool.map fun y => if y.strayLink = some id then { y with strayLink := none } else y
    loop := { s.loop with trays := (removeStray id s).loop.trays } } := by
  rw [← removeStray_strays]
  rfl

theorem discardStray_notFound (h : s.strayOfId (BitVec.ofNat 16 (u16 p 0)) = none) :
    discardStray p s = .error .notFound := by
  unfold discardStray
  dsimp only
  rw [h]

/-- R166: the entry follows a REINDUCTED bag that the part still tracks. -/
theorem discardStray_tracked (h : s.strayOfId (BitVec.ofNat 16 (u16 p 0)) = some e) (hst : e.state = .reinducted)
    (htracked : e.untracked = false) : discardStray p s = .error .state := by
  unfold discardStray
  dsimp only
  rw [h]
  exact if_pos ⟨hst, htracked⟩

theorem discardStray_removes (h : s.strayOfId (BitVec.ofNat 16 (u16 p 0)) = some e)
    (hfree : e.state ≠ .reinducted ∨ e.untracked = true) :
    discardStray p s = .ok (removeStray (BitVec.ofNat 16 (u16 p 0)) s, .ok) := by
  unfold discardStray
  dsimp only
  rw [h]
  refine if_neg fun ⟨hst, htracked⟩ => ?_
  rcases hfree with hne | hun
  · exact hne hst
  · rw [hun] at htracked
    cases htracked

/-- Settles O58. -/
theorem discardStrayRemovesTheEntry : Obligations.discardStrayRemovesTheEntry := by
  rintro l p s _ h rfl
  refine ⟨fun hnone => exec_refusedWith h (discardStray_notFound (strayOfId_eq_none hnone)), fun e he =>
    ⟨fun hst htracked => exec_refusedWith h (discardStray_tracked he hst htracked), fun hfree => ?_⟩⟩
  exact ⟨_, exec_answeredOk h (discardStray_removes he hfree), removeStray_eq _ s, List.length_map _,
    removeStray_tray _ s⟩

end Sys2Proof.Machine
end

/-! ## Proofs: notices and attention lines (chapter 9) -/

section
/-! SUPPORT. A notice record: what calling and pending depend on, what a judgement latches (R172, R175), and the flags
of one group rewritten (R174, R178, R180). -/

namespace Sys2Proof.Machine

/-! ### Rewriting one place -/

@[simp] theorem PerGroup.set_set {α : Type} (v : PerGroup α) (k : NoticeGroup) (x y : α) :
    (v.set k x).set k y = v.set k y := by
  cases k <;> rfl

@[simp] theorem PerLink.set_get {α : Type} (v : PerLink α) (k : LinkId) : v.set k (v.get k) = v := by
  cases k <;> rfl

theorem mem_allGroups (g : NoticeGroup) : g ∈ allGroups := by cases g <;> simp [allGroups]

/-! ### Sources (Table 9-1) -/

/-- GENERIC, number 0, is never raised. -/
theorem Notice.number_bounds (n : Notice) : 1 ≤ n.number ∧ n.number ≤ 7 := by
  cases n <;> decide

theorem sourceBit_getLsbD {n : Nat} (hn : n ≤ 7) (k : Nat) : (sourceBit n).getLsbD k = decide (n = k) := by
  rw [sourceBit, BitVec.getLsbD_ofNat, Nat.testBit_two_pow]
  by_cases h : n = k
  · simp [← h, Nat.lt_succ_of_le hn]
  · simp [h]

/-- A raise sets the bit of its own source and no other. -/
theorem Notice.getLsbD_or_sourceBit (n : Notice) (b : Byte) {k : Nat} (h : k ≠ n.number) :
    (b ||| sourceBit n.number).getLsbD k = b.getLsbD k := by
  rw [BitVec.getLsbD_or, sourceBit_getLsbD n.number_bounds.2, decide_eq_false (Ne.symm h), Bool.or_false]

/-! ### Calling and pending (R172) -/

namespace NoticeRecord
variable {r q : NoticeRecord} {g k : NoticeGroup}

/-- Whether a group is pending depends on its flags and enables alone. -/
theorem pending_congr (hf : q.flags.get g = r.flags.get g) (he : q.enables = r.enables) :
    q.pending g = r.pending g := by
  rw [pending, pending, calling, calling, hf, he]

/-- A group with fewer flags is pending only where it was. -/
theorem pending_of_fewer_flags {mask : Byte} (hf : q.flags.get g = r.flags.get g &&& mask) (he : q.enables = r.enables)
    (h : q.pending g = true) : r.pending g = true := by
  have hcalling : q.calling g = r.calling g &&& mask := by
    rw [calling, calling, hf, he, BitVec.and_assoc, BitVec.and_comm mask, BitVec.and_assoc]
  simp only [pending, hcalling, bne_iff_ne, ne_eq] at h ⊢
  exact fun hzero => h (by simp [hzero])

/-! ### A judgement (R175) -/

/-- R175: the latch that a judgement leaves. -/
def judgedLatch (r : NoticeRecord) (g : NoticeGroup) : Latch :=
  if r.latches.get g = .clear ∧ r.pending g = true then .set else r.latches.get g

@[simp] theorem judge_enables (r : NoticeRecord) (g : NoticeGroup) : (r.judge g).enables = r.enables := by
  unfold judge; split <;> rfl

@[simp] theorem judge_mode (r : NoticeRecord) (g : NoticeGroup) : (r.judge g).mode = r.mode := by
  unfold judge; split <;> rfl

@[simp] theorem judge_pending (r : NoticeRecord) (g k : NoticeGroup) : (r.judge g).pending k = r.pending k :=
  pending_congr (by rw [judge_flags]) (judge_enables r g)

theorem judge_latch (r : NoticeRecord) (g : NoticeGroup) : (r.judge g).latches.get g = r.judgedLatch g := by
  unfold judge judgedLatch
  split
  · exact PerGroup.get_set ..
  · rfl

theorem judge_latch_ne (h : k ≠ g) : (r.judge g).latches.get k = r.latches.get k := by
  unfold judge
  split
  · exact PerGroup.get_set_ne _ _ _ _ h
  · rfl

/-- R179: a group whose latch is cleared and that is then judged is latched exactly where it is pending. -/
theorem judge_of_cleared (r : NoticeRecord) (g : NoticeGroup) :
    { r with latches := r.latches.set g .clear }.judge g =
      { r with latches := r.latches.set g (if r.pending g then .set else .clear) } := by
  have hpending : { r with latches := r.latches.set g .clear }.pending g = r.pending g := pending_congr rfl rfl
  unfold judge
  simp only [hpending, PerGroup.get_set, true_and, PerGroup.set_set]
  split <;> rfl

/-- A judgement twice over latches no more. -/
theorem judgedLatch_judge (r : NoticeRecord) (g k : NoticeGroup) : (r.judge g).judgedLatch k = r.judgedLatch k := by
  by_cases h : k = g
  · subst h
    rw [judgedLatch, judge_pending, judge_latch, judgedLatch]
    split
    · next hc => exact if_neg fun hc' => by cases hc'.1
    · rfl
  · rw [judgedLatch, judgedLatch, judge_pending, judge_latch_ne h]

/-- Groups judged in turn: only their latches move, each by its own judgement. -/
theorem foldl_judge (gs : List NoticeGroup) (r : NoticeRecord) :
    (gs.foldl judge r).flags = r.flags ∧ (gs.foldl judge r).enables = r.enables ∧
    (gs.foldl judge r).mode = r.mode ∧
    ∀ k, (gs.foldl judge r).latches.get k = if k ∈ gs then r.judgedLatch k else r.latches.get k := by
  induction gs generalizing r with
  | nil => exact ⟨rfl, rfl, rfl, fun _ => rfl⟩
  | cons g gs ih =>
    obtain ⟨hflags, henables, hmode, hlatch⟩ := ih (r.judge g)
    refine ⟨hflags.trans (judge_flags ..), henables.trans (judge_enables ..), hmode.trans (judge_mode ..), fun k => ?_⟩
    rw [List.foldl_cons, hlatch, judgedLatch_judge]
    by_cases hg : k = g
    · subst hg
      rw [judge_latch, ite_self, if_pos List.mem_cons_self]
    · rw [judge_latch_ne hg]
      exact if_congr (by simp [hg]) rfl rfl

/-! ### Flags cleared (R178, R180) -/

@[simp] theorem clearFlag_zero (g : NoticeGroup) (r : NoticeRecord) : r.clearFlag g 0 = r := if_pos rfl

theorem clearFlag_of_pos {n : Nat} (h : 1 ≤ n) (g : NoticeGroup) (r : NoticeRecord) :
    r.clearFlag g n = { r with flags := r.flags.set g (r.flags.get g &&& ~~~ sourceBit n) } := if_neg (by omega)

@[simp] theorem clearFlag_latches (g : NoticeGroup) (n : Nat) (r : NoticeRecord) :
    (r.clearFlag g n).latches = r.latches := by
  unfold clearFlag; split <;> rfl

@[simp] theorem clearFlag_enables (g : NoticeGroup) (n : Nat) (r : NoticeRecord) :
    (r.clearFlag g n).enables = r.enables := by
  unfold clearFlag; split <;> rfl

/-- A clear takes flags away and adds none. -/
theorem clearFlag_fewer_flags (g : NoticeGroup) (n : Nat) (r : NoticeRecord) (k : NoticeGroup) :
    ∃ mask, (r.clearFlag g n).flags.get k = r.flags.get k &&& mask := by
  unfold clearFlag
  split
  · exact ⟨r.flags.get k, by simp⟩
  · by_cases h : k = g
    · subst h
      exact ⟨~~~ sourceBit n, PerGroup.get_set ..⟩
    · exact ⟨r.flags.get k, by simp [h]⟩

end NoticeRecord

/-! ### The links of a scope (R173) -/

theorem Scope.names_iff {sc : Scope} {l : LinkId} :
    sc.names l = true ↔ l = .shore ∨ ∃ sl, sc = .slot sl ∧ l = slotLink sl := by
  cases l with
  | shore => simp
  | vesselA | vesselB => cases sc <;> simp [Scope.names]

/-- A link's own record rewritten (R179 to R182). -/
theorem modNotices_get (l k : LinkId) (f : NoticeRecord → NoticeRecord) (s : State) :
    (modNotices l f s).notices.get k = if k = l then f (s.notices.get k) else s.notices.get k := by
  unfold modNotices
  split
  · next h => exact h ▸ PerLink.get_set ..
  · next h => exact PerLink.get_set_ne _ _ _ _ h

end Sys2Proof.Machine
end

section
/-! PROOF. A raise flags its source on the links of its scope (O38). -/

namespace Sys2Proof.Machine

/-- R174, R175: a clear latch is set where the raise leaves its group pending. -/
theorem NoticeRecord.raise_latch (r : NoticeRecord) (n : Notice) (h : (r.raise n).pending n.group = true) :
    (r.raise n).latches.get n.group = if r.latches.get n.group = .clear then .set else r.latches.get n.group := by
  rw [NoticeRecord.raise, NoticeRecord.judge_pending] at h
  rw [NoticeRecord.raise, NoticeRecord.judge_latch, NoticeRecord.judgedLatch]
  simp only [h, and_true]

/-- R174: the flags of a record after a raise. -/
theorem NoticeRecord.raise_flags (r : NoticeRecord) (n : Notice) :
    (r.raise n).flags = r.flags.set n.group (r.flags.get n.group ||| sourceBit n.number) :=
  NoticeRecord.judge_flags ..

/-- R173: the record of a link that the scope names. -/
theorem raise_notices_named {sc : Scope} {l : LinkId} (h : sc.names l = true) (n : Notice) (s : State) :
    (raise n sc s).notices.get l = (s.notices.get l).raise n := by
  rw [raise_notices_get, raiseIn, if_pos h]

/-- A raise flags no source but its own. -/
theorem flagged_raise_other {n m : Notice} (h : m.group ≠ n.group ∨ m.number ≠ n.number) {sc : Scope} {l : LinkId}
    (hl : sc.names l = true) (s : State) : (raise n sc s).flagged l m = s.flagged l m := by
  rw [State.flagged, raise_notices_named hl, NoticeRecord.raise_flags, State.flagged]
  by_cases hg : m.group = n.group
  · rw [hg, PerGroup.get_set, n.getLsbD_or_sourceBit _ (h.resolve_left (not_not_intro hg))]
  · rw [PerGroup.get_set_ne _ _ _ _ hg]

/-- R176. -/
theorem NoticeRecord.attention_iff (r : NoticeRecord) : r.attention = true ↔ ∃ g, r.latches.get g = .set := by
  simp only [NoticeRecord.attention, Bool.or_eq_true, decide_eq_true_eq]
  constructor
  · rintro (((h | h) | h) | h)
    exacts [⟨.loop, h⟩, ⟨.chutes, h⟩, ⟨.strays, h⟩, ⟨.ships, h⟩]
  · rintro ⟨g, h⟩
    cases g with
    | loop => exact .inl (.inl (.inl h))
    | chutes => exact .inl (.inl (.inr h))
    | strays => exact .inl (.inr h)
    | ships => exact .inr h

/-- Settles O38. -/
theorem raiseFlagsTheScopesLinks : Obligations.raiseFlagsTheScopesLinks := by
  intro n sc s l
  refine ⟨rfl, fun hl => ?_, fun hl => ?_, NoticeRecord.attention_iff _⟩
  · have hnamed := Scope.names_iff.mpr hl
    have hlatch := (s.notices.get l).raise_latch n
    rw [← raise_notices_named hnamed n s] at hlatch
    refine ⟨flagged_raise n hnamed s, fun m hm => flagged_raise_of_flagged hm n sc,
      fun m hm => flagged_raise_other hm hnamed s, fun hp => ?_, fun hclear hp => ?_⟩
    · rw [hlatch hp]
      split
      · exact nofun
      · assumption
    · exact (NoticeRecord.attention_iff _).mpr ⟨n.group, (hlatch hp).trans (if_pos hclear)⟩
  · rw [raise_notices_get, raiseIn, if_neg fun hnamed => hl (Scope.names_iff.mp hnamed)]

end Sys2Proof.Machine
end

section
/-! PROOF. FETCH NOTICE (O59). -/

namespace Sys2Proof.Machine

namespace NoticeRecord
variable {r : NoticeRecord} {g : NoticeGroup} {n : Nat}

/-- R177 step 1: no group is latched and unfetched. -/
theorem callingGroup_eq_none (h : ∀ g, r.latches.get g ≠ .set) : r.callingGroup = none :=
  List.find?_eq_none.mpr fun g _ => by simpa using h g

/-- R177 step 1: of the groups latched and unfetched, the lowest. -/
theorem callingGroup_eq (hg : r.latches.get g = .set) (hlow : ∀ k, k.code < g.code → r.latches.get k ≠ .set) :
    r.callingGroup = some g := by
  unfold callingGroup allGroups
  cases g with
  | loop => simp [hg]
  | chutes => simp [hg, hlow .loop (by decide)]
  | strays => simp [hg, hlow .loop (by decide), hlow .chutes (by decide)]
  | ships => simp [hg, hlow .loop (by decide), hlow .chutes (by decide), hlow .strays (by decide)]

/-- R177 step 2: of the sources that call, the lowest. -/
theorem callingSource_eq (hn : 1 ≤ n ∧ n ≤ 7) (hcalls : (r.calling g).getLsbD n = true)
    (hlow : ∀ m, 1 ≤ m → m < n → (r.calling g).getLsbD m = false) : r.callingSource g = n := by
  have hfind : (List.range' 1 7).find? (fun m => (r.calling g).getLsbD m) = some n := by
    rw [List.find?_range'_eq_some]
    exact ⟨hcalls, by simp; omega, fun m hm hlt => by simp [hlow m hm hlt]⟩
  exact congrArg (·.getD 0) hfind

/-- R177 step 3: GENERIC where no source calls. -/
theorem callingSource_eq_zero (h : ∀ m, 1 ≤ m → m ≤ 7 → (r.calling g).getLsbD m = false) : r.callingSource g = 0 := by
  have hfind : (List.range' 1 7).find? (fun m => (r.calling g).getLsbD m) = none := by
    rw [List.find?_range'_eq_none]
    exact fun m hm hlt => by simp [h m hm (by omega)]
  exact congrArg (·.getD 0) hfind

/-- R178: in AUTO the flag of the returned source is cleared, and GENERIC has none. -/
theorem fetch_eq (r : NoticeRecord) (g : NoticeGroup) : r.fetch g = { r with
    latches := r.latches.set g .fetched
    flags := if r.mode = .auto ∧ r.callingSource g ≠ 0 then
      r.flags.set g (r.flags.get g &&& ~~~ sourceBit (r.callingSource g)) else r.flags } := by
  unfold fetch clearFlag
  cases hmode : r.mode with
  | manual => rfl
  | auto =>
    by_cases hn : r.callingSource g = 0 <;> simp [hn]

theorem fetchNotice_of_group (h : r.callingGroup = some g) : r.fetchNotice = (r.fetch g,
    [1, BitVec.ofNat 8 g.code, BitVec.ofNat 8 (r.callingSource g), (r.fetch g).flags.get g,
      BitVec.ofNat 8 (r.fetch g).latchByte]) := by
  unfold fetchNotice
  rw [h]
  rfl

theorem fetchNotice_of_none (h : r.callingGroup = none) :
    r.fetchNotice = (r, [0, 0, 0, 0, BitVec.ofNat 8 r.latchByte]) := by
  unfold fetchNotice
  rw [h]
  rfl

end NoticeRecord

/-- What FETCH NOTICE answers, by the record of its link. -/
theorem exec_fetchNotice {l : LinkId} {p : Payload} {s : State} {r : NoticeRecord} {data : List Byte}
    (h : s.admits .fetchNotice l p = true) (hr : (s.notices.get l).fetchNotice = (r, data)) :
    exec (.fetchNotice l p) s =
      .next (answeredWith .fetchNotice l p data { s with notices := s.notices.set l r }) := by
  have hown : Command.own .fetchNotice l p s = .ok ({ s with notices := s.notices.set l r }, .data data) := by
    simp only [Command.own, fetchNotice, modNotices, hr]
  refine (exec_ofRequest l .fetchNotice p s).trans ?_
  rw [takeRequest_accepted h hown]
  rfl

/-- Settles O59. -/
theorem fetchNoticeTakesTheLowest : Obligations.fetchNoticeTakesTheLowest := by
  rintro l p s r h rfl
  refine ⟨fun hnone => ?_, fun g n hg hlow hsource => ?_⟩
  · simpa using exec_fetchNotice h (NoticeRecord.fetchNotice_of_none (NoticeRecord.callingGroup_eq_none hnone))
  · have hn : (s.notices.get l).callingSource g = n := by
      rcases hsource with ⟨h1, h7, hcalls, hleast⟩ | ⟨rfl, hquiet⟩
      · exact NoticeRecord.callingSource_eq ⟨h1, h7⟩ hcalls hleast
      · exact NoticeRecord.callingSource_eq_zero hquiet
    have hfetch := exec_fetchNotice h (NoticeRecord.fetchNotice_of_group (NoticeRecord.callingGroup_eq hg hlow))
    rwa [NoticeRecord.fetch_eq, hn] at hfetch

end Sys2Proof.Machine
end

section
/-! PROOF. ACK GROUP, CLEAR NOTICE, SET NOTICE ENABLES, SET CLEAR MODE and CLEAR RESET CAUSE (O60). -/

namespace Sys2Proof.Machine

theorem noticeGroupOf_eq_none {n : Nat} (h : 3 < n) : noticeGroupOf n = none := by
  unfold noticeGroupOf
  split
  case h_5 => rfl
  all_goals omega

theorem clearModeOf_eq_none {n : Nat} (h : 1 < n) : clearModeOf n = none := by
  unfold clearModeOf
  split
  case h_3 => rfl
  all_goals omega

/-- R181: the stored enables hold no bit of GENERIC or of an unconditional source. -/
theorem enablesOf_eq (p : Payload) : enablesOf p =
    ⟨p.getD 0 0 &&& 0xE8, p.getD 1 0 &&& 0xDE, p.getD 2 0 &&& 0xBE, p.getD 3 0 &&& 0xFE⟩ := rfl

/-- R181: the enables stored and every group judged. -/
theorem NoticeRecord.enable_eq (e : PerGroup Byte) (r : NoticeRecord) :
    (r.enable e).flags = r.flags ∧ (r.enable e).enables = e ∧ (r.enable e).mode = r.mode ∧
    ∀ g, (r.enable e).latches.get g =
      if r.latches.get g = .clear ∧ (r.enable e).pending g = true then .set else r.latches.get g := by
  obtain ⟨hflags, henables, hmode, hlatch⟩ := foldl_judge allGroups { r with enables := e }
  refine ⟨hflags, henables, hmode, fun g => ?_⟩
  have hpending : (r.enable e).pending g = NoticeRecord.pending { r with enables := e } g :=
    pending_congr (congrArg (·.get g) hflags) henables
  rw [hpending]
  exact (hlatch g).trans (if_pos (mem_allGroups g))

section Requests
variable {l : LinkId} {p : Payload} {s : State} {g : NoticeGroup}

/-- R179. -/
theorem ackGroup_eq (hg : u8 p 0 = g.code) : ackGroup l p s = .ok (modNotices l (fun r => { r with
    latches := r.latches.set g (if r.pending g then .set else .clear) }) s, .ok) := by
  unfold ackGroup
  rw [hg, noticeGroupOf_code]
  simp only [NoticeRecord.ack, NoticeRecord.judge_of_cleared]

theorem ackGroup_badValue (h : 3 < u8 p 0) : ackGroup l p s = .error .badValue := by
  unfold ackGroup
  rw [noticeGroupOf_eq_none h]

theorem clearNotice_badGroup (h : 3 < u8 p 0) : clearNotice l p s = .error .badValue := by
  unfold clearNotice
  rw [noticeGroupOf_eq_none h]

theorem clearNotice_badSource (hg : u8 p 0 = g.code) (h : 7 < u8 p 1) : clearNotice l p s = .error .badValue := by
  unfold clearNotice
  rw [hg, noticeGroupOf_code]
  exact if_pos h

/-- R180. -/
theorem clearNotice_eq (hg : u8 p 0 = g.code) (h : u8 p 1 ≤ 7) :
    clearNotice l p s = .ok (modNotices l (·.clearFlag g (u8 p 1)) s, .ok) := by
  unfold clearNotice
  rw [hg, noticeGroupOf_code]
  exact if_neg (by omega)

/-- R180: GENERIC has no flag to clear. -/
theorem clearNotice_generic (hg : u8 p 0 = g.code) (h : u8 p 1 = 0) : clearNotice l p s = .ok (s, .ok) := by
  rw [clearNotice_eq hg (by omega), h]
  simp [modNotices]

/-- R182. -/
theorem setClearMode_eq {m : ClearMode} (h : clearModeOf (u8 p 0) = some m) :
    setClearMode l p s = .ok (modNotices l (fun r => { r with mode := m }) s, .ok) := by
  unfold setClearMode
  rw [h]

theorem setClearMode_badValue (h : 1 < u8 p 0) : setClearMode l p s = .error .badValue := by
  unfold setClearMode
  rw [clearModeOf_eq_none h]

end Requests

/-- Settles O60. -/
theorem noticeRequestsActOnTheOwnRecord : Obligations.noticeRequestsActOnTheOwnRecord := by
  rintro l p s r rfl
  refine ⟨fun h g hg => ?ack, fun h hbad => ?ackBad, fun h hbad => ?clearBad,
    fun h g hg => ⟨fun hbad => ?sourceBad, fun hgeneric => ?generic, fun h1 h7 => ?clear⟩, fun h => ?enables,
    fun h => ⟨fun hauto => ?auto, fun hmanual => ?manual, fun hbad => ?modeBad⟩, fun h => ?cause⟩
  case ack => exact exec_answeredOk h (ackGroup_eq hg)
  case ackBad => exact exec_refusedWith h (ackGroup_badValue hbad)
  case clearBad => exact exec_refusedWith h (clearNotice_badGroup hbad)
  case sourceBad => exact exec_refusedWith h (clearNotice_badSource hg hbad)
  case generic => exact exec_answeredOk h (clearNotice_generic hg hgeneric)
  case clear =>
    have hclear := exec_answeredOk h (clearNotice_eq hg h7)
    rwa [modNotices, NoticeRecord.clearFlag_of_pos h1] at hclear
  case enables =>
    obtain ⟨hflags, henables, hmode, hlatch⟩ := (s.notices.get l).enable_eq (enablesOf p)
    exact ⟨_, _, exec_answeredOk h rfl, rfl, hflags, hmode, henables.trans (enablesOf_eq p), hlatch⟩
  case auto => exact exec_answeredOk h (setClearMode_eq (by rw [hauto]; rfl))
  case manual => exact exec_answeredOk h (setClearMode_eq (by rw [hmanual]; rfl))
  case modeBad => exact exec_refusedWith h (setClearMode_badValue hbad)
  case cause => exact exec_answeredOk h rfl

end Sys2Proof.Machine
end

section
/-! SUPPORT. The notice law (R172, R175, R179) record by record, what keeps it, and the states that operations off the
ports reach. -/

namespace Sys2Proof.Machine

/-- What the notice law says of one record. -/
def NoticeRecord.Sound (r : NoticeRecord) : Prop :=
  ∀ g, (r.flags.get g).getLsbD 0 = false ∧ r.enables.get g &&& ~~~ conditionalBits g = 0 ∧
    (r.pending g = true → r.latches.get g ≠ .clear)

theorem noticeLaw_iff (s : State) : s.noticeLaw ↔ ∀ l, (s.notices.get l).Sound := Iff.rfl

/-! ### What keeps a record under the law -/

namespace NoticeRecord
variable {r : NoticeRecord}

/-- R175: a group judged does not stand pending with its latch clear. -/
theorem judgedLatch_ne_clear {g : NoticeGroup} (h : r.pending g = true) : r.judgedLatch g ≠ .clear := by
  unfold judgedLatch
  split
  · exact nofun
  · next hn => exact fun hclear => hn ⟨hclear, h⟩

/-- R174: a raise judges its own group, and leaves the others. -/
theorem Sound.raise (h : r.Sound) (n : Notice) : (r.raise n).Sound := by
  intro g
  obtain ⟨hgeneric, henables, hlatched⟩ := h g
  have hsame : (r.raise n).enables = r.enables := judge_enables ..
  rw [raise_flags, hsame]
  by_cases hg : g = n.group
  · subst hg
    refine ⟨?_, henables, fun hp => ?_⟩
    · have h0 : (0 : Nat) ≠ n.number := Nat.ne_of_lt n.number_bounds.1
      rw [PerGroup.get_set, n.getLsbD_or_sourceBit _ h0, hgeneric]
    · rw [NoticeRecord.raise, judge_latch]
      rw [NoticeRecord.raise, judge_pending] at hp
      exact judgedLatch_ne_clear hp
  · rw [PerGroup.get_set_ne _ _ _ _ hg]
    refine ⟨hgeneric, henables, fun hp => ?_⟩
    rw [NoticeRecord.raise, judge_latch_ne hg]
    exact hlatched (pending_congr (by rw [raise_flags, PerGroup.get_set_ne _ _ _ _ hg]) hsame ▸ hp)

theorem Sound.raiseIn (h : r.Sound) (n : Notice) (sc : Scope) (l : LinkId) : (raiseIn n sc l r).Sound := by
  unfold Machine.raiseIn
  split
  · exact h.raise n
  · exact h

/-- R178, R180: flags taken away make no group pending. -/
theorem Sound.clearFlag (h : r.Sound) (g : NoticeGroup) (n : Nat) : (r.clearFlag g n).Sound := by
  intro k
  obtain ⟨hgeneric, henables, hlatched⟩ := h k
  obtain ⟨mask, hmask⟩ := r.clearFlag_fewer_flags g n k
  rw [clearFlag_enables, clearFlag_latches]
  refine ⟨?_, henables, fun hp => hlatched (pending_of_fewer_flags hmask (clearFlag_enables ..) hp)⟩
  rw [hmask, BitVec.getLsbD_and, hgeneric, Bool.false_and]

/-- A latch set anew, where that does not leave a pending group clear. -/
theorem Sound.setLatch (h : r.Sound) {g : NoticeGroup} {x : Latch} (hx : r.pending g = true → x ≠ .clear) :
    NoticeRecord.Sound { r with latches := r.latches.set g x } := by
  intro k
  obtain ⟨hgeneric, henables, hlatched⟩ := h k
  refine ⟨hgeneric, henables, fun hp => ?_⟩
  by_cases hk : k = g
  · subst hk
    rw [PerGroup.get_set]
    exact hx hp
  · rw [PerGroup.get_set_ne _ _ _ _ hk]
    exact hlatched hp

/-- R178. -/
theorem Sound.fetchNotice (h : r.Sound) : r.fetchNotice.1.Sound := by
  unfold NoticeRecord.fetchNotice
  split
  · unfold fetch
    have hfetched := fun g => h.setLatch (g := g) (x := .fetched) fun _ => nofun
    split
    · exact (hfetched _).clearFlag _ _
    · exact hfetched _
  · exact h

/-- R179. -/
theorem Sound.ack (h : r.Sound) (g : NoticeGroup) : (r.ack g).Sound := by
  rw [NoticeRecord.ack, judge_of_cleared]
  exact h.setLatch fun hp => by rw [hp]; exact nofun

/-- R182: the clear mode is no part of the law. -/
theorem Sound.setMode (h : r.Sound) (m : ClearMode) : NoticeRecord.Sound { r with mode := m } := h

/-- R181: enables stored without the bits of GENERIC and of unconditional sources, and every group judged. -/
theorem Sound.enable (h : r.Sound) {e : PerGroup Byte} (he : ∀ g, e.get g &&& ~~~ conditionalBits g = 0) :
    (r.enable e).Sound := by
  intro g
  obtain ⟨hflags, henables, -, hlatch⟩ := r.enable_eq e
  refine ⟨hflags ▸ (h g).1, by rw [henables]; exact he g, fun hp => ?_⟩
  rw [hlatch]
  split
  · exact nofun
  · next hn => exact fun hclear => hn ⟨hclear, hp⟩

end NoticeRecord

/-- R172, R181: the enables that SET NOTICE ENABLES stores. -/
theorem enablesOf_conditional (p : Payload) (g : NoticeGroup) : (enablesOf p).get g &&& ~~~ conditionalBits g = 0 := by
  have hmasked : ∀ b c : Byte, b &&& c &&& ~~~ c = 0 := fun b c => by
    rw [BitVec.and_assoc, BitVec.and_not_self]
    exact BitVec.and_zero
  cases g <;> exact hmasked ..

/-! ### States -/

/-- `t` is under the notice law where `s` is, and its ports are those of `s`. -/
structure State.Notifies (s t : State) : Prop where
  law : s.noticeLaw → t.noticeLaw
  ports : t.ports = s.ports

section Notifies
variable {s t u : State}

/-- What leaves the notices and the ports. -/
theorem State.Notifies.quiet (notices : t.notices = s.notices := by rfl) (ports : t.ports = s.ports := by rfl) :
    s.Notifies t where
  law h l := notices ▸ h l
  ports := ports

theorem State.Notifies.refl (s : State) : s.Notifies s := .quiet

theorem State.Notifies.trans (h : s.Notifies t) (k : t.Notifies u) : s.Notifies u :=
  ⟨k.law ∘ h.law, k.ports.trans h.ports⟩

theorem raise_notifies (n : Notice) (sc : Scope) (s : State) : s.Notifies (raise n sc s) where
  law h := (noticeLaw_iff _).mpr fun l => by
    rw [raise_notices_get]
    exact ((noticeLaw_iff s).mp h l).raiseIn n sc l
  ports := rfl

theorem State.Notifies.raised (h : s.Notifies t) {n : Notice} {sc : Scope} : s.Notifies (raise n sc t) :=
  h.trans (raise_notifies ..)

theorem ite_notifies {p : Prop} [Decidable p] (ht : s.Notifies t) (hu : s.Notifies u) :
    s.Notifies (if p then t else u) := by
  split
  · exact ht
  · exact hu

theorem State.Notifies.raisedIf (h : s.Notifies t) {b : Bool} {n : Notice} {sc : Scope} :
    s.Notifies (raiseIf b n sc t) := ite_notifies h.raised h

theorem foldl_notifies {α : Type} {f : State → α → State} (h : ∀ (s : State) (a : α), s.Notifies (f s a))
    (xs : List α) (s : State) : s.Notifies (xs.foldl f s) := by
  induction xs generalizing s with
  | nil => exact .refl s
  | cons x r ih => exact (h s x).trans (ih _)

/-- What a mask over the inductions says is left. -/
theorem notifies_of_sansInds (h : t.sansInds = s.sansInds) : s.Notifies t :=
  .quiet (congrArg State.notices h :) (congrArg State.ports h :)

/-- A link's own record rewritten. -/
theorem modNotices_notifies {f : NoticeRecord → NoticeRecord} (hf : ∀ r, NoticeRecord.Sound r → (f r).Sound)
    (l : LinkId) (s : State) : s.Notifies (modNotices l f s) where
  law h := (noticeLaw_iff _).mpr fun k => by
    rw [modNotices_get]
    split
    · exact hf _ ((noticeLaw_iff s).mp h k)
    · exact (noticeLaw_iff s).mp h k
  ports := rfl

end Notifies

end Sys2Proof.Machine
end

section
/-! SUPPORT. The port law (R186, R187) port by port, and what keeps it. -/

namespace Sys2Proof.Machine

/-- What the port law says of one port. -/
structure Port.Sound (x : Port) : Prop where
  released : x.selected = false → x.state = .idle ∨ x.state = .taking true
  idle : x.state = .idle → x.request = []
  receiving : x.state = .receiving → wholeRequest x.request = false
  taking : ∀ abandoned, x.state = .taking abandoned → wholeRequest x.request = true
  answering : ∀ rest, x.state = .answering rest → rest ≠ []

theorem portLaw_iff (s : State) : s.portLaw ↔ ∀ l, (s.port l).Sound :=
  forall_congr' fun _ =>
    ⟨fun ⟨hreleased, hidle, hreceiving, htaking, hanswering⟩ => ⟨hreleased, hidle, hreceiving, htaking, hanswering⟩,
      fun h => ⟨h.released, h.idle, h.receiving, h.taking, h.answering⟩⟩

theorem portLaw_of_ports {s t : State} (hports : t.ports = s.ports) (h : s.portLaw) : t.portLaw := by
  rw [portLaw_iff] at *
  intro l
  rw [State.port, hports]
  exact h l

theorem setPort_portLaw {l : LinkId} {x : Port} {s : State} (h : s.portLaw) (hx : x.Sound) :
    (setPort l x s).portLaw := by
  rw [portLaw_iff] at *
  intro k
  by_cases hk : k = l
  · subst hk
    rwa [State.port, setPort, PerLink.get_set]
  · rw [State.port, setPort, PerLink.get_set_ne _ _ _ _ hk]
    exact h k

/-- An empty port in IDLE. -/
theorem Port.Sound.cleared (level : Bool) : Port.Sound { state := .idle, selected := level, request := [] } :=
  ⟨fun _ => .inl rfl, fun _ => rfl, nofun, nofun, nofun⟩

/-- R186: a port that has just opened a transaction. -/
theorem Port.Sound.opened : Port.Sound { state := .receiving, selected := true, request := [] } :=
  ⟨nofun, nofun, fun _ => rfl, nofun, nofun⟩

section Sound
variable {x : Port}

/-- R186, R187: a transaction in progress has its select asserted. -/
theorem Port.Sound.selected (h : x.Sound) (hidle : x.state ≠ .idle) (htaking : x.state ≠ .taking true) :
    x.selected = true := by
  by_contra hne
  exact (h.released (Bool.eq_false_of_not_eq_true hne)).elim hidle htaking

/-- R186: the byte that completes a request puts its port in TAKING. -/
theorem Port.Sound.store (hsel : x.selected = true) (b : Byte) : (x.store b).Sound := by
  unfold Port.store
  split
  · next hwhole => exact ⟨fun hs => Bool.noConfusion (hsel.symm.trans hs), nofun, nofun, fun _ _ => hwhole, nofun⟩
  · next hpart =>
    exact ⟨fun hs => Bool.noConfusion (hsel.symm.trans hs), nofun, fun _ => Bool.eq_false_of_not_eq_true hpart, nofun,
      nofun⟩

/-- A port with its select asserted that sends a response, or is at its end. -/
theorem Port.Sound.sending {state : PortState} (hsel : x.selected = true)
    (hstate : state = .ended ∨ ∃ rest, rest ≠ [] ∧ state = .answering rest) (request : List Byte) :
    Port.Sound { x with state := state, request := request } := by
  rcases hstate with rfl | ⟨rest, hrest, rfl⟩
  · exact ⟨fun hs => Bool.noConfusion (hsel.symm.trans hs), nofun, nofun, nofun, nofun⟩
  · exact ⟨fun hs => Bool.noConfusion (hsel.symm.trans hs), nofun, nofun, nofun,
      fun _ e => PortState.answering.inj e ▸ hrest⟩

theorem afterByte_cases (rest : List Byte) :
    afterByte rest = .ended ∨ ∃ r, r ≠ [] ∧ afterByte rest = .answering r := by
  unfold afterByte
  split
  · exact .inl rfl
  · next h => exact .inr ⟨_, h, rfl⟩

/-- R186, R194: one byte time. -/
theorem Port.Sound.clockIn (h : x.Sound) (b : Byte) : (x.clockIn b).Sound := by
  unfold Port.clockIn
  split
  · next hs => exact .store (h.selected (by rw [hs]; nofun) (by rw [hs]; nofun)) b
  · next rest hs =>
    exact Port.Sound.sending (h.selected (by rw [hs]; nofun) (by rw [hs]; nofun)) (afterByte_cases rest) x.request
  all_goals exact h

/-- R186, R187: select released. -/
theorem Port.Sound.release (h : x.Sound) : x.release.Sound := by
  unfold Port.release
  split
  · next hs => exact ⟨fun _ => .inr rfl, nofun, nofun, fun _ _ => h.taking _ hs, nofun⟩
  all_goals exact .cleared false

/-- R187: a port whose select was released in TAKING, once its request has been taken. -/
theorem Port.reopened_sound (x : Port) : x.reopened.Sound := by
  unfold Port.reopened
  cases hs : x.selected with
  | false => exact .cleared false
  | true => exact .opened

/-- R187, R193: select asserted where it opens no transaction. -/
theorem Port.Sound.asserted (h : x.Sound) : Port.Sound { x with selected := true } :=
  ⟨nofun, h.idle, h.receiving, h.taking, h.answering⟩

end Sound

/-! ### States -/

section States
variable {s : State} {l : LinkId} {frame response : List Byte}

/-- R186: a request comes whole only at a port in RECEIVING or TAKING. -/
theorem ne_idle_of_completes (h : s.completes l frame = true) : (s.port l).state ≠ .idle := by
  intro hidle
  rw [State.completes, hidle, Bool.and_false] at h
  cases h

theorem responseBytes_ne_nil (a : Except Reason Reply) : responseBytes a ≠ [] := by cases a <;> exact nofun

/-- R186, R187: the response of a request taken at a port. -/
theorem deliver_portLaw {t : State} (h : s.portLaw) (hports : t.ports = s.ports) (hwhole : s.completes l frame = true)
    (hresponse : response ≠ []) : (deliver (s.port l) l frame response t).portLaw := by
  have hport : t.port l = s.port l := by rw [State.port, hports, State.port]
  have hx := (portLaw_iff s).mp h l
  by_cases htaking : (s.port l).state = .taking true
  · rw [deliver_abandoned htaking]
    exact setPort_portLaw (portLaw_of_ports hports h) (Port.reopened_sound _)
  · rw [deliver_heard htaking, Machine.answering, hport]
    exact setPort_portLaw (portLaw_of_ports hports h)
      (Port.Sound.sending (hx.selected (ne_idle_of_completes hwhole) htaking) (.inr ⟨_, hresponse, rfl⟩) frame)

theorem assertSelect_portLaw (h : s.portLaw) : (assertSelect l s).portLaw := by
  unfold assertSelect
  dsimp only
  split
  · exact h
  · split
    · exact setPort_portLaw h ((portLaw_iff s).mp h l).asserted
    · exact setPort_portLaw h .opened

theorem releaseSelect_portLaw (h : s.portLaw) : (releaseSelect l s).portLaw := by
  unfold releaseSelect
  split
  · exact setPort_portLaw h ((portLaw_iff s).mp h l).release
  · exact h

/-- R186: one byte time at each port. -/
theorem clockBytes_portLaw (h : s.portLaw) : (clockBytes s).portLaw := by
  have hone : ∀ (u : State) (l : LinkId), u.portLaw → (clockByte u l).portLaw := fun u l hu => by
    unfold clockByte
    split
    · exact setPort_portLaw hu (((portLaw_iff u).mp hu l).clockIn _)
    · exact hu
  exact List.foldlRecOn allLinks clockByte h fun u hu l _ => hone u l hu

/-- R193: both resets leave every port IDLE with an empty buffer. -/
theorem resetBlocks_portLaw (cause : ResetCause) (low : Bool) (s : State) : (resetBlocks cause low s).portLaw :=
  (portLaw_iff _).mpr fun l => by cases l <;> exact .cleared _

end States

end Sys2Proof.Machine
end

section
/-! SUPPORT. What the bags on the loop bring about keeps the notice law and leaves the ports: an operation reaches the
notices by its raises alone. -/

namespace Sys2Proof.Machine

-- Elaborated in turn, as the proof of O14 is, for the memory that the threads' stacks would take.
set_option Elab.async false

/-! ### Slots, trays, inductions -/

theorem reportZero_notifies (sl : Slot) (s : State) : s.Notifies (reportZero sl s) :=
  ite_notifies (.raised .quiet) (.refl s)

theorem reportCount_notifies (sl : Slot) (s : State) : s.Notifies (reportCount sl s) :=
  ite_notifies (reportZero_notifies sl s) (.refl s)

theorem judgeQuota_notifies (sl : Slot) (s : State) : s.Notifies (judgeQuota sl s) :=
  ite_notifies (.raised .quiet) (ite_notifies .quiet (.refl s))

theorem judgeLoopHold_notifies (s : State) : s.Notifies (judgeLoopHold s) :=
  ite_notifies (.raised .quiet) (ite_notifies .quiet (.refl s))

theorem putTray_notifies (t : Nat) (x : Tray) (s : State) : s.Notifies (putTray t x s) := .quiet

theorem emptyTray_notifies (t : Nat) (s : State) : s.Notifies (emptyTray t s) := by
  refine (putTray_notifies t .empty s).trans (.trans ?_ (judgeLoopHold_notifies _))
  split
  · exact reportCount_notifies ..
  · exact .refl _

theorem loadTray_notifies (t : Nat) (b : BagRecord) (s : State) : s.Notifies (loadTray t b s) :=
  (putTray_notifies ..).trans (judgeLoopHold_notifies _)

theorem settleHolds_notifies (v u : State) : u.Notifies (settleHolds v u) :=
  notifies_of_sansInds (settleHolds_frame v u)

theorem requestReservation_notifies (i : IndId) (s : State) : s.Notifies (requestReservation i s) :=
  notifies_of_sansInds (requestReservation_frame ..)

theorem writeNote_notifies (t : Nat) (n : UndoNote) (s : State) : s.Notifies (writeNote t n s) :=
  notifies_of_sansInds (writeNote_frame ..)

/-! ### Chutes and what is judged after them -/

theorem setChute_notifies (c : ChuteId) (x : Chute) (s : State) : s.Notifies (setChute c x s) :=
  .quiet (setChute_notices c x s) (congrArg State.ports (setChute_frame c x s) :)

theorem modChute_notifies (c : ChuteId) (f : Chute → Chute) (s : State) : s.Notifies (modChute c f s) :=
  setChute_notifies ..

theorem judgeStrayArmed_notifies (s : State) : s.Notifies (judgeStrayArmed s) := ite_notifies .quiet (.refl s)

theorem takeOver_notifies (k c : ChuteId) (s : State) : s.Notifies (takeOver k c s) :=
  (modChute_notifies ..).raised

theorem coverFull_notifies (c : ChuteId) (s : State) : s.Notifies (coverFull c s) :=
  ite_notifies (foldl_notifies (fun s k => takeOver_notifies k c s) _ s) (.refl s)

theorem judgeStandby_notifies (c : ChuteId) (s : State) : s.Notifies (judgeStandby c s) := by
  refine ite_notifies ?_ (.refl s)
  split
  · exact takeOver_notifies ..
  · exact .refl s

theorem judgeFill_notifies (c : ChuteId) (s : State) : s.Notifies (judgeFill c s) :=
  ite_notifies
    (ite_notifies ((modChute_notifies ..).raised.trans (coverFull_notifies ..)) (modChute_notifies ..).raisedIf)
    (.refl s)

theorem returnFill_notifies (c : ChuteId) (g : BitVec 8) (u : Nat) (s : State) : s.Notifies (returnFill c g u s) :=
  ite_notifies ((modChute_notifies ..).trans (judgeFill_notifies ..)) (.refl s)

theorem tiltFailed_notifies (c : ChuteId) (s : State) : s.Notifies (tiltFailed c s) :=
  ite_notifies (.refl s) (ite_notifies (modChute_notifies ..).raisedIf (modChute_notifies ..))

theorem setJam_notifies (c : ChuteId) (s : State) : s.Notifies (setJam c s) := (modChute_notifies ..).raised

theorem clearEye_notifies (c : ChuteId) (s : State) : s.Notifies (clearEye c s) :=
  (modChute_notifies ..).trans (.trans (.trans .quiet (judgeStrayArmed_notifies _)) (judgeStandby_notifies ..))

theorem blockedSelection_notifies (g : Group) (s : State) : s.Notifies (blockedSelection g s) := by
  unfold blockedSelection
  split
  · exact .raisedIf .quiet
  · exact .raised (ite_notifies .quiet (.refl s))

theorem noChute_notifies (d : Dest) (u : Nat) (s : State) : s.Notifies (noChute d u s) := by
  refine ite_notifies (.refl s) ?_
  split
  · exact blockedSelection_notifies ..
  · exact ite_notifies (.raised .quiet) (.refl s)

/-! ### Selections and fires -/

theorem cancelSelection_notifies (t : Nat) (s : State) : s.Notifies (cancelSelection t s) :=
  .quiet (cancelSelection_notices t s) (congrArg State.ports (cancelSelection_frame t s) :)

theorem cancelAll_notifies (want : Tray → Bool) (s : State) : s.Notifies (cancelAll want s) :=
  foldl_notifies (fun s t => cancelSelection_notifies t s) _ s

theorem passToSelection_notifies (t : Nat) (s : State) : s.Notifies (passToSelection t s) := by
  unfold passToSelection
  split
  case h_1 =>
    split
    · split
      · exact (putTray_notifies ..).trans (modChute_notifies ..)
      · exact noChute_notifies ..
    · exact .refl s
  all_goals exact .refl s

theorem armTray_notifies (t : Nat) (s : State) : s.Notifies (armTray t s) := by
  unfold armTray
  split
  case h_1 =>
    exact ite_notifies
      (ite_notifies ((modChute_notifies ..).trans (putTray_notifies ..)).raised (.raisedIf .quiet)) (.refl s)
  all_goals exact .refl s

theorem closeUnconfirmed_notifies (c : ChuteId) (w : ConfirmWindow) (later : List ConfirmWindow) (s : State) :
    s.Notifies (closeUnconfirmed c w later s) := by
  unfold closeUnconfirmed
  split
  case h_1 => exact ite_notifies (putTray_notifies ..) (.refl s)
  all_goals exact .refl s

theorem openWindow_notifies (c : ChuteId) (t : Nat) (s : State) : s.Notifies (openWindow c t s) := by
  unfold openWindow
  dsimp only
  split
  · exact ite_notifies (.trans .quiet (closeUnconfirmed_notifies ..)) .quiet
  · exact .quiet

theorem fireRecord_notifies (r : FireRecord) (s : State) : s.Notifies (fireRecord r s) := by
  unfold fireRecord
  split
  case h_1 =>
    refine ite_notifies (.trans (.trans ?_ (putTray_notifies ..)) (openWindow_notifies ..)) (.refl s)
    exact .trans .quiet ((modChute_notifies ..).trans (judgeFill_notifies ..))
  all_goals exact .refl s

theorem fireHead_notifies (s : State) : s.Notifies (fireHead s) := by
  unfold fireHead
  split
  · exact ite_notifies (.trans .quiet (fireRecord_notifies ..)) (.refl s)
  · exact .refl s

/-! ### Bags, entries and strays -/

theorem sortEntry_notifies (tag : Tag) (c : ChuteId) (u : Bool) (s : State) : s.Notifies (sortEntry tag c u s) := by
  unfold sortEntry
  split
  · split
    case h_1 => exact .raisedIf .quiet
    all_goals exact .refl s
  · exact .refl s

theorem straySorted_notifies (id : Option (BitVec 16)) (s : State) : s.Notifies (straySorted id s) := by
  unfold straySorted
  split
  · exact ite_notifies .quiet (.refl s)
  · exact .refl s

theorem sortBag_notifies (b : BagRecord) (c : ChuteId) (u : Bool) (s : State) : s.Notifies (sortBag b c u s) := by
  unfold sortBag
  split
  · exact (sortEntry_notifies ..).trans (straySorted_notifies ..)
  · split
    · exact ite_notifies .quiet (.refl s)
    · exact .refl s

theorem loseBag_notifies (b : BagRecord) (s : State) : s.Notifies (loseBag b s) := by
  rw [loseBag_eq]
  exact .quiet

theorem undoStray_notifies (u : UndoStray) (s : State) : s.Notifies (undoStray u s) := by
  unfold undoStray
  split
  · split
    · exact ite_notifies .quiet (ite_notifies .quiet (.refl s))
    · exact .refl s
  · split
    · exact ite_notifies .quiet (.refl s)
    · exact .refl s

theorem undoNote_notifies (linked : Option Tag) (n : UndoNote) (s : State) : s.Notifies (undoNote linked n s) := by
  have hrestored : s.Notifies (restoreLinked linked n s) := by
    rw [restoreLinked_eq]
    exact .quiet
  rw [undoNote_def]
  split
  · exact hrestored.trans (undoStray_notifies ..)
  · exact hrestored

/-- R157, R158: a stray appended or unlisted is noticed. -/
theorem recordStray_notifies (q : StrayRequest) (s : State) : s.Notifies (recordStray q s).state := by
  cases h : s.carrierOf q with
  | some e =>
    rw [recordStray_carried h, countStray_eq]
    exact .quiet
  | none =>
    rcases lt_or_ge s.strays.length 128 with hlen | hlen
    · rw [recordStray_appended h hlen]
      exact .raised .quiet
    · rw [recordStray_unlisted h hlen]
      exact .raised .quiet

theorem reinductStray_notifies (tag : Tag) (sl : Slot) (s : State) : s.Notifies (reinductStray tag sl s).state := by
  unfold reinductStray
  split
  · exact .quiet
  · exact .refl s

theorem matchStray_notifies (sl : Slot) (tag : Tag) (s : State) : s.Notifies (matchStray sl tag s) := by
  unfold matchStray
  split
  · exact .raised .quiet
  · exact .refl s

/-! ### Classification (R93 to R101) -/

theorem makeStray_notifies (t : Nat) (q : StrayRequest) (s : State) : s.Notifies (makeStray t q s).state :=
  (recordStray_notifies q s).trans .quiet

theorem routeBag_notifies (t : Nat) (sl : Slot) (e : BagEntry) (s : State) : s.Notifies (routeBag t sl e s).state :=
  .trans (.trans (.quiet (t := linkEntry e.tag s)) (reinductStray_notifies ..)) .quiet

theorem classifyEntry_notifies (t : Nat) (tag : Tag) (sl : Slot) (e : BagEntry) (s : State) :
    s.Notifies (classifyEntry t tag sl e s).state := by
  unfold classifyEntry
  split
  case h_1 | h_2 => exact .trans (raise_notifies ..) (makeStray_notifies ..)
  all_goals
    split
    · exact routeBag_notifies ..
    · split
      · exact .quiet
      · exact makeStray_notifies ..

theorem classifyInSlot_notifies (t : Nat) (tag : Tag) (sl : Slot) (s : State) :
    s.Notifies (classifyInSlot t tag sl s).state := by
  unfold classifyInSlot
  split
  · exact makeStray_notifies ..
  · split
    · exact classifyEntry_notifies ..
    · split
      · exact .quiet
      · exact makeStray_notifies ..

theorem classifyTag_notifies (t : Nat) (tag : Tag) (s : State) : s.Notifies (classifyTag t tag s).state := by
  unfold classifyTag
  split
  · exact makeStray_notifies ..
  · split
    case h_1 | h_2 => exact makeStray_notifies ..
    all_goals exact .trans .quiet (classifyInSlot_notifies ..)

theorem classify_notifies (t : Nat) (s : State) : s.Notifies (classify t s).state := by
  unfold classify
  split
  · exact .refl s
  · split
    · exact makeStray_notifies ..
    · split
      · exact makeStray_notifies ..
      · exact .trans .quiet (classifyTag_notifies ..)

/-! ### Wakes and the check eye -/

theorem raiseExpired_notifies (t : Nat) (s : State) : s.Notifies (raiseExpired t s) := by
  unfold raiseExpired
  split
  · exact (State.Notifies.refl s).raisedIf
  · exact .refl s

theorem wakeTray_notifies (t : Nat) (s : State) : s.Notifies (wakeTray t s) := by
  rcases wakeTray_cases t s with ⟨b, -, -, e⟩ | e
  · rw [e]
    exact (classify_notifies t s).trans
      (.trans (.trans (writeNote_notifies ..) (raiseExpired_notifies ..)) (passToSelection_notifies ..))
  · rw [e]
    exact .refl s

theorem wakeWhere_notifies (sl : Slot) (want : BagRecord → Bool) (s : State) : s.Notifies (wakeWhere sl want s) :=
  foldl_notifies (fun s t => wakeTray_notifies t s) _ s

theorem judgeWait_notifies (t : Nat) (s : State) : s.Notifies (judgeWait t s) := by
  refine (classify_notifies t s).trans ?_
  unfold judgeWait
  dsimp only
  split
  · split
    · exact ite_notifies (makeStray_notifies ..).raised (.refl _)
    · exact .refl _
    · exact raiseExpired_notifies ..
  · exact .refl _

theorem judgeLimit_notifies (t : Nat) (s : State) : s.Notifies (judgeLimit t s) := by
  unfold judgeLimit
  split
  · refine ite_notifies ?_ (.refl s)
    dsimp only
    split
    · exact (makeStray_notifies t ..).trans .quiet
    · exact makeStray_notifies ..
  · exact .refl s

theorem newPass_notifies (t : Nat) (s : State) : s.Notifies (newPass t s) := by
  have hpass : s.Notifies (modBag t (fun b => { b with passes := min 8 (b.passes + 1) }) s) := .quiet
  rw [newPass_eq]
  refine .trans (.trans ?_ (judgeLimit_notifies ..)) (passToSelection_notifies ..)
  unfold passJudged
  dsimp only
  split
  · exact ite_notifies (hpass.trans (judgeWait_notifies ..)) hpass
  · exact hpass

theorem loadOrphan_notifies (t : Nat) (s : State) : s.Notifies (loadOrphan t s) :=
  .trans (.trans (loadTray_notifies ..) (makeStray_notifies ..)) (passToSelection_notifies ..)

theorem orphanFound_notifies (t : Nat) (s : State) : s.Notifies (orphanFound t s) := by
  refine .trans ?_ (.trans (raise_notifies ..) (loadOrphan_notifies ..))
  split
  case h_1 => exact notifies_of_sansInds (loseReservation_frame ..)
  all_goals exact .refl s

theorem settleLoaded_notifies (t : Nat) (b : BagRecord) (eye : Bool) (s : State) :
    s.Notifies (settleLoaded t b eye s) :=
  ite_notifies (newPass_notifies ..)
    (((raise_notifies ..).trans (loseBag_notifies ..)).trans (emptyTray_notifies ..))

theorem settleUnconfirmed_notifies (t : Nat) (b : BagRecord) (c : ChuteId) (g : BitVec 8) (eye : Bool) (s : State) :
    s.Notifies (settleUnconfirmed t b c g eye s) :=
  ite_notifies
    ((((returnFill_notifies ..).trans (tiltFailed_notifies ..)).trans (putTray_notifies ..)).trans (newPass_notifies ..))
    ((sortBag_notifies ..).raised.trans (emptyTray_notifies ..))

theorem settleRow_notifies (t : Nat) (eye : Bool) (s : State) : s.Notifies (settleRow t eye s) := by
  unfold settleRow
  split
  case h_1 | h_2 => exact ite_notifies (orphanFound_notifies ..) (.refl s)
  case h_3 => exact settleLoaded_notifies ..
  case h_4 => exact settleUnconfirmed_notifies ..
  case h_5 => exact (cancelSelection_notifies ..).raised.trans (settleLoaded_notifies ..)
  case h_6 => exact .trans .quiet (settleUnconfirmed_notifies ..)
  case h_7 => exact ite_notifies (loadOrphan_notifies ..) (emptyTray_notifies ..)
  case h_8 => exact .refl s

theorem closeLaunch_notifies (t : Nat) (s : State) : s.Notifies (closeLaunch t s) := by
  have hclosed := foldl_notifies (f := fun s i =>
    modInd i (fun r => { r with windows := r.windows.filter fun w => w.tray != t }) s) (fun _ _ => .quiet) allInds s
  exact ite_notifies (hclosed.trans .quiet) (.refl s)

theorem reconcile_notifies (t : Nat) (eye : Bool) (s : State) : s.Notifies (reconcile t eye s) :=
  (closeLaunch_notifies ..).trans (settleRow_notifies ..)

/-! ### The pitch event and the stall -/

theorem grantReservation_notifies (s : State) : s.Notifies (grantReservation s) := by
  refine ite_notifies ?_ (.refl s)
  split
  · exact .quiet
  · exact .refl s

theorem claimTray_notifies (i : IndId) (t : Nat) (s : State) : s.Notifies (claimTray i t s) := by
  unfold claimTray
  split
  next r q _ =>
    have hloaded : s.Notifies (loadTray t (newBag i r)
        (modInd i (fun x => { x with queue := q, waitCount := 0 }.judgeQueue) s)) :=
      .trans .quiet (loadTray_notifies ..)
    exact .trans (.trans (hloaded.trans (classify_notifies ..)) (passToSelection_notifies ..)) .quiet
  next => exact .refl s

theorem claimCheck_notifies (hold : Bool) (i : IndId) (s : State) : s.Notifies (claimCheck hold i s) := by
  have hreleased : ∀ t, s.Notifies (releaseGranted i t s) := fun t => by
    refine ite_notifies ?_ (.refl s)
    rw [freeReserved_eq]
    exact .quiet
  refine ite_notifies ((claimTray_notifies ..).trans (requestReservation_notifies ..)) ?_
  exact (ite_notifies (hreleased _) (.refl s)).trans (.trans .quiet (requestReservation_notifies ..))

theorem doAct_notifies (hold eye : Bool) (s : State) (a : PitchAct) : s.Notifies (doAct hold eye s a) := by
  refine .trans ?_ (settleHolds_notifies s _)
  cases a with
  | claim i => exact claimCheck_notifies ..
  | grant => exact grantReservation_notifies _
  | reconcile => exact reconcile_notifies ..
  | arm t => exact armTray_notifies ..
  | reselect t => exact passToSelection_notifies ..

theorem expireWindows_notifies (i : IndId) (s : State) : s.Notifies (expireWindows i s) := by
  rw [expireWindows_eq]
  exact .quiet

theorem pitchActs_notifies (hold first : Bool) (order : List Nat) (eye : Bool) (s : State) :
    s.Notifies (pitchActs hold first order eye s) :=
  (foldl_notifies (f := fun s i => expireWindows i (countWindows i s))
    (fun _ _ => .trans .quiet (expireWindows_notifies ..)) _ s).trans (foldl_notifies (doAct_notifies hold eye) _ _)

theorem raiseUntracked_notifies (v s : State) : s.Notifies (raiseUntracked v s) :=
  (State.Notifies.refl s).raisedIf.raisedIf

/-- R12: a track slip tells every slot and raises TRACK_SLIP. -/
theorem slipTrays_notifies (s : State) : s.Notifies (slipTrays s) := by
  have hreturned : ∀ (u : State) (x : Tray), u.Notifies (slipUnits u x) := fun u x => by
    unfold slipUnits
    split
    case h_1 | h_2 => exact modChute_notifies ..
    all_goals exact .refl u
  have hdropped : s.Notifies (dropWindows { s with fireQueue := [] }) :=
    .trans .quiet (notifies_of_sansInds (dropWindows_frame _))
  have hcleared : s.Notifies s.slipCleared :=
    .trans (hdropped.trans (foldl_notifies hreturned s.loop.trays _)) .quiet
  have hlost : s.Notifies s.slipLost := hcleared.trans (foldl_notifies (fun u b => loseBag_notifies b u) _ _)
  have htold : ∀ (sl : Slot) (u : State), u.Notifies ((if 0 < s.onLoop sl then reportZero sl else id) u) :=
    fun sl u => by
      split
      · exact reportZero_notifies ..
      · exact .refl u
  rw [slipTrays_def]
  exact ((hlost.trans (htold .a _)).trans (htold .b _)).raised.trans (raiseUntracked_notifies ..)

theorem homeSample_notifies (home : Bool) (s : State) : s.Notifies (homeSample home s) :=
  ite_notifies (ite_notifies .quiet (ite_notifies (.refl s) (.raisedIf .quiet))) (.refl s)

theorem pitchEvent_notifies (order : List Nat) (home eye : Bool) (s : State) :
    s.Notifies (pitchEvent order home eye s) := by
  have hpitched : s.Notifies (settleHolds s (pitchLoop s)) := .trans .quiet (settleHolds_notifies ..)
  refine ite_notifies (.refl s)
    (ite_notifies ?_ ((hpitched.trans (homeSample_notifies ..)).trans (pitchActs_notifies ..)))
  exact hpitched.trans ((slipTrays_notifies _).trans ((reconcile_notifies ..).trans (settleHolds_notifies ..)))

theorem enterStalled_notifies (s : State) : s.Notifies (enterStalled s) :=
  .trans (.raised (.trans (cancelAll_notifies ..) .quiet)) (settleHolds_notifies ..)

/-- R25: RESET LOOP tells every slot. -/
theorem resetMotion_notifies (s : State) : s.Notifies (resetMotion s) := by
  rw [resetMotion_def, State.motionTold]
  exact .trans (.trans (.trans (.trans (.quiet (t := s.motionCleared)) (raiseUntracked_notifies ..))
    (reportZero_notifies ..)) (reportZero_notifies ..)) (judgeStrayArmed_notifies _)

/-! ### Launch answers and confirmations -/

theorem takeFailure_notifies {t : Nat} {s u : State} (h : takeFailure t s = some u) : s.Notifies u := by
  unfold takeFailure at h
  split at h
  case h_1 => exact Option.some.inj h ▸ emptyTray_notifies ..
  case h_2 => exact Option.some.inj h ▸ (modChute_notifies ..).trans (emptyTray_notifies ..)
  case h_3 => exact Option.some.inj h ▸ .trans .quiet ((modChute_notifies ..).trans (emptyTray_notifies ..))
  case h_4 => exact Option.some.inj h ▸ (returnFill_notifies ..).trans (.trans .quiet (emptyTray_notifies ..))
  case h_5 => exact Option.some.inj h ▸ (returnFill_notifies ..).trans (emptyTray_notifies ..)
  all_goals cases h

/-- R35: an overrun is noticed. -/
theorem overrun_notifies (i : IndId) (s : State) : s.Notifies (overrun i s) := .raised .quiet

theorem returnRead_notifies (i : IndId) (rec : ReadRecord) (s : State) : s.Notifies (returnRead i rec s) :=
  ite_notifies (.refl s) (ite_notifies (overrun_notifies i s) .quiet)

theorem failLaunch_notifies (i : IndId) (w : LaunchWindow) (s : State) : s.Notifies (failLaunch i w s) := by
  unfold failLaunch
  split
  · next u hu => exact ((takeFailure_notifies hu).trans (undoNote_notifies ..)).trans (returnRead_notifies ..)
  · exact .refl s

theorem takeAnswer_notifies (i : IndId) (kind : AnswerKind) (t : Nat) (s : State) :
    s.Notifies (takeAnswer i kind t s) := by
  unfold takeAnswer
  split
  · dsimp only
    split
    · exact .quiet
    · exact .trans (.trans .quiet (failLaunch_notifies ..)) (settleHolds_notifies ..)
  · exact raise_notifies ..

theorem confirmTray_notifies (c : ChuteId) (w : ConfirmWindow) (later : List ConfirmWindow) (s : State) :
    s.Notifies (confirmTray c w later s) := by
  unfold confirmTray
  split
  case h_1 => exact ite_notifies ((emptyTray_notifies ..).trans (sortBag_notifies ..)) (.refl s)
  all_goals exact .refl s

theorem confirmOldest_notifies (c : ChuteId) (s : State) : s.Notifies (confirmOldest c s) := by
  unfold confirmOldest
  split
  · exact .trans .quiet (confirmTray_notifies ..)
  · exact .refl s

/-! ### The induction lines (R30 to R39) -/

theorem completeFrame_notifies {i : IndId} {k : FrameKind} {data : List Byte} {take : State → State} (s : State)
    (htake : ∀ u : State, u.Notifies (take u)) : s.Notifies (completeFrame i k data take s) :=
  ite_notifies (.trans .quiet (htake _)) (.refl s)

theorem resendHold_notifies (i : IndId) (s : State) : s.Notifies (resendHold i s) :=
  notifies_of_sansInds (resendHold_frame ..)

theorem takeRead_notifies (i : IndId) (rec : ReadRecord) (s : State) : s.Notifies (takeRead i rec s) := by
  have hqueued : s.Notifies (settleHolds s (queueRead i rec s)) :=
    (ite_notifies (.refl s) (ite_notifies .quiet (overrun_notifies i s))).trans (settleHolds_notifies ..)
  exact ite_notifies ((hqueued.trans .quiet).trans (resendHold_notifies ..)) hqueued

theorem receiveMark_notifies (i : IndId) (k : FrameKind) (s : State) : s.Notifies (receiveMark i k s) := by
  unfold receiveMark
  split
  case h_3 => exact .raised .quiet
  all_goals exact .quiet

theorem receiveFault_notifies (i : IndId) (bad : CharFault) (s : State) : s.Notifies (receiveFault i bad s) := by
  unfold receiveFault
  split
  · exact receiveMark_notifies ..
  · split
    case h_3 => exact .refl s
    all_goals exact .raised .quiet
  · split
    · exact .raised .quiet
    all_goals exact .refl s

theorem receiveBadData_notifies (i : IndId) (field : DataField) (value : Byte) (s : State) :
    s.Notifies (receiveBadData i field value s) := by
  unfold receiveBadData
  split
  · exact ite_notifies (.raised .quiet) (.refl s)
  all_goals exact .refl s

theorem takeFrame_notifies (i : IndId) (k : FrameKind) (data : List Byte) (s : State) :
    s.Notifies (takeFrame i k data s) := by
  have hsized : ∀ reading size, s.Notifies (takeSized i reading size s) := fun reading size => by
    unfold takeSized
    split
    · exact takeRead_notifies ..
    · exact .refl s
  cases k with
  | bag | multi | noread => exact hsized ..
  | done => exact takeAnswer_notifies i .done _ s
  | fail => exact takeAnswer_notifies i .fail _ s

theorem receiveData_notifies (i : IndId) (v : Byte) (s : State) : s.Notifies (receiveData i v s) := by
  unfold receiveData
  split
  · exact ite_notifies (.raised .quiet) (ite_notifies (.trans .quiet (takeFrame_notifies ..)) .quiet)
  all_goals exact .refl s

theorem whenEnabled_notifies {i : IndId} {f : State → State} {s : State} (hf : s.Notifies (f s)) :
    s.Notifies (whenEnabled i f s) := ite_notifies hf (.refl s)

theorem receiveChar_notifies (i : IndId) (c : LineChar) (s : State) : s.Notifies (receiveChar i c s) := by
  refine whenEnabled_notifies (ite_notifies (receiveFault_notifies ..) (ite_notifies ?_ (receiveData_notifies ..)))
  split
  · exact receiveMark_notifies ..
  · exact receiveFault_notifies ..

theorem receiveChars_notifies (s : State) : s.Notifies (receiveChars s) := by
  refine .trans (t := drawOrder s) .quiet (foldl_notifies (fun u i => ?_) _ _)
  unfold nextChar
  split
  · exact .trans .quiet (receiveChar_notifies ..)
  · exact .refl u

end Sys2Proof.Machine
end

section
/-! PROOF. Every step keeps the notice law and the port law (O15). -/

namespace Sys2Proof.Machine

-- Elaborated in turn, as the proof of O14 is, for the memory that the threads' stacks would take.
set_option Elab.async false

/-- Whatever state an answer goes with is under the notice law where `s` is, its ports those of `s`. -/
def Answer.Notifies (s : State) (a : Answer) : Prop := ∀ t reply, a = .ok (t, reply) → s.Notifies t

theorem Answer.notifies_error {s : State} {r : Reason} : Answer.Notifies s (.error r) := fun _ _ e => by cases e

theorem Answer.notifies_ok {s t : State} {reply : Reply} (h : s.Notifies t) : Answer.Notifies s (.ok (t, reply)) :=
  fun _ _ e => (Prod.mk.inj (Except.ok.inj e)).1 ▸ h

section Requests
variable {s : State}

/-! ### The loop and the inductions (chapters 1 and 2) -/

theorem configureLoop_notifies (p : Payload) : Answer.Notifies s (configureLoop p s) := by
  have hstored : ∀ n cfg, s.Notifies (settleHolds s (judgeLoopHold (s.reconfigured n cfg))) := fun n cfg => by
    refine .trans (.trans ?_ (judgeLoopHold_notifies _)) (settleHolds_notifies ..)
    rw [reconfigured_eq]
    exact .quiet
  unfold configureLoop
  dsimp only
  split
  · exact Answer.notifies_error
  · split
    · exact Answer.notifies_error
    · split
      · exact Answer.notifies_error
      · split
        · exact Answer.notifies_error
        · exact Answer.notifies_ok (hstored ..)

theorem startLoop_notifies : Answer.Notifies s (startLoop s) := by
  unfold startLoop
  split
  · exact Answer.notifies_ok (.trans .quiet (settleHolds_notifies ..))
  · exact Answer.notifies_error

theorem stopLoop_notifies : Answer.Notifies s (stopLoop s) := by
  unfold stopLoop
  split
  · exact Answer.notifies_ok (.refl s)
  · exact Answer.notifies_ok (.trans (.trans (cancelAll_notifies ..) .quiet) (settleHolds_notifies ..))

theorem resetLoop_notifies : Answer.Notifies s (resetLoop s) := by
  unfold resetLoop
  split
  · exact Answer.notifies_ok ((resetMotion_notifies s).trans (settleHolds_notifies ..))
  · exact Answer.notifies_error

theorem configureInduction_notifies (p : Payload) : Answer.Notifies s (configureInduction p s) := by
  unfold configureInduction
  dsimp only
  repeat' split
  any_goals exact Answer.notifies_error
  rw [applyInduction_eq]
  exact Answer.notifies_ok .quiet

theorem inductionResume_notifies (p : Payload) : Answer.Notifies s (inductionResume p s) := by
  unfold inductionResume
  repeat' split
  any_goals exact Answer.notifies_error
  exact Answer.notifies_ok (.trans .quiet (settleHolds_notifies ..))

/-! ### The manifest (chapter 3) -/

/-- R62, R161: a late add, a quota reached and a stray matched are noticed. -/
theorem addBag_notifies (sl : Slot) (p : Payload) : Answer.Notifies s (addBag sl p s) := by
  have hadded : ∀ tag cabin, s.Notifies (addEntry sl tag cabin s) := fun tag cabin =>
    (State.Notifies.trans .quiet (judgeQuota_notifies ..)).raisedIf
  unfold addBag
  dsimp only
  repeat' split
  any_goals exact Answer.notifies_error
  exact Answer.notifies_ok (((hadded ..).trans (matchStray_notifies ..)).trans (wakeWhere_notifies ..))

theorem withdrawBag_notifies (sl : Slot) (p : Payload) : Answer.Notifies s (withdrawBag sl p s) := by
  have hloop : ∀ tag, s.Notifies (withdrawOnLoop tag s) := fun tag => by
    unfold withdrawOnLoop
    split
    · split
      · exact ((makeStray_notifies ..).trans (cancelSelection_notifies ..)).trans (passToSelection_notifies ..)
      · exact .refl s
    · exact .refl s
  unfold withdrawBag
  split
  · split
    · exact Answer.notifies_ok
        ((ite_notifies (hloop _) (.refl s)).trans (.trans .quiet (judgeQuota_notifies ..)))
    · exact Answer.notifies_error
  · exact Answer.notifies_error

/-- R66: a cabin changed after its bag is sorted is noticed. -/
theorem applyCabin_notifies (sl : Slot) (e : BagEntry) (cabin : Nat) (s : State) :
    s.Notifies (applyCabin sl e cabin s) := by
  have hloop : ∀ (tag : Tag) (u : State), u.Notifies (changeOnLoop tag u) := fun tag u => by
    unfold changeOnLoop
    split
    · split
      case h_1 | h_2 => exact (cancelSelection_notifies ..).trans (passToSelection_notifies ..)
      all_goals exact .quiet
    · exact .refl u
  unfold applyCabin
  refine State.Notifies.trans (t := modEntry e.tag (fun e => { e with cabin := cabin }) s) .quiet ?_
  dsimp only
  split
  case h_1 | h_2 | h_3 => exact wakeWhere_notifies ..
  case h_4 => exact hloop ..
  case h_5 => exact raise_notifies ..

theorem changeCabin_notifies (sl : Slot) (p : Payload) : Answer.Notifies s (changeCabin sl p s) := by
  unfold changeCabin
  dsimp only
  repeat' split
  any_goals exact Answer.notifies_error
  · exact Answer.notifies_ok (.refl s)
  · exact Answer.notifies_ok (applyCabin_notifies ..)

theorem changeMap_notifies (sl : Slot) (n : Fin 96) (r : CabinRange) (s : State) :
    s.Notifies (changeMap sl n r s) := .trans .quiet (wakeWhere_notifies ..)

theorem setCabinRange_notifies (sl : Slot) (p : Payload) : Answer.Notifies s (setCabinRange sl p s) := by
  unfold setCabinRange
  dsimp only
  repeat' split
  any_goals exact Answer.notifies_error
  · exact Answer.notifies_ok (.refl s)
  · exact Answer.notifies_ok (changeMap_notifies ..)

theorem clearCabinRange_notifies (sl : Slot) (p : Payload) : Answer.Notifies s (clearCabinRange sl p s) := by
  unfold clearCabinRange
  dsimp only
  repeat' split
  · exact Answer.notifies_ok (changeMap_notifies ..)
  · exact Answer.notifies_ok (.refl s)
  · exact Answer.notifies_error

/-! ### The slots (chapter 4) -/

theorem berth_notifies (p : Payload) : Answer.Notifies s (berth p s) := by
  unfold berth
  dsimp only
  repeat' split
  any_goals exact Answer.notifies_error
  exact Answer.notifies_ok (.trans .quiet (judgeQuota_notifies ..))

theorem setQuota_notifies (p : Payload) : Answer.Notifies s (setQuota p s) := by
  unfold setQuota
  dsimp only
  repeat' split
  any_goals exact Answer.notifies_error
  exact Answer.notifies_ok (.trans .quiet (judgeQuota_notifies ..))

theorem cutOff_notifies (l : LinkId) (p : Payload) : Answer.Notifies s (cutOff l p s) := by
  have hdrain : ∀ sl, s.Notifies (beginDrain sl s) := fun sl =>
    .trans (.trans .quiet (wakeWhere_notifies ..)) (reportCount_notifies ..)
  unfold cutOff
  split
  · split
    case h_1 | h_2 | h_3 => exact Answer.notifies_error
    all_goals exact Answer.notifies_ok (hdrain _)
  · exact Answer.notifies_error

/-- R88, R124: the standbys of an unberthed slot may take over. -/
theorem unberth_notifies (p : Payload) : Answer.Notifies s (unberth p s) := by
  have hreleased : ∀ (sl : Slot) (u : State), u.Notifies (releaseChutes sl u) := fun sl u => by
    rw [releaseChutes_def]
    refine .trans ?_ (foldl_notifies (fun v c => judgeStandby_notifies c v) _ _)
    rw [chutesFreed_eq]
    exact .quiet
  unfold unberth
  repeat' split
  any_goals exact Answer.notifies_error
  exact Answer.notifies_ok (.trans .quiet (hreleased ..))

/-! ### The chutes (chapter 6) -/

theorem configureChute_notifies (p : Payload) : Answer.Notifies s (configureChute p s) := by
  have happlied : ∀ c cfg, s.Notifies (applyChute c cfg s) := fun c cfg =>
    .trans (.trans (setChute_notifies ..).raisedIf (judgeStandby_notifies ..)) (judgeStrayArmed_notifies _)
  unfold configureChute
  dsimp only
  repeat' split
  any_goals exact Answer.notifies_error
  exact Answer.notifies_ok (happlied ..)

theorem assignChute_notifies (p : Payload) : Answer.Notifies s (assignChute p s) := by
  unfold assignChute
  repeat' split
  any_goals exact Answer.notifies_error
  exact Answer.notifies_ok (modChute_notifies ..)

theorem releaseChute_notifies (p : Payload) : Answer.Notifies s (releaseChute p s) := by
  have hdropped : ∀ c, s.Notifies (dropGroup c s) := fun c =>
    ite_notifies ((modChute_notifies ..).trans (judgeStandby_notifies ..)) (modChute_notifies ..)
  unfold releaseChute
  dsimp only
  repeat' split
  any_goals exact Answer.notifies_error
  exact Answer.notifies_ok (hdropped _)

theorem swapBegin_notifies (p : Payload) : Answer.Notifies s (swapBegin p s) := by
  unfold swapBegin
  repeat' split
  any_goals exact Answer.notifies_error
  exact Answer.notifies_ok ((modChute_notifies ..).trans
    ((foldl_notifies (fun u t => cancelSelection_notifies t u) _ _).trans
      (foldl_notifies (fun u t => passToSelection_notifies t u) _ _)))

theorem swapEnd_notifies (p : Payload) : Answer.Notifies s (swapEnd p s) := by
  have hended : ∀ c, s.Notifies (endSwap c s) := fun c =>
    .trans (.trans ((modChute_notifies ..).trans (judgeStandby_notifies ..)) .quiet) (judgeStrayArmed_notifies _)
  unfold swapEnd
  repeat' split
  any_goals exact Answer.notifies_error
  exact Answer.notifies_ok (hended _)

/-! ### The desk (chapter 8) -/

theorem resolveEntry_notifies {id : BitVec 16} {tag : Tag} {sl : Slot} {cabin : Nat} {t : State}
    (h : resolveEntry tag sl cabin id s = .ok t) : s.Notifies t := by
  unfold resolveEntry at h
  split at h
  · split at h
    · cases h
    · exact Except.ok.inj h ▸ .trans .quiet (judgeQuota_notifies ..)
  · split at h
    · cases h
    all_goals exact Except.ok.inj h ▸ .quiet

theorem resolveStray_notifies (p : Payload) : Answer.Notifies s (resolveStray p s) := by
  have htag : ∀ id tag cabin, Answer.Notifies s (resolveTag id tag cabin s) := fun id tag cabin => by
    unfold resolveTag
    repeat' split
    any_goals exact Answer.notifies_error
    next ht => exact Answer.notifies_ok ((resolveEntry_notifies ht).trans .quiet)
  unfold resolveStray
  dsimp only
  repeat' split
  any_goals exact Answer.notifies_error
  exact htag _ _ _

theorem discardStray_notifies (p : Payload) : Answer.Notifies s (discardStray p s) := by
  unfold discardStray
  dsimp only
  repeat' split
  any_goals exact Answer.notifies_error
  exact Answer.notifies_ok .quiet

/-! ### The notices (chapter 9) -/

theorem fetchNotice_notifies (l : LinkId) : Answer.Notifies s (fetchNotice l s) :=
  Answer.notifies_ok (modNotices_notifies (fun _ h => h.fetchNotice) l s)

theorem ackGroup_notifies (l : LinkId) (p : Payload) : Answer.Notifies s (ackGroup l p s) := by
  unfold ackGroup
  split
  · next g _ => exact Answer.notifies_ok (modNotices_notifies (fun _ h => h.ack g) l s)
  · exact Answer.notifies_error

theorem clearNotice_notifies (l : LinkId) (p : Payload) : Answer.Notifies s (clearNotice l p s) := by
  unfold clearNotice
  split
  · next g _ =>
    split
    · exact Answer.notifies_error
    · exact Answer.notifies_ok (modNotices_notifies (fun _ h => h.clearFlag g _) l s)
  · exact Answer.notifies_error

theorem setNoticeEnables_notifies (l : LinkId) (p : Payload) : Answer.Notifies s (setNoticeEnables l p s) :=
  Answer.notifies_ok (modNotices_notifies (fun _ h => h.enable (enablesOf_conditional p)) l s)

theorem setClearMode_notifies (l : LinkId) (p : Payload) : Answer.Notifies s (setClearMode l p s) := by
  unfold setClearMode
  split
  · exact Answer.notifies_ok (modNotices_notifies (fun _ h => h.setMode _) l s)
  · exact Answer.notifies_error

/-! ### Every request -/

theorem onOwnSlot_notifies {l : LinkId} {f : Slot → State → Answer} (hf : ∀ sl, Answer.Notifies s (f sl s)) :
    Answer.Notifies s (onOwnSlot l f s) := by
  unfold onOwnSlot
  split
  · exact hf _
  · exact Answer.notifies_error

end Requests

/-- The rule of every owning block keeps the notice law and leaves the ports. The last two groups leave the notices
too: requests that write one table of their own, and the reads. -/
theorem own_notifies (k : Command) (l : LinkId) (p : Payload) (s : State) :
    Answer.Notifies s (Command.own k l p s) := by
  cases k with
  | configureLoop => exact configureLoop_notifies p
  | startLoop => exact startLoop_notifies
  | stopLoop => exact stopLoop_notifies
  | resetLoop => exact resetLoop_notifies
  | configureInduction => exact configureInduction_notifies p
  | inductionResume => exact inductionResume_notifies p
  | addBag => exact onOwnSlot_notifies fun sl => addBag_notifies sl p
  | withdrawBag => exact onOwnSlot_notifies fun sl => withdrawBag_notifies sl p
  | changeCabin => exact onOwnSlot_notifies fun sl => changeCabin_notifies sl p
  | setCabinRange => exact onOwnSlot_notifies fun sl => setCabinRange_notifies sl p
  | clearCabinRange => exact onOwnSlot_notifies fun sl => clearCabinRange_notifies sl p
  | berth => exact berth_notifies p
  | setQuota => exact setQuota_notifies p
  | cutOff => exact cutOff_notifies l p
  | unberth => exact unberth_notifies p
  | configureChute => exact configureChute_notifies p
  | assignChute => exact assignChute_notifies p
  | releaseChute => exact releaseChute_notifies p
  | swapBegin => exact swapBegin_notifies p
  | swapEnd => exact swapEnd_notifies p
  | resolveStray => exact resolveStray_notifies p
  | discardStray => exact discardStray_notifies p
  | fetchNotice => exact fetchNotice_notifies l
  | ackGroup => exact ackGroup_notifies l p
  | clearNotice => exact clearNotice_notifies l p
  | setNoticeEnables => exact setNoticeEnables_notifies l p
  | setClearMode => exact setClearMode_notifies l p
  | readResetCause | clearResetCause => exact Answer.notifies_ok .quiet
  | setWindow | clearWindow | manifestFinal | manifestReopen | setBlockedInterval =>
    simp only [Command.own, onOwnSlot, setWindow, clearWindow, manifestFinal, manifestReopen, setBlockedInterval]
    repeat' split
    any_goals exact Answer.notifies_error
    all_goals exact Answer.notifies_ok .quiet
  | readTray | readInduction | readWindow | readBag | readCabinRange | shipStatus | readChute | readStrayList
    | readStray =>
    simp only [Command.own, readTray, readInduction, readWindow, readBag, readCabinRange, shipStatus, readChute,
      readStrayList, readStray]
    repeat' split
    any_goals exact Answer.notifies_error
    all_goals exact Answer.notifies_ok (.refl s)

/-! ### The two laws together -/

/-- `t` is under each of the two laws where `s` is. -/
structure State.Upholds (s t : State) : Prop where
  notices : s.noticeLaw → t.noticeLaw
  ports : s.portLaw → t.portLaw

/-- Whatever state a command leaves is under each of the two laws where `s` is. -/
def Out.Upholds (s : State) (o : Out) : Prop := ∀ t, o = .next t → s.Upholds t

section Upholds
variable {s t u : State}

theorem Out.upholds_next (h : s.Upholds t) : Out.Upholds s (.next t) := fun _ e => Host.Outcome.next.inj e ▸ h

theorem State.Notifies.upholds (h : s.Notifies t) : s.Upholds t := ⟨h.law, portLaw_of_ports h.ports⟩

theorem State.Upholds.refl (s : State) : s.Upholds s := ⟨id, id⟩

/-- A change of a port alone. -/
theorem State.Upholds.of_ports (hports : s.portLaw → t.portLaw) (notices : t.notices = s.notices := by rfl) :
    s.Upholds t := ⟨fun h l => notices ▸ h l, hports⟩

theorem ite_upholds {p : Prop} [Decidable p] (ht : p → s.Upholds t) (hu : s.Upholds u) :
    s.Upholds (if p then t else u) := by
  split
  · next hp => exact ht hp
  · exact hu

theorem deliver_notices (x : Port) (l : LinkId) (frame response : List Byte) (s : State) :
    (deliver x l frame response s).notices = s.notices := by
  unfold deliver
  split <;> rfl

/-- R186, R187: the response of a request that has come whole, over the state that its effect leaves. -/
theorem deliver_upholds {l : LinkId} {frame response : List Byte} (hwhole : s.completes l frame = true)
    (hresponse : response ≠ []) (h : s.Notifies t) : s.Upholds (deliver (s.port l) l frame response t) where
  notices hs k := deliver_notices _ l frame response t ▸ h.law hs k
  ports hs := deliver_portLaw hs h.ports hwhole hresponse

theorem takeRequest_upholds (k : Command) (l : LinkId) (p : Payload) (s : State) :
    s.Upholds (takeRequest k l p (Command.own k l p) s) := by
  unfold takeRequest
  dsimp only
  split
  · next hwhole =>
    split
    · exact deliver_upholds hwhole (responseBytes_ne_nil _) (.refl s)
    · next t reply ha =>
      refine deliver_upholds hwhole (responseBytes_ne_nil _) ?_
      unfold State.answerTo at ha
      split at ha
      · cases ha
      · exact own_notifies k l p s t reply ha
  · exact .refl s

/-! ### The ports' own events (R186, R187) -/

theorem badCommand_upholds (l : LinkId) (code : Byte) (p : Payload) (s : State) :
    Out.Upholds s (execBadCommand l code p s) :=
  Out.upholds_next (ite_upholds (fun h => deliver_upholds h.1 (responseBytes_ne_nil _) (.refl s)) (.refl s))

theorem assertSelect_upholds (l : LinkId) (s : State) : s.Upholds (assertSelect l s) := by
  refine .of_ports assertSelect_portLaw ?_
  unfold assertSelect
  dsimp only
  repeat' split
  all_goals rfl

theorem releaseSelect_upholds (l : LinkId) (s : State) : s.Upholds (releaseSelect l s) := by
  refine .of_ports releaseSelect_portLaw ?_
  unfold releaseSelect
  split <;> rfl

theorem responseSent_upholds (l : LinkId) (s : State) : Out.Upholds s (execLinkResponseSent l s) := by
  refine Out.upholds_next ?_
  split
  · next rest hs =>
    refine .of_ports fun h => ?_
    have hsel : (s.port l).selected = true :=
      ((portLaw_iff s).mp h l).selected (by rw [hs]; nofun) (by rw [hs]; nofun)
    exact setPort_portLaw h (Port.Sound.sending hsel (.inl rfl) (s.port l).request)
  all_goals exact .refl s

/-! ### Every command -/

/-- R184: both resets leave every notice record clear. -/
theorem resetBlocks_noticeLaw (cause : ResetCause) (low : Bool) (s : State) : (resetBlocks cause low s).noticeLaw :=
  reset_noticeLaw

theorem resetBlocks_upholds (cause : ResetCause) (low : Bool) (s : State) : s.Upholds (resetBlocks cause low s) :=
  ⟨fun _ => resetBlocks_noticeLaw cause low s, fun _ => resetBlocks_portLaw cause low s⟩

theorem exec_upholds (c : Instr) (s : State) : Out.Upholds s (exec c s) := by
  have hnext : ∀ {t : State}, s.Notifies t → Out.Upholds s (.next t) := fun h => Out.upholds_next h.upholds
  cases c with
  | powerOnReset | pinReset => exact Out.upholds_next (resetBlocks_upholds ..)
  | pitchEvent home check => exact hnext (.trans .quiet (pitchEvent_notifies _ home check (drawOrder s)))
  | reservationRequest i => exact hnext (requestReservation_notifies ..)
  | launchWindowExpiry i => exact hnext (expireWindows_notifies ..)
  | stallTimeout => exact hnext (ite_notifies (enterStalled_notifies s) (.refl s))
  | fire => exact hnext (fireHead_notifies s)
  | tiltPulseEnd c => exact hnext (by (repeat' split) <;> exact .quiet)
  | confirmWindowEnd c =>
    refine hnext ?_
    split
    · exact .trans .quiet (closeUnconfirmed_notifies ..)
    · exact .refl s
  | chuteEyeDetection c =>
    exact hnext (ite_notifies (.refl s)
      ((State.Notifies.trans .quiet (confirmOldest_notifies ..)).trans (settleHolds_notifies ..)))
  | chuteJam c => exact hnext (ite_notifies (setJam_notifies ..) (.refl s))
  | chuteEyeClear c => exact hnext (ite_notifies (clearEye_notifies ..) (.refl s))
  | hallClockSecond => exact hnext (ite_notifies .quiet (.refl s))
  | bagFrame i | multiFrame i | noreadFrame i => exact hnext (completeFrame_notifies s (takeRead_notifies i _))
  | holdResend i => exact hnext (resendHold_notifies ..)
  | doneFrame i | failFrame i | lateAnswer i => exact hnext (completeFrame_notifies s (takeAnswer_notifies i _ _))
  | inductionCharacterFault i bad => exact hnext (whenEnabled_notifies (receiveFault_notifies i bad s))
  | badDataCharacter i field value => exact hnext (whenEnabled_notifies (receiveBadData_notifies i field value s))
  | inductionSilenceTimeout i =>
    refine hnext ?_
    split
    · exact .raised .quiet
    all_goals exact .refl s
  | transmitFrameSent i => exact hnext (by split <;> exact .quiet)
  | inductionFrameOpened i kind => exact hnext (whenEnabled_notifies (receiveMark_notifies i kind s))
  | linkSelectAsserted l => exact Out.upholds_next (assertSelect_upholds l s)
  | linkSelectReleased l | linkSelectReleasedEarly l => exact Out.upholds_next (releaseSelect_upholds l s)
  | linkResponseSent l => exact responseSent_upholds l s
  | resetNReleased => exact hnext .quiet
  | badCommand l code p => exact badCommand_upholds l code p s
  | configureLoop l p | startLoop l p | stopLoop l p | resetLoop l p | readTray l p | configureInduction l p
    | inductionResume l p | readInduction l p | setWindow l p | clearWindow l p | readWindow l p | addBag l p
    | withdrawBag l p | changeCabin l p | readBag l p | setCabinRange l p | clearCabinRange l p
    | readCabinRange l p | berth l p | manifestFinal l p | manifestReopen l p | setQuota l p | cutOff l p
    | unberth l p | shipStatus l p | configureChute l p | assignChute l p | releaseChute l p | swapBegin l p
    | swapEnd l p | setBlockedInterval l p | readChute l p | resolveStray l p | discardStray l p
    | readStrayList l p | readStray l p | fetchNotice l p | ackGroup l p | clearNotice l p
    | setNoticeEnables l p | setClearMode l p | readResetCause l p | clearResetCause l p =>
    exact Out.upholds_next (takeRequest_upholds _ l p s)

theorem idle_upholds (s : State) : s.Upholds (idle s) := by
  have hbytes : s.Upholds (clockBytes s) := .of_ports clockBytes_portLaw (by rw [clockBytes_frame])
  unfold idle
  split
  · exact .refl s
  · split
    · exact State.Notifies.upholds .quiet
    · exact ite_upholds (fun _ => hbytes) (ite_notifies .quiet (receiveChars_notifies s)).upholds

end Upholds

/-- Settles O15. -/
theorem everyStepKeepsTheNoticeAndPortLaws : Obligations.everyStepKeepsTheNoticeAndPortLaws := by
  intro s t ht
  unfold step at ht
  split at ht
  · obtain ⟨hnotices, hports⟩ := Out.upholds_next (idle_upholds s) t ht
    exact ⟨hnotices, hports⟩
  · next c r _ =>
    obtain ⟨hnotices, hports⟩ := exec_upholds c { s with pending := r } t ht
    exact ⟨hnotices, hports⟩

end Sys2Proof.Machine
end

/-! ## Proofs: the link ports (chapter 10) -/

section
/-! PROOF. Request frames written and read back (O3). -/

namespace Sys2Proof.Machine

/-- The length byte of a request gives the number of its payload bytes (R186). -/
theorem lengthByte_toNat {p : Payload} (hp : p.length ≤ 255) : (BitVec.ofNat 8 p.length).toNat = p.length :=
  Nat.mod_eq_of_lt (by omega)

theorem commandOfCode_code (k : Command) : commandOfCode k.code = some k := by cases k <;> rfl

/-- Codes 0 and 44 to 255 name no command (R196). -/
theorem commandOfCode_unknown {code : Byte} (h : unknownCode code = true) : commandOfCode code = none := by
  have hrange : code.toNat = 0 ∨ 44 ≤ code.toNat := by simpa [unknownCode] using h
  unfold commandOfCode
  split
  case h_44 => rfl
  all_goals omega

section Frames
variable {l : LinkId} {p : Payload} (hp : p.length ≤ 255)
include hp

theorem decodeRequest_known (k : Command) :
    decodeRequest l (frameBytes k.code p) = some (Instr.ofRequest l k p) := by
  rw [frameBytes, decodeRequest, if_pos (lengthByte_toNat hp).symm, commandOfCode_code]

theorem decodeRequest_unknown {code : Byte} (h : unknownCode code = true) :
    decodeRequest l (frameBytes code p) = some (.badCommand l code p) := by
  rw [frameBytes, decodeRequest, if_pos (lengthByte_toNat hp).symm, commandOfCode_unknown h]

end Frames

theorem payload_le_of_wf {l : LinkId} {k : Command} {p : Payload} (h : (Instr.ofRequest l k p).wf = true) :
    p.length ≤ 255 := by
  have hwf : (Instr.ofRequest l k p).wf = payloadOk p := by cases k <;> rfl
  simpa [hwf, payloadOk] using h

/-- A row that is a link request is BAD COMMAND or the row of a command. -/
theorem requestParts_cases {i : Instr} {l : LinkId} {code : Byte} {p : Payload}
    (h : i.requestParts = some (l, code, p)) :
    i = .badCommand l code p ∨ ∃ k, code = Command.code k ∧ i = Instr.ofRequest l k p := by
  cases i with
  | badCommand => cases h; exact .inl rfl
  | configureLoop | startLoop | stopLoop | resetLoop | readTray | configureInduction | inductionResume
    | readInduction | setWindow | clearWindow | readWindow | addBag | withdrawBag | changeCabin | readBag
    | setCabinRange | clearCabinRange | readCabinRange | berth | manifestFinal | manifestReopen | setQuota | cutOff
    | unberth | shipStatus | configureChute | assignChute | releaseChute | swapBegin | swapEnd | setBlockedInterval
    | readChute | resolveStray | discardStray | readStrayList | readStray | fetchNotice | ackGroup | clearNotice
    | setNoticeEnables | setClearMode | readResetCause | clearResetCause =>
    cases h; exact .inr ⟨_, rfl, rfl⟩
  | _ => cases h

/-- What is written for a request row is the frame of its parts (R186). -/
theorem encodeRequest_eq_some {i : Instr} {l : LinkId} {bs : List Byte} (h : encodeRequest i = some (l, bs)) :
    ∃ code p, i.requestParts = some (l, code, p) ∧ bs = frameBytes code p := by
  obtain ⟨⟨l', code, p⟩, hparts, hframe⟩ := Option.map_eq_some_iff.mp h
  cases hframe
  exact ⟨code, p, hparts, rfl⟩

/-- Settles O3. -/
theorem requestFramesReadBack : Obligations.requestFramesReadBack := by
  intro i l bs hwf hencode
  obtain ⟨code, p, hparts, rfl⟩ := encodeRequest_eq_some hencode
  rcases requestParts_cases hparts with rfl | ⟨k, rfl, rfl⟩
  · obtain ⟨hp, hunknown⟩ : p.length ≤ 255 ∧ unknownCode code = true := by
      simpa [Instr.wf, payloadOk] using hwf
    exact decodeRequest_unknown hp hunknown
  · exact decodeRequest_known (payload_le_of_wf hwf) k

end Sys2Proof.Machine
end

section
/-! PROOF. The checks before the owning block's rule, and the answer of every request (O9, O10). -/

namespace Sys2Proof.Machine

variable {s : State} {k : Command} {l : LinkId} {p : Payload}

/-! ### The link's checks in their order (R188, R76) -/

theorem exec_badCommand_heard {code : Byte} (h : s.hears l (frameBytes code p) = true)
    (hunknown : unknownCode code = true) :
    exec (.badCommand l code p) s = .next (answering l (frameBytes code p) [3, 1, 0, 0] s) := by
  obtain ⟨hwhole, hthere⟩ := completes_of_hears h
  rw [exec, execBadCommand, if_pos ⟨hwhole, hunknown⟩, deliver_heard hthere]
  rfl

/-- A request that the link's own checks refuse is answered with the reason of the first that fails. -/
theorem exec_link_refused {r : Reason} (h : s.hears l (frameBytes k.code p) = true)
    (hr : s.linkRefusal k l p = some r) :
    exec (Instr.ofRequest l k p) s = .next (refusedWith k l p r s) := by
  rw [exec_ofRequest, takeRequest_link_refused _ h hr]
  rfl

theorem linkRefusal_length (hlen : p.length ≠ Command.length k l) : s.linkRefusal k l p = some .badLength :=
  if_pos hlen

theorem linkRefusal_role (hlen : p.length = Command.length k l) (hrole : permitted k l = false) :
    s.linkRefusal k l p = some .notPermitted := by
  rw [State.linkRefusal, if_neg (not_not_intro hlen), if_pos hrole]

theorem linkRefusal_vacant (hlen : p.length = Command.length k l) (hrole : permitted k l = true)
    (htaken : takenVacant k = false) {sl : Slot} (hsl : linkSlot l = some sl) (hvacant : (s.slot sl).state = .vacant) :
    s.linkRefusal k l p = some .notBerthed := by
  have hunberthed : s.unberthed l = true := by
    rw [State.unberthed, hsl]
    exact decide_eq_true hvacant
  rw [State.linkRefusal, if_neg (not_not_intro hlen), if_neg (by simp [hrole]), if_pos ⟨hunberthed, htaken⟩]

/-- Settles O9. -/
theorem linkChecksRefuseInOrder : Obligations.linkChecksRefuseInOrder := by
  intro l p s
  refine ⟨fun _ => exec_badCommand_heard, fun k h => ⟨fun hlen => ?length, fun hlen hrole => ?role,
    fun hlen hrole htaken hslot => ?vacant⟩⟩
  case length => exact exec_link_refused h (linkRefusal_length hlen)
  case role => exact exec_link_refused h (linkRefusal_role hlen hrole)
  case vacant =>
    obtain ⟨sl, hsl, hvacant⟩ := hslot
    exact exec_link_refused h (linkRefusal_vacant hlen hrole htaken hsl hvacant)

/-! ### The status of an accepted request (R189) -/

/-- An accepted request of this answer is answered OK, not ACCEPTED. -/
def Answer.IsOk (a : Answer) : Prop := ∀ t reply, a = .ok (t, reply) → reply.accepted = false

theorem Answer.isOk_error {r : Reason} : Answer.IsOk (.error r) := fun _ _ e => by cases e

theorem Answer.isOk_ok {t : State} {reply : Reply} (h : reply.accepted = false) : Answer.IsOk (.ok (t, reply)) :=
  fun _ _ e => (Prod.mk.inj (Except.ok.inj e)).2 ▸ h

/-- Every owning block but that of CUT OFF answers OK or refuses. -/
theorem own_isOk (hk : k ≠ .cutOff) : Answer.IsOk (Command.own k l p s) := by
  cases k with
  | cutOff => exact absurd rfl hk
  | fetchNotice | setNoticeEnables | readResetCause | clearResetCause => exact Answer.isOk_ok rfl
  | stopLoop =>
    rw [Command.own, stopLoop]
    split <;> exact Answer.isOk_ok rfl
  | _ =>
    simp only [Command.own, onOwnSlot, configureLoop, startLoop, resetLoop, readTray, configureInduction,
      inductionResume, readInduction, setWindow, clearWindow, readWindow, addBag, withdrawBag, changeCabin, readBag,
      setCabinRange, clearCabinRange, readCabinRange, berth, manifestFinal, manifestReopen, setQuota, unberth,
      shipStatus, configureChute, assignChute, releaseChute, swapBegin, swapEnd, setBlockedInterval, readChute,
      resolveStray, resolveTag, discardStray, readStrayList, readStray, ackGroup, clearNotice, setClearMode]
    repeat' split
    any_goals exact Answer.isOk_error
    all_goals exact Answer.isOk_ok rfl

/-- R82: an accepted CUT OFF is answered ACCEPTED. -/
theorem cutOff_accepted {t : State} {reply : Reply} (h : cutOff l p s = .ok (t, reply)) : reply.accepted = true := by
  unfold cutOff at h
  repeat' split at h
  all_goals cases h
  all_goals rfl

/-! ### Every request is answered (R186, R188) -/

/-- A request heard is answered: with a refusal over the state as it was, or with its owning block's reply over the
state its effect leaves. -/
theorem takeRequest_answers (own : State → Answer) (h : s.hears l (frameBytes k.code p) = true) :
    (∃ r, takeRequest k l p own s = answering l (frameBytes k.code p) (responseBytes (.error r)) s) ∨
      ∃ t reply, own s = .ok (t, reply) ∧
        takeRequest k l p own s = answering l (frameBytes k.code p) (responseBytes (.ok reply)) t := by
  cases hlink : s.linkRefusal k l p with
  | some r => exact .inl ⟨r, takeRequest_link_refused own h hlink⟩
  | none =>
    have hadmits : s.admits k l p = true := by rw [State.admits, h, hlink]; rfl
    cases hown : own s with
    | error r => exact .inl ⟨r, takeRequest_refused hadmits hown⟩
    | ok a => exact .inr ⟨a.1, a.2, rfl, takeRequest_accepted hadmits hown⟩

/-- Settles O10. -/
theorem everyRequestIsAnswered : Obligations.everyRequestIsAnswered := by
  intro k l p s h
  rw [exec_ofRequest]
  rcases takeRequest_answers (Command.own k l p) h with ⟨r, htaken⟩ | ⟨t, reply, hown, htaken⟩
  · refine ⟨_, 3, [BitVec.ofNat 8 r.code, 0, 0], rfl, ?_⟩
    rw [htaken]
    exact ⟨by rw [answering_port]; rfl, .inl rfl, fun _ => ⟨rfl, fun m hm => answering_port_other hm _ _ s,
      answering_port ..⟩⟩
  · refine ⟨_, if reply.accepted then 2 else 1, _, rfl, by rw [htaken, answering_port]; rfl, ?_⟩
    by_cases hk : k = .cutOff
    · subst hk
      simp [cutOff_accepted hown]
    · simp [own_isOk hk t reply hown, hk]

end Sys2Proof.Machine
end

section
/-! PROOF. The port's events: select, byte times, the response, a reset (O8). -/

namespace Sys2Proof.Machine

variable {s : State} {l : LinkId}

/-! ### Select (R186, R187, R193) -/

/-- A command that sets a port moves that port alone. -/
theorem exec_moves_port {c : Instr} {x : Port} (h : exec c s = .next (setPort l x s)) :
    ∃ t, exec c s = .next t ∧ portOnly l s t ∧ t.port l = x :=
  ⟨_, h, ⟨rfl, fun k hk => setPort_port_ne l k x s hk⟩, setPort_port ..⟩

theorem assertSelect_asserted (hsel : (s.port l).selected = true) : assertSelect l s = s := if_pos hsel

theorem assertSelect_opens (hlow : s.resetLow = false) (hidle : (s.port l).state = .idle)
    (hsel : (s.port l).selected = false) :
    assertSelect l s = setPort l { state := .receiving, selected := true, request := [] } s := by
  simp [assertSelect, hlow, hidle, hsel]

/-- Outside IDLE, and under RESET_N low, the level changes alone. -/
theorem assertSelect_level (hsel : (s.port l).selected = false)
    (h : s.resetLow = true ∨ (s.port l).state ≠ .idle) :
    assertSelect l s = setPort l { s.port l with selected := true } s := by
  simp [assertSelect, hsel, h]

/-- R193: under RESET_N low a select asserted opens no transaction. -/
theorem assertSelect_port_resetLow (hlow : s.resetLow = true) :
    (assertSelect l s).port l = { s.port l with selected := true } := by
  cases hsel : (s.port l).selected with
  | false => rw [assertSelect_level hsel (.inl hlow), setPort_port]
  | true => rw [assertSelect_asserted hsel, ← hsel]

theorem Port.release_taking {x : Port} {abandoned : Bool} (h : x.state = .taking abandoned) :
    x.release = { x with state := .taking true, selected := false } := by
  rw [Port.release, h]

theorem Port.release_closes {x : Port} (h : ∀ abandoned, x.state ≠ .taking abandoned) :
    x.release = { state := .idle, selected := false, request := [] } := by
  unfold Port.release
  split
  · next abandoned htaking => exact absurd htaking (h abandoned)
  all_goals rfl

theorem releaseSelect_asserted (hsel : (s.port l).selected = true) :
    releaseSelect l s = setPort l (s.port l).release s := if_pos hsel

theorem releaseSelect_closes (hsel : (s.port l).selected = true)
    (h : ∀ abandoned, (s.port l).state ≠ .taking abandoned) :
    releaseSelect l s = setPort l { state := .idle, selected := false, request := [] } s := by
  rw [releaseSelect_asserted hsel, Port.release_closes h]

theorem releaseSelect_taking (hsel : (s.port l).selected = true) {abandoned : Bool}
    (h : (s.port l).state = .taking abandoned) :
    releaseSelect l s = setPort l { s.port l with state := .taking true, selected := false } s := by
  rw [releaseSelect_asserted hsel, Port.release_taking h]

theorem exec_linkResponseSent_answering {rsp : List Byte} (h : (s.port l).state = .answering rsp) :
    exec (.linkResponseSent l) s = .next (setPort l { s.port l with state := .ended } s) := by
  rw [exec, execLinkResponseSent, h]

/-! ### A request released in TAKING (R187) -/

section Abandoned
variable {p : Payload} (hlow : s.resetLow = false) (htaking : (s.port l).state = .taking true)
include hlow htaking

theorem completes_of_taking {frame : List Byte} (hreq : (s.port l).request = frame) : s.completes l frame = true := by
  rw [State.completes, hlow, htaking]
  exact decide_eq_true hreq

theorem exec_request_abandoned {k : Command} (hreq : (s.port l).request = frameBytes k.code p) :
    exec (Instr.ofRequest l k p) s = .next (setPort l (s.port l).reopened
      (match s.answerTo k l p (Command.own k l p) with
        | .ok (t, _) => t
        | .error _ => s)) := by
  rw [exec_ofRequest, takeRequest, if_pos (completes_of_taking hlow htaking hreq)]
  cases s.answerTo k l p (Command.own k l p) with
  | error r => exact congrArg _ (deliver_abandoned htaking ..)
  | ok a => exact congrArg _ (deliver_abandoned htaking ..)

theorem exec_badCommand_abandoned {code : Byte} (hunknown : unknownCode code = true)
    (hreq : (s.port l).request = frameBytes code p) :
    exec (.badCommand l code p) s = .next (setPort l (s.port l).reopened s) := by
  rw [exec, execBadCommand, if_pos ⟨completes_of_taking hlow htaking hreq, hunknown⟩, deliver_abandoned htaking]

end Abandoned

/-! ### A select held through a reset (R193) -/

theorem resetBlocks_port (cause : ResetCause) (low : Bool) (s : State) (l : LinkId) :
    (resetBlocks cause low s).port l = (s.port l).cleared := by cases l <;> rfl

/-- A select that the release of RESET_N finds asserted gives no edge until the partner has released it. -/
theorem select_found_asserted {v : State} (hv : v.port l = { state := .idle, selected := true, request := [] }) :
    exec (.linkSelectAsserted l) v = .next v ∧ ∃ w, exec (.linkSelectReleased l) v = .next w ∧
      w.port l = { state := .idle, selected := false, request := [] } := by
  have hsel : (v.port l).selected = true := congrArg Port.selected hv
  refine ⟨congrArg _ (assertSelect_asserted hsel), _, rfl, ?_⟩
  rw [releaseSelect_closes hsel (by rw [hv]; nofun), setPort_port]

theorem select_held_through_reset (l : LinkId) (s : State) :
    ∃ t u v w, exec .pinReset s = .next t ∧ exec (.linkSelectAsserted l) t = .next u ∧
      (u.port l).state = .idle ∧ exec .resetNReleased u = .next v ∧ v = { u with resetLow := false } ∧
      exec (.linkSelectAsserted l) v = .next v ∧ exec (.linkSelectReleased l) v = .next w ∧
      w.port l = { state := .idle, selected := false, request := [] } := by
  have hport : (assertSelect l (resetBlocks { powerOn := s.cause.powerOn, pin := true } true s)).port l =
      { state := .idle, selected := true, request := [] } := by
    rw [assertSelect_port_resetLow rfl, resetBlocks_port]
    rfl
  obtain ⟨hstands, w, hreleased, hw⟩ :=
    select_found_asserted (v := { assertSelect l (resetBlocks _ true s) with resetLow := false }) hport
  exact ⟨_, _, _, w, rfl, rfl, congrArg Port.state hport, rfl, rfl, hstands, hreleased, hw⟩

/-! ### The bytes of a request (R186) -/

/-- A port that has just opened a transaction, after the byte times of some bytes. -/
def Port.clocked (selected : Bool) (bytes : List Byte) : Port :=
  bytes.foldl (fun x b => x.clockIn b) { state := .receiving, selected := selected, request := [] }

theorem Port.clocked_concat {selected : Bool} {bytes : List Byte}
    (h : Port.clocked selected bytes = { state := .receiving, selected := selected, request := bytes }) (b : Byte) :
    Port.clocked selected (bytes ++ [b]) =
      { state := if wholeRequest (bytes ++ [b]) then .taking false else .receiving
        selected := selected, request := bytes ++ [b] } := by
  have hstep : Port.clocked selected (bytes ++ [b]) = (Port.clocked selected bytes).clockIn b := List.foldl_concat ..
  rw [hstep, h]
  rfl

section Request
variable {code : Byte} {p : Payload} (hp : p.length ≤ 255)
include hp

theorem wholeRequest_frameBytes : wholeRequest (frameBytes code p) = true :=
  decide_eq_true (lengthByte_toNat hp).symm

/-- A request is whole with its last byte, and no sooner. -/
theorem wholeRequest_part {bytes rest : List Byte} (h : frameBytes code p = bytes ++ rest) (hrest : rest ≠ []) :
    wholeRequest bytes = false := by
  match bytes, h with
  | [], _ => rfl
  | [_], _ => rfl
  | _ :: _ :: part, h =>
    obtain ⟨-, rfl, rfl⟩ : _ ∧ _ ∧ p = part ++ rest := by simpa [frameBytes] using h
    have hpos : 0 < rest.length := List.length_pos_iff.mpr hrest
    refine decide_eq_false ?_
    rw [lengthByte_toNat hp, List.length_append]
    omega

theorem Port.clocked_part (selected : Bool) (bytes rest : List Byte) (h : frameBytes code p = bytes ++ rest)
    (hrest : rest ≠ []) :
    Port.clocked selected bytes = { state := .receiving, selected := selected, request := bytes } := by
  induction bytes using List.reverseRecOn generalizing rest with
  | nil => rfl
  | append_singleton init b ih =>
    have hinit := ih (b :: rest) (by rw [h, List.append_assoc]; rfl) nofun
    rw [Port.clocked_concat hinit, wholeRequest_part hp h hrest]
    rfl

theorem Port.clocked_frameBytes (selected : Bool) :
    Port.clocked selected (frameBytes code p) =
      { state := .taking false, selected := selected, request := frameBytes code p } := by
  obtain ⟨init, b, hlast⟩ := (List.eq_nil_or_concat' (frameBytes code p)).resolve_left nofun
  have hinit := Port.clocked_part hp selected init [b] hlast nofun
  have hwhole := Port.clocked_concat hinit b
  rwa [← hlast, wholeRequest_frameBytes hp] at hwhole

end Request

/-! ### The bytes of a response (R186) -/

theorem Port.clockIn_deaf {x : Port} (h : x.state = .idle ∨ x.state = .ended ∨ ∃ a, x.state = .taking a)
    (b : Byte) : x.clockIn b = x := by
  rcases h with h | h | ⟨a, h⟩ <;> rw [Port.clockIn, h]

theorem Port.clockIn_answering {x : Port} {rest : List Byte} (h : x.state = .answering rest) (b : Byte) :
    x.clockIn b = { x with state := afterByte rest } := by
  rw [Port.clockIn, h]

theorem Port.byteOut_answering {x : Port} {rest : List Byte} (h : x.state = .answering rest) :
    x.byteOut = rest.head? := by
  rw [Port.byteOut, h]

theorem Port.byteOut_of_receiving_or_taking {x : Port} (h : x.state = .receiving ∨ ∃ a, x.state = .taking a) :
    x.byteOut = some 0 := by
  rcases h with h | ⟨a, h⟩ <;> rw [Port.byteOut, h]

/-! ### Bits, most significant first (R194) -/

/-- The number that levels spell, the first the most significant, holds each at its place. -/
theorem testBit_foldl_levels (levels : List Bool) {k : Nat} (hk : k < levels.length) :
    (levels.foldl (fun n (level : Bool) => 2 * n + level.toNat) 0).testBit (levels.length - 1 - k) = levels[k] := by
  induction levels using List.reverseRecOn with
  | nil => cases hk
  | append_singleton init b ih =>
    rw [List.foldl_concat, ← Nat.bit_val]
    rcases Nat.lt_succ_iff_lt_or_eq.mp (by simpa using hk : k < init.length + 1) with hlt | rfl
    · have hplace : (init ++ [b]).length - 1 - k = (init.length - 1 - k) + 1 := by simp; omega
      rw [hplace, Nat.testBit_bit_succ, ih hlt, List.getElem_append_left hlt]
    · simp

theorem byteOfLevels_bit (v : ByteTime) (k : Fin 8) : (byteOfLevels v).getLsbD (7 - k.val) = v.get k := by
  have hbit := testBit_foldl_levels v.toList (k := k.val) (by simp)
  rw [byteOfLevels, BitVec.getLsbD_ofNat, decide_eq_true (by omega), Bool.true_and]
  simpa [Vector.get_eq_getElem] using hbit

theorem levelsOfByte_get (b : Byte) (k : Fin 8) : (levelsOfByte b).get k = b.getLsbD (7 - k.val) := by
  simp [levelsOfByte, Vector.get_eq_getElem]

/-! ### The statement -/

/-- Settles O8. -/
theorem portEventsMoveOnePort : Obligations.portEventsMoveOnePort := by
  refine ⟨fun l s => ⟨fun hlow hidle => ?opens, fun rsp hrsp => ?sent, fun hsel hended => ?closes,
    fun hsel _ htaking => ?early, fun a htaking => ⟨fun hsel => ?abandons, fun hsel => ?returns⟩,
    fun hlow htaking => ?taken, ?reset⟩, fun selected code p hp => ?bytes, fun x b => ?response,
    fun v b k => ⟨byteOfLevels_bit v k, levelsOfByte_get b k⟩⟩
  case opens =>
    exact exec_moves_port (congrArg Host.Outcome.next
      (assertSelect_opens hlow (congrArg Port.state hidle) (congrArg Port.selected hidle)))
  case sent => exact exec_moves_port (exec_linkResponseSent_answering hrsp)
  case closes => exact exec_moves_port (congrArg Host.Outcome.next (releaseSelect_closes hsel (by rw [hended]; nofun)))
  case early => exact exec_moves_port (congrArg Host.Outcome.next (releaseSelect_closes hsel htaking))
  case abandons => exact exec_moves_port (congrArg Host.Outcome.next (releaseSelect_taking hsel htaking))
  case returns =>
    exact exec_moves_port (congrArg Host.Outcome.next (assertSelect_level hsel (.inr (by rw [htaking]; nofun))))
  case taken =>
    exact ⟨fun k p hreq => exec_request_abandoned hlow htaking hreq,
      fun code p hunknown hreq => exec_badCommand_abandoned hlow htaking hunknown hreq⟩
  case reset => exact select_held_through_reset l s
  case bytes => exact ⟨Port.clocked_frameBytes hp selected, Port.clocked_part hp selected⟩
  case response =>
    exact ⟨fun h => Port.clockIn_deaf h b,
      fun c d rest h => ⟨Port.byteOut_answering h, Port.clockIn_answering h b⟩,
      fun c h => ⟨Port.byteOut_answering h, Port.clockIn_answering h b⟩,
      fun h => by rw [Port.byteOut, h], Port.byteOut_of_receiving_or_taking, fun h => by rw [Port.byteOut, h]⟩

end Sys2Proof.Machine
end

/-! ## Proofs: the block as a machine -/

section
/-! PROOF. The command at the front of the queue (O1). -/

namespace Sys2Proof.Machine

/-- Settles O1. -/
theorem stepTakesFrontCommand : Obligations.stepTakesFrontCommand := by
  intro c r s hqueue
  rw [step, hqueue]

end Sys2Proof.Machine
end

/-! ## Proofs: frame and record layouts (chapter 11) -/

section
/-! PROOF. Induction line frames written and read back (O4). -/

namespace Sys2Proof.Machine

/-- The kind character of a row that is a whole line frame is the code of its kind (Table 11-9). -/
theorem encodeLineFrame_kind {c : Instr} {i : IndId} {kind : Byte} {data : List Byte}
    (h : encodeLineFrame c = some (i, kind, data)) : ∃ k : FrameKind, kind = k.code := by
  cases c with
  | bagFrame => cases h; exact ⟨.bag, rfl⟩
  | multiFrame => cases h; exact ⟨.multi, rfl⟩
  | noreadFrame => cases h; exact ⟨.noread, rfl⟩
  | doneFrame => cases h; exact ⟨.done, rfl⟩
  | failFrame => cases h; exact ⟨.fail, rfl⟩
  | _ => cases h

/-- R31: tag characters that are digits and the character of a size class make a read frame's row. -/
theorem decodeRead_good {digits : List Byte} (h : ∀ v ∈ digits, v.toNat < 10) (i : IndId) (size : SizeClass)
    (make : SizeClass → Instr) : decodeRead i digits (sizeChar size) make = make size := by
  have hnone : badDigit digits = none := by
    rw [badDigit, List.find?_eq_none]
    intro v hv
    have := h v hv
    simp
    omega
  rw [decodeRead, hnone, sizeOfChar_sizeChar]

/-! ### Each kind of frame read back (Table 11-9) -/

theorem decodeLineFrame_bag (i : IndId) (tag : Tag) (size : SizeClass) :
    decodeLineFrame i FrameKind.bag.code (digitChars tag ++ [sizeChar size]) = some (.bagFrame i tag size) := by
  have hgood := decodeRead_good (fun _ => digitChars_lt (t := tag)) i size (.bagFrame i tag)
  simpa [decodeLineFrame, FrameKind.code, length_digitChars, tagOfChars_digitChars] using hgood

theorem decodeLineFrame_multi (i : IndId) (tag tag2 : Tag) (size : SizeClass) :
    decodeLineFrame i FrameKind.multi.code (digitChars tag ++ digitChars tag2 ++ [sizeChar size]) =
      some (.multiFrame i tag tag2 size) := by
  have hdigits : ∀ v ∈ digitChars tag ++ digitChars tag2, v.toNat < 10 := fun v hv =>
    (List.mem_append.mp hv).elim digitChars_lt digitChars_lt
  have hgood := decodeRead_good hdigits i size (.multiFrame i tag tag2)
  have htags : (digitChars tag ++ (digitChars tag2 ++ [sizeChar size])).take 20 =
      digitChars tag ++ digitChars tag2 := by
    rw [← List.append_assoc]
    exact List.take_left' (by simp [length_digitChars])
  simpa [decodeLineFrame, FrameKind.code, length_digitChars, tagOfChars_digitChars, htags] using hgood

theorem decodeLineFrame_noread (i : IndId) (size : SizeClass) :
    decodeLineFrame i FrameKind.noread.code [sizeChar size] = some (.noreadFrame i size) :=
  congrArg some (decodeRead_good (digits := []) nofun i size (.noreadFrame i))

theorem decodeLineFrame_done (i : IndId) (tray : BitVec 16) :
    decodeLineFrame i FrameKind.done.code (trayChars tray) = some (.doneFrame i tray) :=
  congrArg (some <| Instr.doneFrame i ·) (trayChars_spell tray)

theorem decodeLineFrame_fail (i : IndId) (tray : BitVec 16) :
    decodeLineFrame i FrameKind.fail.code (trayChars tray) = some (.failFrame i tray) :=
  congrArg (some <| Instr.failFrame i ·) (trayChars_spell tray)

/-- Settles O4. -/
theorem lineFramesReadBack : Obligations.lineFramesReadBack := by
  intro c i kind data h
  obtain ⟨k, rfl⟩ := encodeLineFrame_kind h
  rcases encodeLineFrame_cases h with ⟨tag, size, rfl, rfl, rfl⟩ | ⟨tag, tag2, size, rfl, rfl, rfl⟩ |
    ⟨size, rfl, rfl, rfl⟩ | ⟨tray, rfl, rfl, rfl⟩ | ⟨tray, rfl, rfl, rfl⟩
  · exact decodeLineFrame_bag i tag size
  · exact decodeLineFrame_multi i tag tag2 size
  · exact decodeLineFrame_noread i size
  · exact decodeLineFrame_done i tray
  · exact decodeLineFrame_fail i tray

end Sys2Proof.Machine
end

section
/-! PROOF. The size of each returned record, part by part (O5). -/

namespace Sys2Proof.Machine

/-! ### Fields of varying content -/

/-- Digits are packed two to a byte, an odd one alone in the last (R195). -/
theorem length_packDigits (ds : List Nat) : (packDigits ds).length = (ds.length + 1) / 2 := by
  induction ds using packDigits.induct with
  | case1 d e r ih =>
    simp only [packDigits, List.length_append, List.length_cons, length_b1, ih]
    omega
  | case2 d => rw [packDigits, length_b1, List.length_singleton]
  | case3 => rfl

@[simp] theorem length_bOpt_bTag (x : Option Tag) : (bOpt 5 x bTag).length = 5 := length_bOpt 5 x bTag length_bTag

@[simp] theorem length_bOpt_b1 {α : Type} (x : Option α) (f : α → Nat) :
    (bOpt 1 x fun v => b1 (f v)).length = 1 := length_bOpt 1 x _ fun v => length_b1 (f v)

@[simp] theorem length_bOpt_b2 {α : Type} (x : Option α) (f : α → Nat) :
    (bOpt 2 x fun v => b2 (f v)).length = 2 := length_bOpt 2 x _ fun v => length_b2 (f v)

/-! ### The loop and its trays (Table 11-5) -/

@[simp] theorem length_loopHeader (s : State) : (loopHeader s).length = 30 := by
  simp [loopHeader, LoopConfig.bytes]

@[simp] theorem length_bagRecordBytes (b : BagRecord) : b.bytes.length = 20 := by
  simp [BagRecord.bytes]

@[simp] theorem length_trayBytes (t : Nat) (x : Tray) : (trayBytes t x).length = 31 := by
  simp [trayBytes, length_bOpt]

/-! ### The inductions (Table 11-8) -/

@[simp] theorem length_readRecordBytes (r : ReadRecord) : (readRecordBytes r).length = 12 := by
  cases h : r.reading <;> simp [readRecordBytes, h]

theorem length_inductionBytes (s : State) (i : IndId) : (inductionBytes s i).length = 68 := by
  simp [inductionBytes, length_bOpt 2 _ b2 length_b2, length_bPlaces]

/-! ### Tag windows, entries and cabin ranges (section 11.3, Table 11-3) -/

/-- A prefix of up to ten digits fills its five bytes with zeros. -/
theorem length_windowBytes (s : State) {w : TagWindow} (h : w.digits.length ≤ 10) :
    (windowBytes s w).length = 9 := by
  have hdigits : (packDigits (w.digits ++ List.replicate (10 - w.digits.length) 0)).length = 5 := by
    rw [length_packDigits, List.length_append, List.length_replicate, Nat.add_sub_cancel' h]
  cases ht : w.target.slot <;> simp [windowBytes, hdigits, ht]

theorem length_entryBytes (e : BagEntry) : (entryBytes e).length = 18 := by
  simp [entryBytes, length_bOpt]

theorem length_rangeBytes (r : CabinRange) : (rangeBytes r).length = 7 := by
  simp [rangeBytes]

/-! ### The slots (Table 11-7) -/

theorem length_statusBytes (s : State) (sl : Slot) : (statusBytes s sl).length = 28 := by
  simp [statusBytes]

/-! ### The chutes (Table 11-6) -/

@[simp] theorem length_chuteConfigBytes (c : ChuteConfig) : c.bytes.length = 21 := by
  simp [ChuteConfig.bytes, length_bPlaces 4 1 _ _ fun k : ChuteId => length_b1 k.val]

/-- The fields of Table 11-6 after the configuration, state to windows: with the 121 bytes before them they fill
the table's 149. (The comment on `Chute.bytes` counts 31.) -/
@[simp] theorem length_chuteRunBytes (tick : Nat) (x : Chute) : (x.bytes tick).length = 28 := by
  simp [Chute.bytes, length_bOpt 3 _ bGroup length_bGroup, length_bPlaces]

theorem length_chuteBytes (s : State) (c : ChuteId) : (chuteBytes s c).length = 149 := by
  simp [chuteBytes, length_bPlaces]

/-! ### The strays (Table 11-4) -/

@[simp] theorem length_strayBytes (e : StrayEntry) : (strayBytes e).length = 26 := by
  simp [strayBytes, length_bOpt, length_bOpt 2 _ b2 length_b2]

theorem length_strayListBytes (s : State) (view : List StrayEntry) (pos : Nat) :
    (strayListBytes s view pos).length = 59 := by
  simp [strayListBytes, length_bPlaces]

/-! ### Notices and the reset cause (section 11.3) -/

theorem length_fetchNotice (r : NoticeRecord) : r.fetchNotice.2.length = 5 := by
  cases h : r.callingGroup <;> simp [NoticeRecord.fetchNotice, h]

theorem length_causeBytes (s : State) : (causeBytes s).length = 5 := by
  simp [causeBytes]

/-- Settles O5. -/
theorem returnedRecordsHaveTheirSizes : Obligations.returnedRecordsHaveTheirSizes := fun s =>
  ⟨fun _ => length_windowBytes s, length_rangeBytes, length_causeBytes s, length_fetchNotice, length_entryBytes,
    length_strayBytes, fun e n => by simp, length_strayListBytes s, fun t x => by simp, length_chuteBytes s,
    length_statusBytes s, length_inductionBytes s⟩

end Sys2Proof.Machine
end
